-- ==== Sys2Proof/Word.lean ====
section
/-! DEFINITION. The word types of the Elfaora: bytes, 128-bit code words (R273), 64 B sectors (R17), 1,024-bit Wiboni flits (R348). -/

namespace Sys2Proof

/-- One byte. -/
abbrev Byte := BitVec 8

/-- One 128-bit data or control word, the unit of the (138,128) code (R273). -/
abbrev Word128 := BitVec 128

/-- The 64 bytes of one sector, byte `i` at bits [8i+7:8i] (R17). -/
abbrev Sector := BitVec 512

/-- A byte mask over one sector, bit `i` standing for byte `i` (R68). -/
abbrev Mask64 := BitVec 64

/-- A Wiboni flit (R348). -/
abbrev Flit := BitVec 1024

/-- The 18-bit pointer layout and other small fields are plain bit vectors of their own widths. -/
abbrev Word64 := BitVec 64

end Sys2Proof
end

