-- ==== Sys2Proof/Syntax.lean ====
section
/-! DEFINITION. The commands of the block: one constructor for each row of the table of operations and events, with the operands that come from outside the device. A docstring names the rule that governs the row. -/

namespace Sys2Proof

/-- The carriers of object frames (R397). -/
inductive Transport where
  | fieldBusA
  | fieldBusB
  | i3c
  | mailbox (port : Nat)
  deriving DecidableEq, Repr

/-- A client of the object dictionary: its transport and the CLIENT field of its frames (R385). -/
structure Client where
  transport : Transport
  number : Nat
  deriving DecidableEq, Repr

/-- A unit that holds a region lookaside buffer: a quad (R43) or a queue processor (R134). -/
inductive LookUnit where
  | quad (n : Nat)
  | qp (n : Nat)
  deriving DecidableEq, Repr

/-- How a pool expander answered an access (R342). -/
inductive PoolStatus where
  | ok
  | poisoned
  | failed
  deriving DecidableEq, Repr

/-- One 64 B answer of the pool with the MAC sector read beside it (R235, R241). -/
structure PoolAnswer where
  status : PoolStatus
  data : Sector
  mac : Sector
  deriving DecidableEq, Repr

/-- Where a snoop answer comes from: a local host port under an HPA, or a flight peer that relays the answer of one of its ports (R106, R351). -/
inductive SnoopSource where
  | port (port : Nat) (hpa : Nat)
  | peer (position : Nat) (port : Nat) (marker : Nat) (dpa : Nat)
  deriving DecidableEq, Repr

/-- A write's data: 64 B, the bytes it carries, and the poison mark of its carrier (R280). -/
structure WriteData where
  data : Sector
  mask : Mask64
  poison : Bool
  deriving DecidableEq, Repr

/-- The snoop opcodes that a home sends (R106). -/
inductive SnoopKind where
  | inv
  | data
  | cur
  deriving DecidableEq, Repr

/-- Whom a snoop names at a device: one marker of a port, or marker ALL of every port but a pair (R97, R98, R109). -/
inductive SnoopWhom where
  | one (port marker : Nat)
  | all (except : Option (Nat × Nat))
  /-- Every marker of a port but one (R108). -/
  | portAll (port except : Nat)
  deriving DecidableEq, Repr

/-- What a peer's answer to a span PREPARE says (R215, step 3): ready, or the refusal's result code. -/
inductive SpanReply where
  | ready
  | refused (code : Nat)
  deriving DecidableEq, Repr

/-- The published membership record of a device (R364). -/
structure MemberRecord where
  device : Nat
  state : Nat
  leader : Nat
  flightSize : Nat
  fwLevel : Nat
  stepping : Nat
  digest : BitVec 64
  epoch : Nat
  time : Nat
  errorPs : Nat
  trusted : Bool
  timeMaster : Bool
  ppsQualified : Bool
  reason : Nat
  deriving DecidableEq, Repr

/-- What the IDENTIFY exchange of a Wiboni link carries (R347, step 4). -/
structure IdentifyRecord where
  device : Nat
  link : Nat
  flightSize : Nat
  fwLevel : Nat
  stepping : Nat
  epoch : Nat
  digest : BitVec 64
  deriving DecidableEq, Repr

/-- One answer to a part request: the result record of R195, the absent reason, and a relay's lacking members (R219, R352). -/
structure PartAnswer where
  result : BitVec 128
  reason : Nat
  lacked : BitVec 32
  deriving DecidableEq, Repr

/-- The kinds of table sub-operation that an owner sends to a holder (R206, R207). -/
inductive SubOp where
  /-- Step 1 of an insert: reserve free rows. -/
  | reserve
  /-- Steps 2 to 4: stage and apply the copies; copies that the entry has already stay beside them. -/
  | apply
  /-- Apply every copy invalid and free its rows. -/
  | remove
  /-- Rewrite priority or datum of every copy. -/
  | rewrite
  /-- A change with a new key was refused: what was reserved is free again, the old copies stay (R203). -/
  | discard
  /-- Delete the old copies beside the new ones (R207). -/
  | trim
  /-- Apply the new copies and delete the old ones: an update that was left pending (R208). -/
  | replace
  /-- A command for an entry that is owned here, forwarded by the device that accepted it with its whole header (R204). -/
  | command (header : BitVec 256)
  /-- Undo the INSERT that was forwarded under the tag named in place of the entry (R208). -/
  | undo
  /-- A copy of the entry was withdrawn as LOST: told to the owner, and by it to every other holder (R212). -/
  | lost
  /-- Updates of the chart are pending for a device, or are so no more (R208). -/
  | pending (device : Nat) (still : Bool)
  deriving DecidableEq, Repr

/-- A sub-operation under its sender's tag (R209, R356). -/
structure TaggedOp where
  tag : Nat
  op : SubOp
  deriving DecidableEq, Repr

/-- The Elfaora's commands, one per row of the table of operations and events. -/
inductive Instr where
  -- Host requests (R105, R109, R110)
  /-- RD_S. -/
  | rdS (port hpa tag : Nat)
  /-- RD_ANY. -/
  | rdAny (port hpa tag : Nat)
  /-- RD_OWN. -/
  | rdOwn (port hpa tag : Nat)
  /-- UPG. -/
  | upg (port hpa tag : Nat)
  /-- RD_NC. -/
  | rdNc (port hpa tag : Nat)
  /-- INV_NC. -/
  | invNc (port hpa tag : Nat)
  /-- WR_NC. -/
  | wrNc (port hpa tag : Nat) (w : WriteData)
  /-- WB_I. -/
  | wbI (port hpa tag : Nat) (w : WriteData)
  /-- WB_S. -/
  | wbS (port hpa tag : Nat) (w : WriteData)
  /-- WB_E. -/
  | wbE (port hpa tag : Nat) (w : WriteData)
  /-- CLN_EVICT. -/
  | clnEvict (port hpa tag : Nat)
  /-- SPEC (R105): dropped without a response. -/
  | spec (port hpa tag : Nat)
  /-- A CXL.io memory request into the HDM range (R117): a read, or a write of `w`. -/
  | cxlIoMemoryRequest (port hpa tag : Nat) (w : Option WriteData)
  -- Decode and admission (R44, R306 to R313)
  /-- The oldest returned system-chart result of a unit (R44). -/
  | lookasideMissResult (unit : LookUnit)
  /-- The oldest transaction that waits at a unit's regulator interface (R306); for a queue processor also the next sector operation of a bulk command (R147). -/
  | admissionRequest (unit : LookUnit)
  /-- The regulator checks the deadline of one transaction (R313). -/
  | guaranteeMiss (txn : Nat)
  -- Cache slices (R51 to R88)
  /-- The fill of a miss register (R56). -/
  | fill (slice reg : Nat)
  | missWaitServe (slice : Nat)
  | writeBufferWaitReadIssue (slice reg : Nat)
  /-- A prefetch of the block at `dpa` handed over by another slice, with the demand's region and service class (R64). -/
  | crossBlockPrefetch (dpa region svc : Nat)
  | writeBufferAdmit (slice : Nat)
  | mergeWindowExpiry (slice : Nat) (dpa : Nat)
  | pendingPoolWriteIssue (slice : Nat) (dpa : Nat)
  | poolWriteEncrypt (id : Nat)
  /-- The page reads of a re-encryption return: 64 sectors, each with its MAC sector (R248). -/
  | pageReencryptReadsDone (id : Nat) (answers : List PoolAnswer)
  | poolWriteCompletion (id : Nat) (ok : Bool)
  | poolReadResponse (id : Nat) (answer : PoolAnswer)
  | poolTimeoutExpiry (id : Nat)
  -- Cache commands (R85, R77, R80)
  | cacheEnable (client : Client) (ctag : Nat)
  | cacheDisable (client : Client) (ctag : Nat)
  | cacheInvalidate (client : Client) (ctag : Nat)
  | cacheMoor (client : Client) (ctag : Nat) (ways : Nat)
  | cacheUndrydock (client : Client) (ctag : Nat) (slice way : Nat)
  -- The home (R90 to R129)
  | requesterAck (dpa : Nat)
  | blockedRequestStart (slice : Nat)
  | dwellElapsed (dpa : Nat)
  | reverseWalkDone (port dpa marker : Nat)
  /-- `blk` marks a block-size response opcode (event 3011). -/
  | birspi (source : SnoopSource) (blk : Bool)
  | birsps (source : SnoopSource) (blk : Bool)
  | birspe (source : SnoopSource) (blk : Bool)
  | biconflict (port hpa : Nat)
  | snoopTimeout (dpa : Nat)
  | poisonWriteDone (dpa : Nat)
  | poisonRetry (dpa : Nat)
  | setRecallSweepStep (slice set : Nat)
  | forwardedSnoop (home : Nat) (kind : SnoopKind) (whom : SnoopWhom) (dpa : Nat)
  /-- `data` is present when the response carries a sector; `cmp` is the NDR completion: 0 none, 1 Cmp (or the swap of an atomic), 2 Cmp-S, 3 Cmp-E; 8 more for a queue's access performed as two; or 0x8101 for a queue's operation that the target answers as unmapped. -/
  | forwardedResponse (peer tag : Nat) (data : Option Sector) (poison : Bool) (cmp : Nat)
  -- Work queues (R133 to R164)
  | queueEnable (client : Client) (queue : Nat)
  | queueDisable (client : Client) (queue : Nat)
  | queueReset (client : Client) (queue : Nat)
  | queueDrainDone (queue : Nat)
  | sqTailDoorbell (port queue : Nat) (value : BitVec 32)
  | cqHeadDoorbell (port queue : Nat) (value : BitVec 32)
  /-- A host access through the queue BAR's Chamber RAM window: a read of `len` bytes, or a write. -/
  | chamberWindowAccess (port offset len : Nat) (write : Option (List Byte))
  /-- `hostRead` is the answer of the CXL.io read of a host-memory ring: the entry, or a failed or poisoned read. -/
  | entryFetch (queue : Nat) (hostRead : Option Sector)
  | read (queue pos : Nat)
  | write (queue pos : Nat)
  | cas128 (queue pos : Nat)
  | swap128 (queue pos : Nat)
  | fadd64 (queue pos : Nat)
  | zero (queue pos : Nat)
  | copy (queue pos : Nat)
  | search (queue pos : Nat)
  /-- `hostKeys` is the key list of a host-memory ring. -/
  | searchBurst (queue pos : Nat) (hostKeys : List Byte)
  /-- `hostBlock` is the command block of a host-memory ring. -/
  | table (queue pos : Nat) (hostBlock : List Byte)
  | fenceL (queue pos : Nat)
  | fenceS (queue pos : Nat)
  | fenceF (queue pos : Nat)
  | storeBufferIssue (queue : Nat)
  | queueResponse (qp : Nat)
  -- The search engine (R169 to R199)
  | searchResult (id : Nat)
  -- Charts and table commands (R183 to R222)
  | chartCommit (client : Client) (ctag : Nat) (chart : Nat)
  | chartDrop (client : Client) (ctag : Nat) (chart : Nat)
  | chartMove (client : Client) (ctag : Nat) (chart : Nat)
  | chartAdmit (client : Client) (ctag : Nat) (chart device : Nat)
  | chartRelease (client : Client) (ctag : Nat) (chart device : Nat)
  | tableExec (client : Client) (ctag : Nat) (chart : Nat) (block : List Byte)
  /-- The next table command queued for a chart, when it is an INSERT (R206). -/
  | insert (chart : Nat)
  | delete (chart : Nat)
  | modify (chart : Nat)
  | readback (chart : Nat)
  /-- A sub-operation, under its sender's tag (R206, R209): the kind, the entry and its stored form; of a forwarded command VALUE and MASK as given. -/
  | tableSubOperation (owner chart : Nat) (op : TaggedOp) (entry : Nat) (value mask : BitVec 512) (priority : Nat) (datum : BitVec 64)
  /-- A holder's confirmation of the sub-operation that was sent to it under a tag: `ok` false refuses (no free rows); the index of its copy in its lowest group and the rows it uses, and for a command that it owns and ran the result block. -/
  | holderConfirm (holder tag : Nat) (ok : Bool) (index rows : Nat) (result : List Byte)
  | holderConfirmTimeout (entry : Nat)
  | dedupRecordExpiry (client cseq : Nat)
  | prepare (coordinator chart generation : Nat) (word1 word0 : Word128) (dmap : List Nat) (members : List Nat) (drop : Bool) (instant : Nat)
  | ready (member chart : Nat) (reply : SpanReply)
  | spanReadyDeadline (chart : Nat)
  | abort (chart generation : Nat)
  | spanApply (chart : Nat)
  | applied (member chart : Nat)
  | spanConfirmTimeout (chart : Nat)
  -- Cascade searches (R217 to R220)
  | cascadeLaunch (id : Nat)
  /-- A part request arrives on a link: the fields of its header, and its key (R352). -/
  | partRequest (link chart gen : Nat) (stamp : BitVec 32) (launch : Nat) (key : BitVec 512)
  | partNoSlot (id : Nat)
  | partAnswer (link member : Nat) (launch : Nat) (answer : PartAnswer)
  | relayDeadline (id : Nat)
  | cascadeRelease (id : Nat)
  -- Memory protection (R225 to R270)
  /-- The node reads of walk `id` return, one answer for each level fetched, top level first (R241). -/
  | nodeReadResponse (id : Nat) (answers : List PoolAnswer)
  | nodeWritebackDone (root level index : Nat) (ok : Bool)
  | nodeRetry (root level index : Nat)
  | rkValue (dpa : Nat)
  | rkWriteStart (dpa : Nat)
  | protInit (client : Client) (ctag : Nat) (root : Nat)
  | protRelease (client : Client) (ctag : Nat) (root : Nat)
  | protReknit (client : Client) (ctag : Nat) (root slot : Nat)
  | protEnable (client : Client) (ctag : Nat)
  | protDisable (client : Client) (ctag : Nat)
  | kekEstablish (client : Client) (ctag : Nat) (publicKey : List Byte)
  | kekClear (client : Client) (ctag : Nat)
  | keyLoad (client : Client) (ctag : Nat) (slot : Nat) (wrapped : List Byte)
  | keyErase (client : Client) (ctag : Nat) (slot : Nat)
  -- RAS (R283 to R303)
  | scrubRead (bucket : Nat)
  | bucketLeak (cls : Nat)
  | hostNotify (port : Nat)
  | transportNotify (transport : Transport)
  | alertAck (client : Client) (seq : Nat)
  | faultSummaryClear (client : Client) (value : Nat)
  | fatalLogClear (client : Client) (value : Nat)
  | injectArm (client : Client) (value : Nat)
  | injectBucket (client : Client) (value : Nat)
  | scrubEnable (client : Client) (value : Nat)
  -- Object writes with behaviour of their own
  | ctxEntry (client : Client) (ctx : Nat) (value : Word128)
  | ctxPeak (client : Client) (ctx value : Nat)
  | wbHighWater (client : Client) (slice value : Nat)
  | portSuspectClear (client : Client) (port value : Nat)
  | lookasideFlush (client : Client) (value : Nat)
  | powerCap (client : Client) (value : Nat)
  /-- A write of ROW_SELECT, or of ROW_SOURCE when `source` is set. -/
  | rowSelect (client : Client) (source : Bool) (value : Nat)
  /-- A write of BCLASS_LEAK_INTERVAL of class `cls`, or of DRYDOCK_LEAK_INTERVAL when `cls` is none. -/
  | leakIntervalWrite (client : Client) (cls : Option Nat) (value : Nat)
  -- Region commands (R38 to R45)
  | regionCommit (client : Client) (ctag : Nat) (region : Nat)
  | regionDelete (client : Client) (ctag : Nat) (region : Nat)
  | regionFreeze (client : Client) (ctag : Nat) (region : Nat)
  | regionThaw (client : Client) (ctag : Nat) (region : Nat)
  -- The dump engine (R320 to R326)
  | dumpRecordDeadline (ring : Nat)
  | dumpEnable (client : Client) (ring : Nat)
  | dumpDisable (client : Client) (ring : Nat)
  | dumpHeadDoorbell (port ring : Nat) (value : BitVec 32)
  | dumpHead (client : Client) (ring : Nat) (value : BitVec 32)
  -- Ports (R331 to R343)
  | portControlDisable (client : Client) (port value : Nat)
  | portConfig (client : Client) (port : Nat) (value : BitVec 32)
  | quadRole (client : Client) (quad value : Nat)
  | targetDesc (client : Client) (target : Nat) (value : Word128)
  | linkEnable (client : Client) (link value : Nat)
  /-- A write of an object through a frame already checked for form: the value as it would be written, for the items that the client's selections name (R383). -/
  | objectWrite (client : Client) (index sub : Nat) (data : List Byte)
  | perPortCxlReset (port : Nat)
  | portResetDrainDone (port : Nat)
  | hostLinkDown (port : Nat)
  /-- The speed code (0 is 64 GT/s, 1 is 32 GT/s, 2 is 16 GT/s) and the lanes that the link partner supports. -/
  | portLinkUp (port speed lanes : Nat)
  | ideFailure (port : Nat)
  | poolEnumerationDone (port : Nat) (usable : Bool)
  -- Wiboni links (R344 to R356)
  | linkRetryTimer (link : Nat)
  | identify (link : Nat) (peer : IdentifyRecord)
  | measureDone (link delayPs legPs : Nat)
  | flitReceive (link : Nat) (flit : Flit) (fecCorrected : Nat)
  | ackTimeout (link : Nat)
  | linkSilence (link : Nat)
  | linkDown (link : Nat)
  | tailRecordExpiry (link : Nat)
  | resendWindowExpiry (link : Nat)
  | linkStateVector (device : Nat) (vector : Word128)
  -- Canal time and membership (R358 to R372)
  /-- The four stamps of one exchange pair in 1/256 tick, and the upstream's error estimate in ps (R360). -/
  | timeFlit (link t1 t2 t3 t4 errorPs : Nat)
  | membershipRecord (record : MemberRecord)
  | memberSilence (device : Nat)
  | epochAnnounce (epoch leader : Nat) (members : List Nat) (instant : Nat)
  | canalSet (client : Client) (ctag : Nat) (index sub : Nat) (value : BitVec 64)
  | canalSetConfirmTimeout (device : Nat)
  | canalLeave (client : Client) (ctag : Nat)
  | canalJoin (client : Client) (ctag : Nat)
  | linkRetrain (client : Client) (ctag : Nat) (link : Nat)
  -- Frames and the command entry (R379 to R407)
  | frameRead (transport : Transport) (header : Word128)
  | frameWrite (transport : Transport) (header : Word128) (data : List Byte)
  | segRead (transport : Transport) (header : Word128)
  | segWrite (transport : Transport) (header : Word128) (data : List Byte)
  | segCancel (transport : Transport) (header : Word128)
  | segTimeout (client : Client) (index sub : Nat)
  | segReadClose (client : Client) (index sub : Nat)
  | objDedupExpiry (client : Client) (seq : Nat)
  | cmdSubmit (client : Client) (record : List Byte)
  | nop (client : Client) (ctag : Nat)
  | watchdogExpiry (cores : BitVec 4)
  -- Mailbox commands (R400)
  | objectFrame (port : Nat) (payload : List Byte)
  | identifyDevice (port : Nat)
  | backgroundOperationStatus (port : Nat)
  | getEventRecords (port : Nat)
  | clearEventRecords (port : Nat)
  | getEventInterruptPolicy (port : Nat)
  | setEventInterruptPolicy (port : Nat) (policy : BitVec 32)
  | getFwInfo (port : Nat)
  | transferFw (port : Nat)
  | activateFw (port : Nat)
  | getSupportedLogs (port : Nat)
  | getLog (port : Nat)
  | identifyMemoryDevice (port : Nat)
  -- MCTP control and field bus (R398, R399)
  | setEndpointId (eid : BitVec 8)
  | dynamicAddressAssignment (address : BitVec 7)
  /-- A neighbour solicitation for `target` from `source`, or a duplicate address probe. -/
  | neighbourDiscovery (bus : Bool) (target source : Word128)
  | icmpv6Echo (bus : Bool) (target source : Word128) (payload : List Byte)
  | fieldBusDown (bus : Bool)
  -- Resets, power and pins (R413 to R436, R441, R448)
  /-- The length of the low, in ns. -/
  | resetNAssert (lowNs : Nat)
  /-- The straps as sampled, the memory self-test's failing words (store 0 is the cache data layers, with slice and way), and the failing checkers. -/
  | resetNRelease (straps : BitVec 32) (badWays : List (Nat × Nat)) (badWords : List (Nat × Nat)) (badCheckers : List Nat) (romOk : Bool)
  | startupDone (client : Client) (ctag : Nat)
  | warmReset (client : Client) (ctag : Nat)
  | warmDrainEnd (badCheckers : List Nat) (romOk : Bool)
  /-- The length of the low in ns, and the edges seen within 1 ms (R433). -/
  | pfailNAssert (lowNs edges : Nat)
  /-- The reading of an on-die sensor in degrees Celsius. -/
  | coldSensorChange (sensor : Nat) (celsius : Int)
  -- Rows for outside occurrences that end a state
  | poolLinkDown (port : Nat)
  | fieldBusUp (bus : Bool)
  | linkTrainingFailure (link : Nat)
  | ideActivation (port : Nat)
  | hdmDecoderCommit (port base : Nat)
  | chartWordReload (chart : Nat)
  | keySlotRestore (pound slot : Nat)
  | firmwareTableRestore (word : Nat)
  | regulatorWordRestore (word : Nat)
  -- Rows without operands
  | slotOffer
  | drydockLeak
  | cacheDrainDone
  | invalidatePassDone
  | moorFillsDone
  | wayZeroingDone
  | retireSweepStart
  | retireSweepDone
  | searchIssue
  | applyGroupWrite
  | sweepRead
  | sweepPeriodMiss
  | pendingUpdateResend
  | rkRead
  | rkWriteEncrypt
  | reknitStall
  | protFlushDone
  | scrubPeriodMiss
  | regionDrainDone
  | snapshotInstant
  | linkStateVectorSend
  | timeFlitSend
  | timeLockTimeout
  | ppsEdge
  | ppsStuck
  | membershipPublish
  | epochApply
  | quarantineReport
  | commandAccept
  | getEndpointId
  | getMctpVersionSupport
  | getMessageTypeSupport
  | getVendorDefinedMessageSupport
  | pwrokLow
  | startupTimeout
  | warmRestoreDone
  | pfDrainDeadline
  | pfailNStuck
  | thermalTrip
  | avsRetry
  | avsAck
  | pfailNHigh
  deriving DecidableEq, Repr

end Sys2Proof
end

