-- ==== Sys2Proof/WellFormed.lean ====
section
/-! DEFINITION. Well-formed commands: the operands name items that the device has and fit the fields that carry them: ports, quads and links (R32, R331, R344), slices and sets (R52, R94), addresses (R16, R17), queues and queue processors (R133), charts (R178), devices (R344), buckets (R283), and the fields of records, messages and flits (R133, R200, R348, R352, R364, R391, R402). What a client, a host or a peer can send and the device refuses is no matter of this file: the command's own meaning answers that. -/

namespace Sys2Proof

/-- Ports (R32), quads, Wiboni links (R344) are numbered 0 to 127. -/
def portOk (n : Nat) : Bool := decide (n < 128)

/-- Slices 0 to 63 (R52). -/
def sliceOk (n : Nat) : Bool := decide (n < 64)

/-- A 45-bit device physical address (R17). -/
def dpaOk (n : Nat) : Bool := decide (n < 2 ^ 45)

/-- A 64-bit host physical address (R16). -/
def hpaOk (n : Nat) : Bool := decide (n < 2 ^ 64)

/-- A device number (R344). -/
def deviceOk (n : Nat) : Bool := decide (n < 1024)

/-- A queue number (R133). -/
def queueOk (n : Nat) : Bool := decide (n < 4096)

/-- A chart number (R178). -/
def chartOk (n : Nat) : Bool := decide (n < 256)

/-- A value that an 8-bit, 16-bit, 32-bit or 64-bit field of a record or frame can carry. -/
def fits (bits n : Nat) : Bool := decide (n < 2 ^ bits)

/-- A lookaside unit (R43, R134). -/
def LookUnit.ok : LookUnit → Bool
  | .quad n => portOk n
  | .qp n => decide (n < 32)

/-- A client: its mailbox is one of a port's, and its number fits the CLIENT field (R391). -/
def Client.ok (c : Client) : Bool :=
  fits 16 c.number && match c.transport with
    | .mailbox p => portOk p
    | _ => true

def Transport.ok : Transport → Bool
  | .mailbox p => portOk p
  | _ => true

/-- Where an answer to a snoop comes from (R106, R351). -/
def SnoopSource.ok : SnoopSource → Bool
  | .port p h => portOk p && hpaOk h
  | .peer pos p m d => decide (pos < 32) && portOk p && decide (m < 64) && dpaOk d

def SnoopWhom.ok : SnoopWhom → Bool
  | .one p m => portOk p && decide (m < 64)
  | .all none => true
  | .portAll p m => portOk p && decide (m < 64)
  | .all (some (p, m)) => portOk p && decide (m < 64)

/-- The request of a host: its port and address. -/
def reqOk (port hpa : Nat) : Bool := portOk port && hpaOk hpa

/-- A command of a client with its CTAG (R402). -/
def cmdOk (c : Client) (ctag : Nat) : Bool := c.ok && fits 32 ctag

/-- Whether a command's operands name items that the device has. -/
def Instr.wellFormed : Instr → Bool
  | .rdS p h _ | .rdAny p h _ | .rdOwn p h _ | .upg p h _ | .rdNc p h _ | .invNc p h _
  | .wrNc p h _ _ | .wbI p h _ _ | .wbS p h _ _ | .wbE p h _ _ | .clnEvict p h _ | .spec p h _
  | .cxlIoMemoryRequest p h _ _ => reqOk p h
  | .lookasideMissResult u | .admissionRequest u => u.ok
  | .slotOffer | .guaranteeMiss _ => true
  | .fill s _ | .missWaitServe s | .writeBufferWaitReadIssue s _ | .writeBufferAdmit s => sliceOk s
  | .crossBlockPrefetch d r c => dpaOk d && decide (r < 32768) && decide (c < 8)
  | .mergeWindowExpiry s d | .pendingPoolWriteIssue s d => sliceOk s && dpaOk d
  | .poolWriteEncrypt _ | .poolWriteCompletion _ _ | .poolReadResponse _ _ | .poolTimeoutExpiry _ => true
  | .pageReencryptReadsDone _ l => decide (l.length = 64)
  | .drydockLeak => true
  | .cacheEnable c t | .cacheDisable c t | .cacheInvalidate c t => cmdOk c t
  | .cacheMoor c t _ | .cacheUndrydock c t _ _ => cmdOk c t
  | .cacheDrainDone | .invalidatePassDone | .moorFillsDone | .wayZeroingDone => true
  | .requesterAck d | .dwellElapsed d | .snoopTimeout d | .poisonWriteDone d | .poisonRetry d => dpaOk d
  | .blockedRequestStart s => sliceOk s
  | .reverseWalkDone p d m => portOk p && dpaOk d && decide (m < 64)
  | .birspi s _ | .birsps s _ | .birspe s _ => s.ok
  | .biconflict p h => reqOk p h
  | .retireSweepStart | .retireSweepDone => true
  | .setRecallSweepStep s k => sliceOk s && decide (k < 32768)
  | .forwardedSnoop h _ w d => deviceOk h && w.ok && dpaOk d
  | .forwardedResponse p t _ _ c => deviceOk p && fits 16 t && (decide (c < 4) || decide (8 ≤ c) && decide (c < 12) || c == 0x8101)
  | .queueEnable c _ | .queueDisable c _ | .queueReset c _ => c.ok
  | .queueDrainDone q | .storeBufferIssue q => queueOk q
  | .sqTailDoorbell p q _ | .cqHeadDoorbell p q _ => portOk p && queueOk q
  | .chamberWindowAccess p o _ _ => portOk p && fits 64 o
  | .entryFetch q _ => queueOk q
  | .read q p | .write q p | .cas128 q p | .swap128 q p | .fadd64 q p | .zero q p | .copy q p
  | .search q p | .fenceL q p | .fenceS q p | .fenceF q p => queueOk q && fits 32 p
  | .searchBurst q p _ | .table q p _ => queueOk q && fits 32 p
  | .queueResponse n => decide (n < 32)
  | .searchIssue | .searchResult _ | .applyGroupWrite | .sweepRead | .sweepPeriodMiss => true
  | .chartCommit c t _ | .chartDrop c t _ | .chartMove c t _ | .chartAdmit c t _ _ | .chartRelease c t _ _
  | .tableExec c t _ _ => cmdOk c t
  | .insert n | .delete n | .modify n | .readback n => chartOk n
  | .tableSubOperation o n op e _ _ p _ => deviceOk o && chartOk n && fits 16 op.tag && fits 32 e && fits 20 p &&
    (match op.op with
      | .pending d _ => deviceOk d
      | _ => true)
  | .holderConfirm h e _ i n _ => deviceOk h && fits 16 e && fits 21 i && fits 15 n
  | .holderConfirmTimeout _ | .pendingUpdateResend | .dedupRecordExpiry _ _ => true
  | .prepare d n g _ _ dm ms _ _ =>
    deviceOk d && chartOk n && fits 16 g && decide (dm.length ≤ 256) && ms.all deviceOk
  | .ready m n _ | .applied m n => deviceOk m && chartOk n
  | .spanReadyDeadline n | .spanApply n | .spanConfirmTimeout n => chartOk n
  | .abort n g => chartOk n && fits 16 g
  | .cascadeLaunch _ | .partNoSlot _ | .relayDeadline _ | .cascadeRelease _ => true
  | .partRequest l n g _ t _ => portOk l && chartOk n && fits 16 g && fits 64 t
  | .partAnswer l m t _ => portOk l && deviceOk m && fits 64 t
  | .nodeReadResponse _ _ | .nodeWritebackDone _ _ _ _ | .nodeRetry _ _ _ => true
  | .rkRead | .rkWriteEncrypt | .reknitStall => true
  | .rkValue d | .rkWriteStart d => dpaOk d
  | .protInit c t _ | .protRelease c t _ | .protReknit c t _ _
  | .protEnable c t | .protDisable c t | .kekClear c t => cmdOk c t
  | .protFlushDone => true
  | .kekEstablish c t _ | .keyLoad c t _ _ | .keyErase c t _ => cmdOk c t
  | .scrubRead b => decide (b < 384)
  | .scrubPeriodMiss => true
  | .bucketLeak c => decide (c < 15)
  | .hostNotify p => portOk p
  | .transportNotify t => t.ok
  | .alertAck c _ | .faultSummaryClear c _ | .fatalLogClear c _ | .injectArm c _ | .scrubEnable c _
  | .lookasideFlush c _ | .powerCap c _ | .injectBucket c _ | .ctxEntry c _ _ | .ctxPeak c _ _
  | .wbHighWater c _ _ | .portSuspectClear c _ _ | .rowSelect c _ _ | .leakIntervalWrite c _ _ => c.ok
  | .regionCommit c t _ | .regionDelete c t _ | .regionFreeze c t _ | .regionThaw c t _ => cmdOk c t
  | .regionDrainDone | .snapshotInstant => true
  | .dumpRecordDeadline r => decide (r < 16)
  | .dumpHeadDoorbell p r _ => portOk p && decide (r < 16)
  | .dumpEnable c _ | .dumpDisable c _ | .dumpHead c _ _ | .portControlDisable c _ _ | .portConfig c _ _ | .quadRole c _ _
  | .targetDesc c _ _ | .linkEnable c _ _ => c.ok
  | .objectWrite c i s _ => c.ok && fits 16 i && fits 8 s
  | .perPortCxlReset p | .portResetDrainDone p | .hostLinkDown p | .ideFailure p
  | .poolEnumerationDone p _ | .poolLinkDown p | .ideActivation p => portOk p
  | .portLinkUp p v n => portOk p && decide (v < 3) && decide (n ≤ 16)
  | .linkRetryTimer l | .ackTimeout l | .linkSilence l | .linkDown l | .tailRecordExpiry l
  | .resendWindowExpiry l | .linkTrainingFailure l => portOk l
  | .identify l r => portOk l && deviceOk r.device && portOk r.link
  | .measureDone l _ _ => portOk l
  | .flitReceive l _ n => portOk l && decide (n ≤ 30)
  | .linkStateVectorSend => true
  | .linkStateVector d _ => deviceOk d
  | .timeFlitSend | .timeLockTimeout | .ppsEdge | .ppsStuck | .membershipPublish => true
  | .timeFlit l a b c d _ => portOk l && fits 72 a && fits 72 b && fits 72 c && fits 72 d
  | .membershipRecord r => deviceOk r.device && deviceOk r.leader && decide (r.state < 5)
  | .memberSilence d | .canalSetConfirmTimeout d => deviceOk d
  | .epochAnnounce e l ms _ => fits 32 e && deviceOk l && ms.all deviceOk
  | .epochApply | .quarantineReport => true
  | .canalSet c t i s _ => cmdOk c t && fits 16 i && fits 8 s
  | .canalLeave c t | .canalJoin c t | .nop c t | .startupDone c t | .warmReset c t => cmdOk c t
  | .linkRetrain c t _ => cmdOk c t
  | .frameRead t _ | .segRead t _ | .segCancel t _ => t.ok
  | .frameWrite t _ _ | .segWrite t _ _ => t.ok
  | .segTimeout c i s | .segReadClose c i s => c.ok && fits 16 i && fits 8 s
  | .objDedupExpiry c q => c.ok && fits 16 q
  | .cmdSubmit c _ => c.ok
  | .commandAccept | .watchdogExpiry _ => true
  | .objectFrame p _ => portOk p
  | .identifyDevice p | .backgroundOperationStatus p | .getEventRecords p | .clearEventRecords p
  | .getEventInterruptPolicy p | .setEventInterruptPolicy p _ | .getFwInfo p | .transferFw p
  | .activateFw p | .getSupportedLogs p | .getLog p | .identifyMemoryDevice p => portOk p
  | .setEndpointId _ | .getEndpointId | .getMctpVersionSupport | .getMessageTypeSupport
  | .getVendorDefinedMessageSupport | .dynamicAddressAssignment _ => true
  | .neighbourDiscovery _ _ _ => true
  | .icmpv6Echo _ _ _ _ => true
  | .fieldBusDown _ | .fieldBusUp _ => true
  | .pwrokLow | .resetNAssert _ | .startupTimeout | .warmRestoreDone => true
  | .resetNRelease _ ws _ cs _ =>
    ws.all (fun p => decide (p.1 < 64) && decide (p.2 < 16)) && cs.all fun c => decide (c < 689)
  | .warmDrainEnd cs _ => cs.all fun c => decide (c < 689)
  | .pfailNAssert _ _ | .pfDrainDeadline | .pfailNStuck | .thermalTrip | .avsRetry | .avsAck
  | .pfailNHigh => true
  | .coldSensorChange n _ => decide (n < 16)
  | .hdmDecoderCommit p b => portOk p && hpaOk b
  | .chartWordReload n => chartOk n
  | .keySlotRestore p k => decide (p < 2) && decide (k < 4096)
  | .firmwareTableRestore _ => true
  | .regulatorWordRestore w => decide (w < 40960)

end Sys2Proof
end

