-- ==== Sys2Proof/Decode.lean ====
section
/-! DEFINITION. Commands and words. The Elfaora has no instruction encoding: no row of the table of operations and events gives a bit pattern, so no word spells a command. -/

namespace Sys2Proof

/-- The command that a word spells by the bits of the table of operations and events: none, since no row of the table has bits. -/
def decodeTableWord (_nbits _w : Nat) : Option Instr := none

end Sys2Proof
end

