-- ==== Sys2Proof/Config.lean ====
section
/-! DEFINITION. The values that the manual leaves to manufacture, to a random source or to nature: opaque constants, so that nothing can be proved of a particular one. Each has a row in the assumption log. -/

namespace Sys2Proof.Config

/-- The device serial number of object 1000:05, set at manufacture (R409). -/
opaque serial : BitVec 64

/-- Filward's PCI-SIG Vendor ID, object 1000:08 (R409). -/
opaque vendorId : BitVec 16

/-- The CRC-32C of the ROM image, object 1008:03 (R409). -/
opaque romCrc : BitVec 32

/-- The I3C provisioned ID of object 1102:03, set at manufacture (R410). -/
opaque i3cPid : BitVec 48

/-- The private part of the device's P-384 key pair (R253). -/
opaque privateKey : Nat

/-- The certificate of object 4000:04, signed at manufacture (R253). -/
opaque certificate : List Byte

/-- The fused core voltage VAVS in millivolts, set at manufacture (R441). -/
opaque vavs : Nat

/-- The tree key drawn from the on-die random source at the `n`-th cold reset (R232). -/
opaque treeKey : Nat → BitVec 256

/-- The soft error, if any, that the `n`-th cycle brings: the leaky bucket of the structure hit (R283), the word in it, and the bits of the codeword that flip (R273). -/
opaque softError : Nat → Option (Nat × Nat × BitVec 138)

/-- The contents of a word of host memory or of a register that the manual leaves open, for the `n`-th such value a run meets. -/
opaque freeValue : Nat → BitVec 64

/-- The data bits that accompany a poison mark for a sector: the manual gives the mark and no data (R109, R125). -/
opaque poisonData : Nat → BitVec 512

/-- The set that holds a lookaside entry of a granule (R43 gives 1,024 sets and no index function): unit, marker, granule size, granule number. -/
opaque lookasideSet : Nat → Nat → Nat → Nat → Nat

/-- The phase of the 0.8 ns cycles of a pound against the 1.0 ns cycles in which the model counts time, in quarters of a nanosecond (R20 gives the periods and no phase): slice pounds are 0 to 7, protection pounds 8 and 9. -/
opaque poundPhase : Nat → Nat

end Sys2Proof.Config
end

