-- ==== Sys2Proof/Machine/State.lean ====
section
/-! DEFINITION. The state of the Elfaora: every register, store, queue, counter, mode and pin that the manual gives the device, as plain data, the queue of waiting commands, and the state right after reset. -/

namespace Sys2Proof.Machine

/-- A sparse table in one canonical form: keys rise strictly, and no listed value equals what an unlisted key reads as. The operations are in `Machine/Ops.lean`. -/
abbrev Table (α : Type) := List (Nat × α)

/-! ### Requests and transactions -/

/-- Who issued a request to a home (R90, R91, R117, R120, R258). -/
inductive Origin where
  /-- A host on a local port. -/
  | host (port marker tag : Nat)
  /-- A CXL.io memory request on a local port (R117). -/
  | io (port marker tag : Nat)
  /-- A request forwarded by a peer device: its number, port, marker and tag (R90, R352). -/
  | peer (device port marker tag : Nat)
  /-- A sector operation of a queue: the entry's position and the number of the operation in it (R135). -/
  | queue (queue pos part : Nat)
  /-- The re-knit engine (R258). -/
  | reknit
  /-- A prefetch (R64). -/
  | prefetch
  /-- A poison write of the home (R125). -/
  | poison
  /-- A BIConflict of a host on a local port (R111). -/
  | conflict (port hpa : Nat)
  deriving DecidableEq, Repr

/-- The classes of request that a home serves (R105, R117, R118). -/
inductive ReqClass where
  | rdS | rdAny | rdOwn | upg | rdNc | invNc | wrNc | wbI | wbS | wbE | clnEvict
  | atomic
  deriving DecidableEq, Repr

/-- The operation of an atomic (R145). -/
inductive AtomicOp where
  | cas (compare new : Word128)
  | swap (new : Word128)
  | fadd (addend : Word64)
  deriving DecidableEq, Repr

/-- The admission classes (R306). -/
inductive SlotClass where
  | guaranteed
  | normal (level : Nat)
  | demoted
  deriving DecidableEq, Repr

/-- The four words of a sector with the poison bit of each (R273, R280). -/
structure SectorData where
  data : Sector := 0
  poison : BitVec 4 := 0
  deriving DecidableEq, Repr

/-- A request at, or on its way to, a home (R90, R105). -/
structure Req where
  id : Nat := 0
  origin : Origin := .poison
  cls : ReqClass := .rdNc
  dpa : Nat := 0
  ctx : Nat := 0
  region : Nat := 0
  svc : Nat := 0
  /-- The region's POLICY is CACHED. -/
  cached : Bool := true
  /-- The region's KIND (R36). -/
  kind : Nat := 0
  targetDev : Nat := 0
  w : WriteData := ⟨0, 0, false⟩
  /-- The atomic operation, when the class is `atomic`. -/
  op : Option AtomicOp := none
  /-- The slot it holds, none when it holds none (R305). -/
  slot : Option SlotClass := none
  /-- The request was answered already and only its home work remains. -/
  answered : Bool := false
  /-- A peer's queue or CXL.io request, which never becomes a holder (R91). -/
  agent : Bool := false
  /-- One sector of a bulk command (R147). -/
  bulk : Bool := false
  /-- Its write data became poison in the crossing into its slice pound (R277). -/
  lost : Bool := false
  /-- The OPCODE of the queue command that it belongs to, 0 for none (R145, R352). -/
  opcode : Nat := 0
  /-- The offset in its sector and the length in bytes of a READ or WRITE, and PAIR (R159). -/
  off : Nat := 0
  len : Nat := 64
  pair : Bool := false
  /-- An access that is not single-copy atomic: the size of its independent parts, 16 or 1; 0 for any other access (R159). -/
  grain : Nat := 0
  /-- Its bytes that the running home access performs, those that come after it, and what the earlier ones read. -/
  part : Mask64 := 0
  todo : Mask64 := 0
  got : SectorData := {}
  deriving DecidableEq, Repr

/-- The operation that PERM is checked against (R46). -/
inductive AccessOp where
  | read | write | atomic
  /-- A search: nothing is decoded. -/
  | search
  deriving DecidableEq, Repr

/-- A request before its decode, or between decode and home (R305 to R313). -/
structure Txn where
  req : Req
  unit : LookUnit
  access : AccessOp
  /-- The decode port, marker and window offset (R46). -/
  port : Nat
  marker : Nat
  offset : Nat
  /-- Arrival at the regulator, in ns. -/
  arrived : Nat := 0
  /-- The guarantee deadline in ns, 0 when there is none (R313). -/
  deadline : Nat := 0
  missed : Bool := false
  /-- Level waited at (R309). -/
  level : Nat := 0
  /-- Its class, once classified (R306). -/
  cls : SlotClass := .demoted
  /-- The decode event that it is answered with, 0 for none (R47). -/
  fault : Nat := 0
  /-- The number of the slot it holds (R314). -/
  slotNo : Nat := 0
  /-- The decode is done (R46). -/
  decoded : Bool := false
  /-- What the store buffer gives a READ with PAIR, of which only the target is still to be tested (R155, R159). -/
  forwarded : Option SectorData := none
  /-- Its context was written while it waited for a slot: its admission is classified by the new values (R34, R308). -/
  stale : Bool := false
  /-- For one search of a queue (R135): its chart and key. -/
  searchKey : Option (Nat × BitVec 512) := none
  deriving DecidableEq, Repr

/-! ### Cache slices -/

/-- A tag entry without its parity bits, which are computed (R54). -/
structure TagEntry where
  bv : Bool := false
  tag : Nat := 0
  sv : BitVec 16 := 0
  sf : BitVec 16 := 0
  pfo : Bool := false
  deriving DecidableEq, Repr

/-- The mode of a way in a slice (R88, WAY_MODES). -/
inductive WayMode where
  | cache | moored | drydocked | transition
  deriving DecidableEq, Repr

/-- The mark that a write leaves on a FILLING sector of a miss register (R56). -/
inductive FillMark where
  | none | stale | discard
  deriving DecidableEq, Repr

/-- What a miss register waits for. -/
inductive MissStage where
  /-- Every write-buffer entry of the sector has yet to retire (R63). -/
  | waitWriteBuffer
  /-- The pool reads are out. -/
  | fetching
  /-- The sectors have returned. -/
  | returned
  /-- An atomic waits for an eligible way (R73). -/
  | waitWay
  deriving DecidableEq, Repr

/-- What a miss register serves (R61). -/
inductive MissUse where
  | demand
  | prefetch
  /-- The read of a partial merge over a sector not VALID (R70). -/
  | merge
  deriving DecidableEq, Repr

/-- A miss register (R61). -/
structure MissReg where
  id : Nat := 0
  use : MissUse := .demand
  /-- The demand sector's DPA. -/
  dpa : Nat := 0
  /-- The way it installs in, none for no install. -/
  way : Option Nat := none
  demandMark : FillMark := .none
  /-- Whether the next sector rides along (R64), and its mark. -/
  prefetch : Bool := false
  prefetchMark : FillMark := .none
  req : Req := {}
  merged : List Req := []
  /-- Requests merged into the prefetch sector. -/
  mergedNext : List Req := []
  stage : MissStage := .fetching
  demandData : Option SectorData := none
  prefetchData : Option SectorData := none
  /-- The fill of the demand sector, and of the prefetch sector, has been processed. -/
  demandDone : Bool := false
  prefetchDone : Bool := false
  deriving DecidableEq, Repr

/-- Where a write-buffer entry stands on its way to the pool (R67 to R71). -/
inductive WbStage where
  | waiting
  | merging
  | sent
  deriving DecidableEq, Repr

/-- A write-buffer entry (R68). -/
structure WbEntry where
  id : Nat := 0
  dpa : Nat := 0
  w : WriteData := ⟨0, 0, false⟩
  region : Nat := 0
  svc : Nat := 0
  origin : Origin := .poison
  stage : WbStage := .waiting
  /-- A bulk sector's write counts as a bulk loss (R161). -/
  bulk : Bool := false
  /-- The write of a queue of the peer in `origin`, which is told when it retires (R157). -/
  report : Bool := false
  deriving DecidableEq, Repr

/-- A merge entry (R69). -/
structure MergeEntry where
  dpa : Nat := 0
  w : WriteData := ⟨0, 0, false⟩
  region : Nat := 0
  svc : Nat := 0
  opened : Nat := 0
  closed : Bool := false
  entries : List Nat := []
  /-- The pool read of R70 is out. -/
  reading : Bool := false
  deriving DecidableEq, Repr

/-! ### The home -/

/-- A pointer of a directory entry: flight position, port and marker (R94). -/
structure Holder where
  pos : Nat := 0
  port : Nat := 0
  marker : Nat := 0
  deriving DecidableEq, Repr

/-- The states of a directory entry (R95). The count of S is the number of its pointers. -/
inductive DirState where
  | i | s | e | b | p | pp
  deriving DecidableEq, Repr

/-- A directory entry (R94). -/
structure DirEntry where
  tag : Nat := 0
  st : DirState := .i
  dwell : Nat := 0
  ptrs : List Holder := []
  scope : BitVec 16 := 0
  deriving DecidableEq, Repr

/-- Whom a snoop is addressed to: one marker of a port, or every marker of every host port of a position (R97, R98). -/
inductive SnoopTarget where
  | holder (h : Holder)
  /-- Marker ALL at a position, leaving out the pair (port, marker) of the requester when given (R109). -/
  | all (pos : Nat) (except : Option (Nat × Nat))
  /-- Every marker of one port but the requester's (R108). -/
  | portAll (pos port except : Nat)
  deriving DecidableEq, Repr

/-- A BISnp that is out at a host port of this device: the HPA it carries, and the home it answers (R97). -/
structure BiSnp where
  port : Nat
  hpa : Nat
  kind : SnoopKind
  /-- The device whose home asked. -/
  home : Nat
  dpa : Nat
  marker : Nat
  /-- The answer of a BISnp of a peer's home: 0 BIRspI, 1 BIRspS, 2 BIRspE, 3 not allowed; 9 while it is out. -/
  answer : Nat := 9
  /-- The peer's snoop that it belongs to, 0 for one of the own home. -/
  group : Nat := 0
  deriving DecidableEq, Repr

/-- A snoop of a peer's home that this device answers (R97, R351). -/
structure PeerSnoop where
  id : Nat
  home : Nat
  dpa : Nat
  whom : SnoopWhom
  deriving DecidableEq, Repr

/-- A snoop that waits for the reverse walker (R97). -/
structure SnoopWalk where
  port : Nat
  dpa : Nat
  marker : Nat
  home : Nat
  kind : SnoopKind
  group : Nat := 0
  deriving DecidableEq, Repr

/-- A snoop that a home has outstanding or has yet to send (R106). -/
structure Snoop where
  target : SnoopTarget
  kind : SnoopKind
  /-- Answers still missing; 0 until the translation is known for a local target. -/
  waiting : Nat := 1
  sent : Bool := false
  /-- The strongest answer so far: false while every answer was BIRspI. -/
  keptShared : Bool := false
  keptExcl : Bool := false
  deriving DecidableEq, Repr

/-- Why a transaction snoops. -/
inductive SnoopCause where
  | realias | serve | evict | poison | sweep
  deriving DecidableEq, Repr

/-- The stage of a home transaction (R101). -/
inductive Stage where
  /-- Its next step is decided from the directory entry as it stands. -/
  | ready
  /-- Waits for the dwell of the E holder (R104). -/
  | dwell (cause : SnoopCause)
  /-- Waits for snoop answers. -/
  | snoop (cause : SnoopCause)
  /-- Waits for a directory way (R114). -/
  | way
  /-- Waits for room in the write buffer (R68). -/
  | writeBuffer
  /-- Waits for its data from a miss register (R61). -/
  | data
  /-- Waits in the miss-wait queue (R62). -/
  | missWait
  /-- Accepted before the miss-wait queue filled, and waits for room in it (R62). -/
  | missFull
  /-- Waits for the requester's acknowledgement (R101). -/
  | ack
  /-- The atomic holds its block (R73). -/
  | atomic
  deriving DecidableEq, Repr

/-- A home tracker: the transaction that blocks a sector (R101). -/
structure Tracker where
  dpa : Nat := 0
  req : Req := {}
  stage : Stage := .ready
  snoops : List Snoop := []
  /-- When the last snoop left, in ns (R124). -/
  since : Nat := 0
  /-- For an eviction: the sector of the request that needs the way. -/
  evictFor : Option Nat := none
  /-- A write-back absorbed as the snoop's data (R107, R112). -/
  absorbed : Bool := false
  /-- A full-sector write-back arrived in a recall before poisoning (R125). -/
  fullBack : Bool := false
  /-- BIConflicts held until a write-back arrives (R111). -/
  conflicts : List Origin := []
  /-- Snooped holders whose write-back or clean eviction was absorbed (R103, R112). -/
  backs : List Holder := []
  /-- The alias recall of R108 is done. -/
  aliasDone : Bool := false
  /-- The snoop of a set in SET_RECALL is done (R127). -/
  recallDone : Bool := false
  /-- BISnpCur is answered (R109). -/
  curDone : Bool := false
  /-- A BISnpData was answered: the grant is shared, whatever the holder kept (R109). -/
  dataDone : Bool := false
  /-- The scope snoop of a B entry is done (R109). -/
  scopeDone : Bool := false
  /-- The sector is being poisoned (R125). -/
  poisoning : Bool := false
  /-- Served without a directory entry: every way of the set is PP (R126). -/
  noEntry : Bool := false
  /-- The directory way reserved for it (R115). -/
  reserved : Option Nat := none
  deriving DecidableEq, Repr

/-- The parts of one slice that hold requests and writes. -/
structure Slice where
  missRegs : List MissReg := []
  missWait : List Req := []
  writeBuf : List WbEntry := []
  mergeBuf : List MergeEntry := []
  /-- Writes that wait in the slice input (R68, R102). -/
  input : List Req := []
  trackers : List Tracker := []
  blocked : List Req := []
  /-- Event 3006 was logged for this fill of the blocked-line queue. -/
  blockedLogged : Bool := false
  tiePointer : Nat := 0
  /-- The time and index of the last request of step 3 of R100. -/
  lastArrival : Nat := 0
  lastIndex : Nat := 0
  wbHigh : Nat := 0
  lfsr : BitVec 16 := 0
  deriving DecidableEq, Repr

/-- One interval of the reverse map (R97, R99). -/
structure RevInterval where
  region : Nat
  kind : Nat
  targetDev : Nat
  /-- DPA of the first byte and length, in 2 MiB units. -/
  base : Nat
  units : Nat
  offset : Nat
  portValue : Nat
  portMask : Nat
  markerValue : Nat
  markerMask : Nat
  protect : Bool
  root : Nat
  retired : Bool := false
  /-- The retire walk that is running began after this interval was retired. -/
  inWalk : Bool := false
  deriving DecidableEq, Repr

/-- A line of a snoop translation buffer (R97): port quad, marker and DPA[44:21] with up to four window offsets. -/
structure StbLine where
  home : Nat
  port : Nat
  marker : Nat
  unit : Nat
  offsets : List Nat
  complete : Bool
  deriving DecidableEq, Repr

/-! ### Pool accesses and protection -/

/-- What a pool read is for. -/
inductive ReadUse where
  /-- A sector of a miss register: slice, register, and whether it is the prefetch sector. -/
  | miss (slice reg : Nat) (next : Bool)
  /-- A re-encryption page read (R248). -/
  | page (write : Nat)
  /-- An RK read served from the pool (R258). -/
  | reknit
  deriving DecidableEq, Repr

/-- The stage of a pool access. -/
inductive PoolStage where
  /-- On its way to the protection pound. -/
  | toPound
  /-- Its leaf is being walked (R241). -/
  | walking
  /-- Held by the order of R246, or by a page re-encryption. -/
  | held
  /-- At the pool. -/
  | out
  /-- A read that is answered already; the pool's response is still to come (R246). -/
  | dropped
  deriving DecidableEq, Repr

/-- On whose account a metadata address of the pool is accessed: a data access, a walk, a page re-encryption, or the write of a node. -/
inductive MetaOwner where
  | op (id : Nat)
  | walk (id : Nat)
  | page (id : Nat)
  | node (root level index : Nat)
  deriving DecidableEq, Repr

/-- A pool access to a metadata address of a protected region: a MAC sector or a node; it waits for its turn at the address until it is out (R246). -/
structure MetaOp where
  owner : MetaOwner
  root : Nat
  addr : Nat
  write : Bool := false
  data : Sector := 0
  mask : Mask64 := 0
  out : Bool := false
  deriving DecidableEq, Repr

/-- A child that an overflow writes with its new MAC: out at the pool, or failed at an instant (R249, R251). -/
structure ChildWrite where
  index : Nat
  bits : Sector
  failed : Option Nat := none
  logged : Bool := false
  deriving DecidableEq, Repr

/-- A pool access (R237, R242, R342). -/
structure PoolOp where
  id : Nat := 0
  write : Bool := false
  stage : PoolStage := .toPound
  dpa : Nat := 0
  region : Nat := 0
  svc : Nat := 0
  use : ReadUse := .reknit
  w : WriteData := ⟨0, 0, false⟩
  /-- The write-buffer entries that a write carries. -/
  entries : List Nat := []
  /-- The write is a poison write of R125. -/
  poisonWrite : Bool := false
  /-- The write is an RK write (R258). -/
  rk : Bool := false
  /-- Version and key slot fixed when the access left the pound (R246). -/
  major : BitVec 64 := 0
  minor : Nat := 0
  slot : Option Nat := none
  /-- Sent from the pins at, in ns (R342). -/
  sent : Nat := 0
  /-- The protected region it belongs to, by its binding (R228). -/
  root : Option Nat := none
  /-- A protected write as it goes to the pool: ciphertext and tag. -/
  cipher : Sector := 0
  tag : BitVec 64 := 0
  /-- The write has its version and ciphertext. -/
  encrypted : Bool := false
  /-- The answer of a read whose leaf is still being walked (R241). -/
  answer : Option PoolAnswer := none
  deriving DecidableEq, Repr

/-- A walk in progress: the node reads that are out (R241). -/
structure Walk where
  id : Nat := 0
  root : Nat := 0
  /-- Sector number in the region. -/
  q : Nat := 0
  /-- The lowest level that was resident; levels below it are fetched. -/
  top : Nat := 0
  /-- The pool accesses that wait for it. -/
  ops : List Nat := []
  /-- Its reads left at, in ns. -/
  sent : Nat := 0
  /-- A node overflow that reads its children: the node's level and index, and its counters before (R249). -/
  overflow : Option (Nat × Nat) := none
  old : Sector := 0
  /-- The children that the overflow reads, and those that it writes. -/
  kids : List Nat := []
  writes : List ChildWrite := []
  /-- The answers, while a node waits for a way to be freed (R245). -/
  got : List PoolAnswer := []
  deriving DecidableEq, Repr

/-- A page being re-encrypted (R248). -/
structure PageJob where
  id : Nat := 0
  root : Nat := 0
  page : Nat := 0
  /-- The pool write that met MINOR = 127. -/
  trigger : Nat := 0
  /-- The page is converted under the new key at version (0, 1) (R262). -/
  convert : Bool := false
  /-- Its reads have left: no other access to the page is out. -/
  started : Bool := false
  deriving DecidableEq, Repr

/-- A block of the counter cache (R243): a tree node, or a MAC sector at level 0. -/
structure CcBlock where
  bits : Sector := 0
  way : Nat := 0
  dirty : Bool := false
  pinned : Bool := false
  /-- A write-back is out at the pool. -/
  writing : Bool := false
  /-- A write-back failed; time of the failure in ns (R251). -/
  failed : Option Nat := none
  /-- The block is to be freed when its write-back completes. -/
  evicting : Bool := false
  /-- The way was chosen as a victim: it goes when its descendants have gone (R244). -/
  doomed : Bool := false
  deriving DecidableEq, Repr

/-- The states of a protected region (R227). -/
inductive ProtRegionState where
  | empty | staged | active | dormant | poisoned
  deriving DecidableEq, Repr

/-- A protected region (R226, R227). -/
structure ProtRegion where
  staged1 : Word128 := 0
  staged0 : Word128 := 0
  desc1 : Word128 := 0
  desc0 : Word128 := 0
  st : ProtRegionState := .empty
  reknitting : Bool := false
  exhausted : Bool := false
  damaged : Bool := false
  newSlot : Nat := 0
  needle : Nat := 0
  epoch : Nat := 0
  rootNode : Sector := 0
  integrityFails : Nat := 0
  minorOverflows : Nat := 0
  exhaustedLogged : Bool := false
  deriving DecidableEq, Repr

/-- The states of a key slot (R254). -/
inductive KeyState where
  | empty | fresh | bound | retired
  deriving DecidableEq, Repr

/-- A key slot: its state, its key and the region bound to it (R254). -/
structure KeySlot where
  st : KeyState := .empty
  key : BitVec 256 := 0
  root : Option Nat := none
  /-- The pound whose copy is being restored (R251). -/
  restoring : Option Nat := none
  deriving DecidableEq, Repr

/-- The protection function's state (R268). -/
inductive ProtState where
  | enabled | flushing | disabled
  deriving DecidableEq, Repr

/-- An entry of the conversion watch (R258). -/
structure WatchEntry where
  dpa : Nat
  dirty : Bool := false
  /-- Its RK read is out. -/
  reading : Bool := false
  /-- The home has served its RK read, and watches for writes (R258, step 3). -/
  watched : Bool := false
  value : Option SectorData := none
  /-- The RK write is sent and waits at the home. -/
  sent : Bool := false
  /-- The RK write is ordered and waits in the reorder window. -/
  ordered : Bool := false
  deriving DecidableEq, Repr

/-! ### Tenancy -/

/-- The states of a host region (R50). -/
inductive RegionState where
  | empty | staged | active | committing
  deriving DecidableEq, Repr

/-- A region: staged and committed descriptors, and its system-chart rows (R36, R42). -/
structure Region where
  staged1 : Word128 := 0
  staged0 : Word128 := 0
  desc1 : Word128 := 0
  desc0 : Word128 := 0
  st : RegionState := .empty
  rows : List Nat := []
  /-- A LOCAL_MOORED region frozen at a warm reset (R424). -/
  lost : Bool := false
  deriving DecidableEq, Repr

/-- A lookaside entry (R43, R134). -/
structure LaEntry where
  port : Nat
  marker : Nat
  gran : Nat
  granule : Nat
  datum : BitVec 64
  /-- Where it stands in the buffer: set × 4 + way. -/
  slot : Nat := 0
  used : Bool := true
  deriving DecidableEq, Repr

/-- An outstanding lookaside miss and the transactions that wait on it (R44). -/
structure LaMiss where
  /-- The search that was issued for it. -/
  search : Nat
  port : Nat
  marker : Nat
  unit : Nat
  /-- Purges of the unit when the search was issued (R45). -/
  purges : Nat
  txns : List Nat
  /-- The result record, once returned. -/
  result : Option (BitVec 128) := none
  deriving DecidableEq, Repr

/-- A Req message that arrived on a credit returned for a BISnp while the quad withheld Req credits: it waits in the ingress store (R103). -/
structure Ingress where
  port : Nat
  hpa : Nat
  tag : Nat
  cls : ReqClass
  deriving DecidableEq, Repr

/-- A lookaside buffer (R43, R44). -/
structure Lookaside where
  entries : List LaEntry := []
  purges : Nat := 0
  misses : List LaMiss := []
  /-- Requests that miss while 32 other misses are out: each waits until one completes (R44). -/
  held : List Nat := []
  /-- The quad's Req ingress store: messages that wait for the credits to be returned again (R103). -/
  ingress : List Ingress := []
  /-- Transactions decoded or waiting at the unit for the regulator. -/
  toRegulator : List Nat := []
  /-- Event 8005 was logged for this fill of the admission buffer (R311). -/
  fullLogged : Bool := false
  deriving DecidableEq, Repr

/-- The accounting of one context (R306, R319, R328). -/
structure CtxAccount where
  held : Nat := 0
  guaranteed : Nat := 0
  peak : Nat := 0
  gmisses : Nat := 0
  demoted : Nat := 0
  txns : BitVec 64 := 0
  occ : BitVec 64 := 0
  faults : Nat := 0
  lastEvent : Nat := 0
  /-- Start of the current fault-logging interval in ns (R48). -/
  loggedAt : Option Nat := none
  deriving DecidableEq, Repr

/-! ### Work queues -/

/-- The states of a queue pair (R136). -/
inductive QState where
  | disabled | active | recovery | draining | halted
  deriving DecidableEq, Repr

/-- A submission entry being worked on (R141, R143). -/
structure QEntry where
  pos : Nat := 0
  opcode : Nat := 0
  intr : Bool := false
  pair : Bool := false
  cid : Nat := 0
  chart : Nat := 0
  length : Nat := 0
  addr0 : Nat := 0
  addr1 : Nat := 0
  data : BitVec 256 := 0
  /-- The bits [15:10] and [127:72], which must be 0, and whether any is set. -/
  reserved : Bool := false
  issued : Bool := false
  ended : Bool := false
  status : Nat := 0
  detail : BitVec 64 := 0
  /-- Sector operations: next to issue, out, and done. -/
  next : Nat := 0
  out : List Nat := []
  done : Nat := 0
  poisoned : Nat := 0
  stopped : Bool := false
  /-- The sector of a bulk command whose access failed, the first in the order of the command: none from it on is done (R147). -/
  stopAt : Option Nat := none
  /-- COPY sectors that were read and wait to be written: (sector, data); how many reads were issued and returned. -/
  copied : List (Nat × SectorData) := []
  readsIssued : Nat := 0
  readsDone : Nat := 0
  /-- Result records of a search, in key order, and the keys left. -/
  keys : List (BitVec 512) := []
  matched : Nat := 0
  incomplete : Nat := 0
  /-- A 32 B access performed as two (R159). -/
  split : Bool := false
  deriving DecidableEq, Repr

/-- A store in a queue's store buffer (R155). -/
structure QStore where
  pos : Nat
  offset : Nat
  len : Nat
  data : BitVec 256
  /-- Sent to its home and not yet ordered. -/
  issued : Bool := false
  deriving DecidableEq, Repr

/-- A queue pair (R133 to R141, R166). -/
structure Queue where
  /-- The configuration word of R167, whose ERR_INTR bit 125 is 1 at reset. -/
  cfg : Word128 := 0x20000000000000000000000000000000
  st : QState := .disabled
  sqBase : Nat := 0
  cqBase : Nat := 0
  dataBase : Nat := 0
  dataSize : Nat := 0
  sqHead : Nat := 0
  sqTail : Nat := 0
  cqHead : Nat := 0
  cqTail : Nat := 0
  lostStores : Nat := 0
  lostSectors : Nat := 0
  deferredEnable : Bool := false
  recoveryFlag : Bool := false
  /-- RESET of a halted queue waits for its issued entries (R137). -/
  resetPending : Bool := false
  lastEvent : Nat := 0
  entries : List QEntry := []
  stores : List QStore := []
  deriving DecidableEq, Repr

/-- A response on its way to a queue processor (R150). -/
structure QResponse where
  queue : Nat
  pos : Nat
  part : Nat
  data : SectorData := {}
  poison : Bool := false
  /-- The decode event of a refused access, 0 for none (R47). -/
  fault : Nat := 0
  swapped : Bool := false
  /-- A 32 B access performed as two (R159). -/
  split : Bool := false
  record : Option (BitVec 128) := none
  block : Option (List Byte) := none
  deriving DecidableEq, Repr

/-! ### Search -/

/-- A row of the array or its image in the pattern store (R169, R171). -/
structure Row where
  x : Word128 := 0
  y : Word128 := 0
  valid : Bool := false
  width : Nat := 0
  pos : Nat := 0
  chart : Nat := 0
  priority : Nat := 0
  datum : BitVec 64 := 0
  deriving DecidableEq, Repr

/-- The states of a chart (R182). -/
inductive ChartState where
  | undefined | staged | valid | committing | moving | dropping
  deriving DecidableEq, Repr

/-- A span command in progress at its coordinator or a member (R215). -/
structure SpanJob where
  coordinator : Nat
  generation : Nat
  word1 : Word128
  word0 : Word128
  dmap : List Nat
  members : List Nat
  drop : Bool
  instant : Nat
  /-- Devices that answered READY, and that confirmed APPLIED. -/
  ready : List Nat := []
  applied : List Nat := []
  refusal : Option Nat := none
  /-- The command's ticket at the coordinator. -/
  ticket : Option Nat := none
  started : Nat := 0
  done : Bool := false
  /-- Devices outside the new member set that were sent a PREPARE too: a released one (R214). -/
  also : List Nat := []
  deriving DecidableEq, Repr

/-- A chart: staged and committed descriptor and maps, and its shared fields (R178, R179, R213). -/
structure Chart where
  staged1 : Word128 := 0
  staged0 : Word128 := 0
  stagedGmap : Table Nat := []
  stagedDmap : Table Nat := []
  hasStaged : Bool := false
  desc1 : Word128 := 0
  desc0 : Word128 := 0
  gmap : Table Nat := []
  dmap : Table Nat := []
  st : ChartState := .undefined
  generation : Nat := 0
  changedAt : Nat := 0
  /-- The stamp before the last change of generation (R217). -/
  prevStamp : Nat := 0
  members : List Nat := []
  coordinator : Nat := 0
  span : Option SpanJob := none
  /-- A PREPARE that waits until the table command running on the chart ends (R210). -/
  prepare : Option SpanJob := none
  /-- A descriptor or group-map word is uncorrectable until reloaded (R198). -/
  badWord : Bool := false
  /-- Last instants at which 5106 and 5107 were logged (R217, R220). -/
  logged5106 : Option Nat := none
  logged5107 : Option Nat := none
  deriving DecidableEq, Repr

/-- The five classes of work in the pipes (R191). -/
inductive SearchClass where
  | region | cascade | apply | localSearch | sweep
  deriving DecidableEq, Repr

/-- Who asked for a search. -/
inductive SearchFor where
  /-- A system-chart lookup of a lookaside unit. -/
  | lookup (unit : LookUnit)
  /-- Key `part` of a queue entry. -/
  | queue (queue pos part : Nat)
  /-- The own part, or a part served for another origin (R218). -/
  | cascade (id : Nat)
  deriving DecidableEq, Repr

/-- A search that waits for the pipes (R191). -/
structure SearchReq where
  id : Nat
  chart : Nat
  key : BitVec 512
  cls : SearchClass
  source : SearchFor
  arrived : Nat
  /-- It has its place in the LOCAL class (R191). -/
  entered : Bool := false
  deriving DecidableEq, Repr

/-- A search in the pipes, with the result it will leave with (R188). -/
structure SearchRun where
  id : Nat
  source : SearchFor
  chart : Nat
  issued : Nat
  banks : List Nat
  cycles : Nat
  pipes : Nat
  result : BitVec 128
  deriving DecidableEq, Repr

/-- One apply: a row and what is written into it (R193). -/
structure Apply where
  row : Nat
  image : Row
  deriving DecidableEq, Repr

/-- What follows once an apply group has been written. -/
inductive AfterApply where
  | nothing
  /-- A group of the table command at `id` is written. -/
  | table (id : Nat)
  /-- The copies of a remote owner's entry are applied on this holder, which confirms the sub-operation of that tag (R206). -/
  | confirm (owner tag chart entry : Nat)
  /-- The new copies of a remote owner's entry are applied: the old ones are deleted, then it confirms (R208). -/
  | trim (owner tag chart entry : Nat)
  /-- The descriptor and maps of a LOCAL chart apply (R184). -/
  | commit (chart ticket : Nat)
  /-- The chart's last row is cleared (R184). -/
  | drop (chart : Nat)
  /-- The last new row of a CHART_MOVE is written, and its last old row is cleared (R211). -/
  | moveIn (chart : Nat)
  | moveOut (chart : Nat)
  /-- The last system-chart row of the running region command is written (R40, R45). -/
  | region
  deriving DecidableEq, Repr

/-- An apply group (R193). -/
structure ApplyGroup where
  applies : List Apply
  after : AfterApply := .nothing
  /-- Rows that are free once the group is written. -/
  free : List Nat := []
  deriving DecidableEq, Repr

/-- A stored entry at its owner or at a holder (R204). -/
structure EntryRec where
  chart : Nat := 0
  value : BitVec 512 := 0
  mask : BitVec 512 := 0
  priority : Nat := 0
  datum : BitVec 64 := 0
  /-- POS = 0 row indexes of the copies on this device, in group order. -/
  rows : List Nat := []
  /-- The same of copies that a holder has reserved, or that a MODIFY with SET_KEY stages beside the old ones. -/
  newRows : List Nat := []
  /-- Devices that hold copies, each with the entry index of its copy in its lowest group and the rows it uses. -/
  copies : List (Nat × Nat × Nat) := []
  lost : Bool := false
  deriving DecidableEq, Repr

/-- Who issued a table command (R200). -/
inductive TableSource where
  | queue (queue pos : Nat)
  | ticket (n : Nat)
  /-- A device that accepted the command and forwarded it to this owner under a tag (R204). -/
  | peer (device tag : Nat)
  deriving DecidableEq, Repr

/-- The phase of a table command at its owner. -/
inductive TablePhase where
  | queued
  /-- Remote holders reserve rows (R206, step 1). -/
  | reserving
  /-- Copies on this device are being applied. -/
  | applying
  /-- Waits for remote holders. -/
  | confirming
  deriving DecidableEq, Repr

/-- A sub-operation asked of another device and not yet confirmed (R204, R206). -/
structure Asked where
  device : Nat
  tag : Nat
  op : SubOp
  deriving DecidableEq, Repr

/-- A table command accepted and not yet answered (R206 to R210). -/
structure TableCmd where
  id : Nat
  source : TableSource
  chart : Nat
  header : BitVec 256
  value : BitVec 512
  mask : BitVec 512
  phase : TablePhase := .queued
  entry : Nat := 0
  /-- Remote devices that have not confirmed, and when they were asked, in ns. -/
  unconfirmed : List Asked := []
  asked : Nat := 0
  /-- The command runs at its owner on another device (R204). -/
  forwarded : Bool := false
  /-- The other devices that hold, or are to hold, copies. -/
  remotes : List Nat := []
  /-- The group that ends the local part of the present stage is still to be written. -/
  writing : Bool := false
  /-- Duplicates that wait for its result (R209). -/
  duplicates : List TableSource := []
  deriving DecidableEq, Repr

/-- A duplicate record of a table client (R209). -/
structure DedupRec where
  client : Nat
  cseq : BitVec 32
  /-- The result block, none while the original runs. -/
  result : Option (List Byte)
  ended : Nat := 0
  deriving DecidableEq, Repr

/-- A pending update that an owner re-sends (R208). -/
structure PendingUpdate where
  chart : Nat
  entry : Nat
  device : Nat
  op : SubOp
  tag : Nat
  sent : Nat
  deriving DecidableEq, Repr

/-- A device for which updates of a chart are pending at an owner; once it has left the membership it takes part in no search until they are applied (R208). -/
structure PendingNote where
  owner : Nat
  device : Nat
  chart : Nat
  left : Bool
  deriving DecidableEq, Repr

/-- A sub-operation that this device has received (R209, R356): its answer when it has one, when it got it, and the entry that a forwarded INSERT made. -/
structure SubRec where
  owner : Nat
  tag : Nat
  entry : Nat := 0
  answer : Option (List Nat) := none
  ended : Nat := 0
  deriving DecidableEq, Repr

/-- A sub-operation that waits until its chart's move has ended (R211). -/
structure HeldSub where
  owner : Nat
  chart : Nat
  tag : Nat
  op : SubOp
  entry : Nat
  stored : EntryRec
  deriving DecidableEq, Repr

/-- A cascade search at its origin (R218, R219). -/
structure Launch where
  id : Nat
  source : SearchFor
  chart : Nat
  key : BitVec 512
  /-- Launch instant in canal time, and in local ns. -/
  launch : Nat
  started : Nat
  /-- Members whose answers are awaited. -/
  waiting : List Nat
  absent : List (Nat × Nat) := []
  answers : List (BitVec 128) := []
  /-- ERROR of the origin itself (R219). -/
  failed : Bool := false
  deriving DecidableEq, Repr

/-- A part at a member or relay (R217, R218). -/
structure Part where
  id : Nat
  /-- The link it arrived on, none for the origin's own part. -/
  link : Option Nat
  chart : Nat
  key : BitVec 512
  arrived : Nat
  launch : Nat
  /-- The own launch it belongs to, when it is the origin's own part. -/
  own : Option Nat := none
  /-- The relay's part that it belongs to, when it is a relay's own part. -/
  parent : Option Nat := none
  /-- The answer, ready to leave behind the earlier ones of its link (R353). -/
  answer : Option PartAnswer := none
  relay : Bool := false
  /-- Relay: devices still to answer, answers so far, and the positions lacked (R218). -/
  fanout : List Nat := []
  answers : List (BitVec 128) := []
  lacked : List Nat := []
  /-- The last absent reason that a relayed answer carried. -/
  reason : Nat := 0
  /-- The one answer is passed on as it comes: a ROUTED part, or a detour toward another flight's relay (R218). -/
  pass : Bool := false
  deriving DecidableEq, Repr

/-! ### RAS -/

/-- The fault classes (R6, R294). -/
inductive FaultClass where
  | note | degraded | contained | regionFatal | deviceFatal
  deriving DecidableEq, Repr

/-- The SOURCE of a record (R294). -/
inductive Source where
  | access | scrub | sweep | selfTest | injected | firmware | peer
  deriving DecidableEq, Repr

/-- The DETAIL of a record, by DKIND (R294). -/
inductive Detail where
  | none
  | memory (dpa ctx region root syndrome word : Nat)
  | host (hpa ctx aux : Nat)
  | location (bucket index syndrome aux : Nat)
  | peer (peer chart reason entry aux : Nat)
  | count (n aux : Nat)
  deriving DecidableEq, Repr

/-- A log record (R294), with whether it has been read (R295). -/
structure LogRecord where
  time : Nat
  seq : Nat
  event : Nat
  cls : FaultClass
  source : Source
  untrusted : Bool
  port : Option Nat
  device : Nat
  count : Nat
  detail : Detail
  /-- Local time of the first occurrence in ns, for the folding window (R285). -/
  at_ : Nat
  read : Bool := false
  deriving DecidableEq, Repr

/-- A leaky bucket (R283). -/
structure Bucket where
  level : Nat := 0
  overflows : Nat := 0
  ce : Nat := 0
  ue : Nat := 0
  deriving DecidableEq, Repr

/-- The scrub of one structure: its word position, passes, and when its pass began (R286). -/
structure Scrub where
  word : Nat := 0
  passes : Nat := 0
  began : Nat := 0
  late : Bool := false
  deriving DecidableEq, Repr

/-! ### Dump rings -/

/-- A record being written (R324). -/
structure DumpRecord where
  instant : Nat
  bytes : List Byte
  /-- The 16 B pieces written, in the order of R324. -/
  written : Nat := 0
  deriving DecidableEq, Repr

/-- A dump ring (R321, R326). -/
structure DumpRing where
  cfg : Word128 := 0
  base : Nat := 0
  enabled : Bool := false
  head : Nat := 0
  tail : Nat := 0
  skipped : Nat := 0
  skippedSince : Nat := 0
  lastSeq : Nat := 0
  deferredEnable : Bool := false
  disablePending : Bool := false
  /-- The ring is to be disabled at the next instant with event 8204 (R326). -/
  dropPending : Bool := false
  /-- Canal time of the last ENABLE: the ring writes from its first due instant after it. -/
  since : Nat := 0
  record : Option DumpRecord := none
  deriving DecidableEq, Repr

/-! ### Ports and links -/

/-- The states of a port (R374). -/
inductive PortState where
  | disabled | down | training | enumerating | up | resetting | failed
  deriving DecidableEq, Repr

/-- A port (R332, R338). -/
structure Port where
  cfg : BitVec 32 := 0
  st : PortState := .disabled
  speed : Nat := 0
  lanes : Nat := 0
  /-- 0 off, 1 active, 2 failed. -/
  ide : Nat := 0
  /-- The committed HDM base, none when the decoder is not committed. -/
  hdmBase : Option Nat := none
  violations : Nat := 0
  timeouts : Nat := 0
  suspect : Bool := false
  /-- Times in ns of the violations and timeouts still in the window (R129). -/
  recent : List Nat := []
  /-- The per-port reset clears ENABLE at its end (PORT_CONTROL DISABLE). -/
  disabling : Bool := false
  interruptPolicy : BitVec 32 := 0
  deriving DecidableEq, Repr

/-- The states of a Wiboni link (R374). -/
inductive LinkState where
  | disabled | down | training | identify | measure | active | activeSlow | miswired
  deriving DecidableEq, Repr

/-- A message of a Wiboni link, as its bytes (R352). -/
abbrev WibMessage := List Byte

/-- A message given to a link: the device it is for and the parity of its sector, none for what concerns the link alone (R353, R354). -/
structure Sent where
  dest : Option (Nat × Nat) := none
  msg : WibMessage
  deriving DecidableEq, Repr

/-- A DATA flit that is not acknowledged, with the message it carries (R350, R355). -/
structure RetryFlit where
  seq : Nat
  flit : Flit
  sent : Sent
  deriving DecidableEq, Repr

/-- A request held in a link's tail record (R355). -/
structure TailReq where
  /-- The DATA flit that completed it, counted since the link became ACTIVE. -/
  flit : Nat
  source : Nat
  tag : Nat
  epoch : Nat
  running : Bool
  response : WibMessage := []
  deriving DecidableEq, Repr

/-- A Wiboni link (R344 to R356). -/
structure Link where
  st : LinkState := .down
  enabled : Bool := true
  peerDevice : Nat := 0
  peerLink : Nat := 0
  delayPs : Nat := 0
  replays : Nat := 0
  crcFails : Nat := 0
  fecCorrected : Nat := 0
  /-- Receiver: the next DATA SEQ expected, and whether a replay is awaited. -/
  expect : Nat := 0
  nakSent : Bool := false
  /-- Bytes of a message that spans flits. -/
  partialBytes : List Byte := []
  /-- Sender: SEQ of the next DATA flit, and the retry buffer of unacknowledged flits. -/
  nextSeq : Nat := 0
  retry : List RetryFlit := []
  ackedAt : Nat := 0
  /-- SEQ of the last replay's first flit, and how many replays of it came one after the other. -/
  replaySeq : Nat := 0
  replayCount : Nat := 0
  lastValid : Nat := 0
  /-- When a DOWN or MISWIRED link tries again, in ns. -/
  retryAt : Nat := 0
  downAt : Nat := 0
  /-- Credits to the peer by channel, in 16 B units (R351). -/
  credits : List Nat := []
  /-- Messages queued for sending, in order. -/
  txq : List Sent := []
  /-- The channel whose turn it is when queued messages share flit slots (R351). -/
  vcTurn : Nat := 0
  /-- Messages to be re-sent on another path (R355). -/
  resend : List Sent := []
  /-- DATA flits accepted since the link became ACTIVE, and the tail record of the last 128. -/
  rxCount : Nat := 0
  tail : List TailReq := []
  /-- Messages of the MGMT channel, whose content has no encoding of the manual's. -/
  rx : List WibMessage := []
  /-- Messages that arrived during a warm reset and are served after it (R425). -/
  held : List WibMessage := []
  /-- Part requests sent on the link and not answered, oldest first: whose answer, and the LAUNCH field (R353). -/
  srchOut : List (Nat × Nat) := []
  /-- Last TIME exchange on the link. -/
  lastTimeRx : Nat := 0
  deriving DecidableEq, Repr

/-- A request sent to a peer home and not yet answered (R30, R351). -/
structure Forwarded where
  peer : Nat
  tag : Nat
  txn : Req
  deriving DecidableEq, Repr

/-- A store of a queue at a peer home whose retirement the peer has not reported (R157). -/
structure PeerStore where
  peer : Nat
  tag : Nat
  queue : Nat
  bulk : Bool
  /-- When it was ordered, in ns; none before its response. -/
  since : Option Nat := none
  deriving DecidableEq, Repr

/-! ### Canal time and membership -/

/-- The time states (R362). -/
inductive TimeState where
  | free | acquiring | locked | holdover
  deriving DecidableEq, Repr

/-- The membership states (R365). -/
inductive MemberState where
  | absent | joining | active | quarantined | departed
  deriving DecidableEq, Repr

/-- What the device holds of another device (R364, R373). -/
structure PeerView where
  record : MemberRecord
  heard : Nat
  deriving DecidableEq, Repr

/-- An announced change of the member set (R365). -/
structure PendingEpoch where
  epoch : Nat
  leader : Nat
  members : List Nat
  instant : Nat
  deriving DecidableEq, Repr

/-- A CANAL_SET in progress at the leader (R371). -/
structure CanalSetJob where
  ticket : Nat
  index : Nat
  sub : Nat
  value : Nat
  instant : Nat
  unconfirmed : List Nat
  started : Nat
  applied : Bool := false
  deriving DecidableEq, Repr

/-- The PPS_IN qualifier (R433). -/
structure Pps where
  /-- The last accepted edge, the last edge of any kind, and accepted edges in a row. -/
  lastEdge : Option Nat := none
  lastAny : Option Nat := none
  accepted : Nat := 0
  qualified : Bool := false
  stuck : Bool := false
  deriving DecidableEq, Repr

/-! ### Management -/

/-- The kinds of a recorded frame response (R396). -/
structure FrameRec where
  seq : Nat
  kind : Nat
  index : Nat
  sub : Nat
  /-- The response header and data, none while the original is handled. -/
  response : Option (Word128 × List Byte)
  at_ : Nat
  deriving DecidableEq, Repr

/-- An open segmented transfer (R388, R389). -/
structure Transfer where
  index : Nat
  sub : Nat
  write : Bool
  bytes : List Byte
  /-- Offset of the last segment written. -/
  lastOffset : Nat := 0
  touched : Nat
  /-- The LAST response of a read has been sent, at. -/
  lastSent : Option Nat := none
  deriving DecidableEq, Repr

/-- A frame that arrived: its carrier, header and data, and for a write that the table of operations names by its item, the window and the item (R391). -/
structure Frame where
  transport : Transport
  header : Word128
  data : List Byte := []
  pick : Option (Nat × Nat) := none
  deriving DecidableEq, Repr

/-- A client's state (R386). -/
structure ClientState where
  client : Client
  selects : Table Nat := []
  transfers : List Transfer := []
  records : List FrameRec := []
  /-- The row that its window has latched, and whether the datum is lost (R199, R282). -/
  row : Row := {}
  rowLost : Bool := false
  deriving DecidableEq, Repr

/-- A command queued or running (R403). -/
structure Cmd where
  ticket : Nat
  client : Client
  opcode : Nat
  ctag : Nat
  notify : Bool
  /-- The field buses on which the submission arrived: bit 0 A, bit 1 B (R404). -/
  buses : BitVec 2 := 0
  params : List Byte
  running : Bool := false
  accepted : Nat := 0
  acceptedCanal : Nat := 0
  deriving DecidableEq, Repr

/-- A stored result (R404). -/
structure CmdResult where
  ticket : Nat
  client : Client
  opcode : Nat
  ctag : Nat
  code : Nat
  acceptedCanal : Nat
  micros : Nat
  data : List Byte := []
  notified : Bool := false
  deriving DecidableEq, Repr

/-- A region command that has done its firmware part and drains (R45). -/
structure RegionDrain where
  ticket : Option Nat
  region : Nat
  code : Nat
  /-- Transactions in flight at the purge. -/
  txns : List Nat
  /-- The client to answer for LOOKASIDE_FLUSH, whose response waits (R50). -/
  flush : Option (Client × Word128) := none
  /-- The descriptor that was in effect when the command began, none for a region that was not ACTIVE. -/
  before : Option (Word128 × Word128) := none
  deriving DecidableEq, Repr

/-- A region command whose rows are being written (R39, R40). -/
structure RegionRun where
  ticket : Nat
  region : Nat
  /-- 0 commit, 1 delete, 2 freeze, 3 thaw. -/
  kind : Nat
  /-- The descriptor that was in effect when the command began, none for a region that was not ACTIVE. -/
  before : Option (Word128 × Word128) := none
  deriving DecidableEq, Repr

/-! ### Start-up, resets and pins -/

/-- DEVICE_STATE (R435). -/
inductive DeviceState where
  | starting | window | running | warmResetting | pfDraining | pfHalted | fatal
  deriving DecidableEq, Repr

/-- The cache states (R83). -/
inductive CacheState where
  | enabled | draining | invalidating | stale | clean
  deriving DecidableEq, Repr

/-! ### What leaves the device -/

/-- The S2M completions (R109). -/
inductive Ndr where
  | cmp | cmpS | cmpE
  deriving DecidableEq, Repr

/-- What the device sends at its pins and links, in order. Nothing in the machine reads it. -/
inductive Out where
  /-- S2M data and completion to a host, with DevLoad (R109, R335). -/
  | s2m (port tag : Nat) (data : Option Sector) (poison : Bool) (nxm : Bool) (ndr : Option Ndr) (devLoad : Nat)
  | ioData (port tag : Nat) (data : Sector) (poison : Bool)
  | bisnp (port : Nat) (kind : SnoopKind) (hpa : Nat)
  | conflictAck (port hpa : Nat)
  | poolRead (port addr : Nat)
  | poolWrite (port addr : Nat) (data : Sector) (mask : Mask64) (poison : Bool)
  /-- A CXL.io write to host memory on a port (R138). -/
  | hostWrite (port addr : Nat) (bytes : List Byte) (poison : Bool)
  /-- A CXL.io read of host memory on a port; its data comes with the row that takes it up (R138). -/
  | hostRead (port addr len : Nat)
  | barRead (port offset : Nat) (bytes : List Byte) (poison : Bool)
  | msix (port vector : Nat)
  | frame (transport : Transport) (header : Word128) (data : List Byte)
  /-- An EVENT frame on a field bus to FB_NOTIFY_ADDR, UDP port 50,414 (R301, R398). -/
  | eventFrame (bus : Bool) (dest : Word128) (header : Word128) (data : List Byte)
  /-- An I3C in-band interrupt with its data byte (R301). -/
  | ibi (byte : Byte)
  | mailbox (port : Nat) (code : Nat) (payload : List Byte)
  | mctp (bytes : List Byte)
  /-- A packet of a field bus: neighbour advertisement or echo reply. -/
  | ipv6 (bus : Bool) (dest : Word128) (bytes : List Byte)
  | flit (link : Nat) (f : Flit)
  /-- A message on the MGMT channel of a link, by its kind and content (R351). -/
  | mgmt (device : Nat) (kind : Nat) (words : List Nat)
  | timeFlit (link sent received errorPs : Nat)
  | avs (millivolts : Nat)
  deriving DecidableEq, Repr

/-! ### The parts of the state, by chapter -/

/-- Chapter "Cache slices": the arrays and the cache function. -/
structure CacheSt where
  st : CacheState := .clean
  deferredEnable : Bool := false
  pendingInvalidate : Bool := false
  /-- W, the moored ways in effect (R75). -/
  moored : Nat := 0
  /-- Way modes that are not CACHE, by slice × 16 + way. -/
  modes : Table WayMode := []
  /-- Drydock buckets, by slice × 16 + way (R78). -/
  drydock : Table Nat := []
  /-- Tag entries, by (slice × 4,096 + set) × 16 + way (R54). -/
  tags : Table TagEntry := []
  /-- Data of a sector, by its tag index × 16 + sector. -/
  data : Table SectorData := []
  /-- Prefetches handed over to another block's home slice: sector, region and service class (R64). -/
  handoffs : List (Nat × Nat × Nat) := []
  /-- Blocks held by an atomic, by tag index (R73). -/
  atomicHold : List Nat := []
  /-- Write-buffer entries and registers that the drain of R84 waits for. -/
  drainIds : List Nat := []
  /-- The running CACHE_MOOR: its ticket and W′ (R77). -/
  mooring : Option (Nat × Nat) := none
  zeroing : Bool := false
  /-- The running CACHE_UNDRYDOCK: its ticket, slice and way (R80). -/
  undrydock : Option (Nat × Nat × Nat) := none
  /-- The running CACHE_INVALIDATE whose pass has not ended. -/
  invalidate : Option Nat := none
  deriving DecidableEq, Repr

/-- Chapter "The home": the directory and what walks it. -/
structure HomeSt where
  /-- Directory entries, by (slice × 32,768 + set) × 12 + way (R93). -/
  dir : Table DirEntry := []
  revMap : List RevInterval := []
  stb : List StbLine := []
  bisnps : List BiSnp := []
  walks : List SnoopWalk := []
  /-- Snoops of peers' homes that are not answered yet. -/
  peerSnoops : List PeerSnoop := []
  retireWalk : Bool := false
  /-- Sectors that the retire walk or a departure walk has yet to snoop. -/
  sweepSectors : List Nat := []
  /-- Sets in SET_RECALL: (slice × 32,768 + set, next candidate sector). -/
  setRecall : Table Nat := []
  lastSetSnoop : Nat := 0
  /-- Sets whose fullness with PP was logged (R126). -/
  ppFullLogged : List Nat := []
  /-- Poison writes that have ended: sector and success (R125). -/
  poisonDone : List (Nat × Bool) := []
  /-- Failed poison writes: sector and time of the failure; and sectors for which 3004 was raised. -/
  poisonRetry : List (Nat × Nat) := []
  poisonLogged : List Nat := []
  /-- Sectors that the home is to poison once their transaction ends or a tracker is free, with the region of each (R100, R125). -/
  poisonWait : List (Nat × Nat) := []
  /-- Completions of Req-channel requests on their way to a host: sector, requester and the time they left the slice (R111). -/
  sentCmps : List (Nat × Holder × Nat) := []
  deriving DecidableEq, Repr

/-- Chapters "Stitch markers" and "Service regulation": contexts, regions, lookaside buffers and the regulator. -/
structure TenantSt where
  ctx : Table Word128 := []
  acct : Table CtxAccount := []
  psets : Table Word128 := []
  regions : Table Region := []
  /-- Lookaside buffers: quads 0 to 127, then queue processors at 128 to 159. -/
  look : Table Lookaside := []
  /-- Slots held by GUARANTEED, and by NORMAL and DEMOTED transactions. -/
  slotsG : Nat := 0
  slotsShared : Nat := 0
  /-- Slots released and not yet offered (R309). -/
  offers : Nat := 0
  /-- Transactions by id, and the ones that wait for a slot, oldest first. -/
  txns : List Txn := []
  waiting : List Nat := []
  /-- The region command whose rows are being written (R40). -/
  regionRun : Option RegionRun := none
  drains : List RegionDrain := []
  /-- The cycle of the last admission, and the admissions in it (R310). -/
  admitAt : Nat := 0
  admitted : Nat := 0
  /-- The cycle of the last release, and the releases in it (R310). -/
  releasedAt : Nat := 0
  released : Nat := 0
  /-- Regulator words that are being restored, and releases that wait for them or for the next cycle (R310, R314). -/
  regRestore : List Nat := []
  heldReleases : List Nat := []
  deriving DecidableEq, Repr

/-- Chapter "Encryption, integrity tree and re-knitting". -/
structure ProtSt where
  st : ProtState := .disabled
  deferredEnable : Bool := false
  regions : Table ProtRegion := []
  slots : Table KeySlot := []
  kek : Option (BitVec 256) := none
  /-- The number of tree keys drawn, which names the one in use (R232). -/
  treeKeys : Nat := 0
  /-- The binding table: root-store index plus 1 by host region, 0 for PROTECT = 0 (R228). -/
  binding : Table Nat := []
  ops : List PoolOp := []
  /-- Accesses to metadata addresses, in their order (R246). -/
  metas : List MetaOp := []
  walks : List Walk := []
  pages : List PageJob := []
  /-- Counter-cache blocks, by root, level and index. -/
  cc : Table CcBlock := []
  lfsr0 : BitVec 16 := 1
  lfsr1 : BitVec 16 := 1
  /-- Damaged subtrees: (root, level, index). -/
  damaged : List (Nat × Nat × Nat) := []
  /-- The region being re-knitted, and its engine (R258). -/
  reknitRoot : Option Nat := none
  rkNext : Nat := 0
  watch : List WatchEntry := []
  /-- Local time of the needle's last advance, and whether the stall was reported (R264). -/
  needleAt : Nat := 0
  stallLogged : Bool := false
  /-- The time, in 1/100 ns, before which the engine converts no further sector (R261). -/
  rkPace : Nat := 0
  /-- Exhausted leaves, as root and page (R250). -/
  spent : List (Nat × Nat) := []
  /-- A PROT_INIT or PROT_RELEASE that waits for outstanding pool accesses: its ticket, root, and whether it initialises (R266, R267). -/
  job : Option (Nat × Nat × Bool) := none
  deriving DecidableEq, Repr

/-- Chapter "Work queues": queue pairs and Chamber RAM. -/
structure QueueSt where
  queues : Table Queue := []
  /-- The queue that each queue processor served last (R133). -/
  rotation : Table Nat := []
  responses : List QResponse := []
  /-- Chamber RAM, 8 MiB: an unlisted byte reads as 0, as the initialisation fill leaves it (R416). -/
  chamber : List Host.Cell := []
  /-- Chamber RAM words whose poison bit is set. -/
  chamberPoison : List Nat := []
  deriving DecidableEq, Repr

/-- Chapters "The search engine" and "Managing charts". -/
structure SearchSt where
  /-- The array, by row index (R169). -/
  rows : Table Row := []
  /-- The pattern store and the firmware's datum copies (R176, R194). -/
  images : Table Row := []
  charts : Table Chart := []
  entries : Table EntryRec := []
  nextEntry : Nat := 1
  /-- Rows reserved for inserts in progress. -/
  reserved : List Nat := []
  waiting : List SearchReq := []
  runs : List SearchRun := []
  /-- Apply groups that wait to be written, oldest first (R193). -/
  groups : List ApplyGroup := []
  /-- Last issue of SWEEP, of a row read and of LOCAL, in ns (R191). -/
  lastSweep : Nat := 0
  lastRowRead : Nat := 0
  lastLocal : Nat := 0
  rotation : Nat := 0
  sweepPos : Nat := 0
  sweepPasses : Nat := 0
  sweepBegan : Nat := 0
  sweepLate : Bool := false
  /-- ROW_SOURCE, and the array reads of row windows that wait in the APPLY class: client and row (R191, R199). -/
  rowSource : Nat := 0
  rowReads : List (Client × Nat) := []
  /-- Associated-data word pairs that are stored poison (R275). -/
  datumPoison : List Nat := []
  /-- The cycle of the last apply write, and the banks it wrote (R193). -/
  wroteAt : Nat := 0
  wroteBanks : List Nat := []
  cmds : List TableCmd := []
  dedup : List DedupRec := []
  updates : List PendingUpdate := []
  pendingNotes : List PendingNote := []
  /-- Numbers of deleted entries, with the instant of the deletion (R204). -/
  freed : List (Nat × Nat) := []
  subsDone : List SubRec := []
  heldSubs : List HeldSub := []
  /-- CHART_MOVE in progress: chart, ticket, and each entry with its new POS = 0 rows. -/
  move : Option (Nat × Nat × List (Nat × List Nat)) := none
  /-- CHART_DROP tickets by chart. -/
  drops : Table Nat := []
  /-- Devices that were released while they could not be reached, by chart (R214). -/
  released : List (Nat × Nat) := []
  launches : List Launch := []
  parts : List Part := []
  /-- By origin: chart and LAUNCH of the last part request on its flight link, and how many of them came (R218). -/
  lastParts : Table (Nat × Nat × Nat) := []
  /-- Absent counts and last reasons by peer (R223). -/
  peerAbsent : Table (Nat × Nat) := []
  deriving DecidableEq, Repr

/-- Chapter "ECC, poison and fault reporting". -/
structure RasSt where
  log : List LogRecord := []
  fatalLog : List LogRecord := []
  nextSeq : Nat := 1
  overwritten : Nat := 0
  spilled : Nat := 0
  summary : BitVec 8 := 0
  fatalEvent : Nat := 0
  fatalTime : Nat := 0
  priorFatal : Nat := 0
  faultN : Bool := false
  alertN : Bool := false
  /-- Highest SEQ of a record in ALERT_MASK not yet acknowledged. -/
  alertSeq : Nat := 0
  buckets : Table Bucket := []
  /-- Start of the leak grid of each class (15 is the drydock grid), and multiples done. -/
  leakStart : Table Nat := []
  leakDone : Table Nat := []
  /-- Damaged words: bucket × 2^32 + word, with the flipped bits of the codeword (R273). -/
  damage : Table (BitVec 138) := []
  injected : List Nat := []
  /-- INJECT_STATE: 0 IDLE, 1 ARMED, 2 STORED. -/
  injectState : Nat := 0
  scrubs : Table Scrub := []
  /-- Reads that the scrub skipped in this pass and returns to: bucket × 2^32 + read (R289). -/
  skipped : List Nat := []
  checkerResult : Nat := 0
  checkersTested : Nat := 0
  checkerFirstFail : Nat := 0xFFFF
  /-- The checker self-test has passed since the last cold reset (R299). -/
  checkersPassed : Bool := false
  /-- Highest pending SEQ by port, with the time of the last MSI-X (R300). -/
  hostPending : Table Nat := []
  hostNotified : Table Nat := []
  /-- The same for I3C (0) and the field bus (1) (R301). -/
  busPending : Table Nat := []
  busNotified : Table Nat := []
  /-- Firmware-table words being restored (R277). -/
  fwRestore : List Nat := []
  deriving DecidableEq, Repr

/-- Chapter "Service regulation and performance counters": counters and the dump engine. -/
structure CounterSt where
  counters : Table (BitVec 64) := []
  /-- Counters whose parity is bad (R318): number, or 2,048 + 2 × context + which. -/
  badParity : List Nat := []
  /-- Counters restarted by an increment that found bad parity, whose event 8201 is due. -/
  restarted : List Nat := []
  /-- The two snapshot banks (R320): counters and per-context values at their instants. -/
  bank0 : List (Nat × BitVec 64) := []
  bank1 : List (Nat × BitVec 64) := []
  bankSel : Bool := false
  lastInstant : Nat := 0
  /-- Values of the current bank that R318 replaced. -/
  bankBad : List Nat := []
  rings : Table DumpRing := []
  deriving DecidableEq, Repr

/-- Chapter "CXL ports, Wiboni links and the canal". -/
structure LinkSt where
  quads : Table Nat := []
  ports : Table Port := []
  targets : Table Word128 := []
  targetFails : Table Nat := []
  links : Table Link := []
  vectors : Table Word128 := []
  noPath : List Nat := []
  forwarded : List Forwarded := []
  stores : List PeerStore := []
  nextTag : Nat := 0
  /-- Tags whose response has come, with its time in ns: each is kept from use for 64 µs (R356). -/
  spentTags : List (Nat × Nat) := []
  /-- When the next link-state vector is due, in ns, and the last one sent (R354). -/
  nextVectorSend : Nat := 0
  sentVector : Word128 := 0
  deriving DecidableEq, Repr

/-- Canal time and membership. -/
structure CanalSt where
  timeState : TimeState := .free
  trusted : Bool := false
  master : Nat := 0
  errorPs : Nat := 0
  upstream : Option Nat := none
  samples : Nat := 0
  acquiringAt : Nat := 0
  lockMissed : Bool := false
  /-- Offset that the servo still has to slew, in 1/256 tick. -/
  slew : Int := 0
  /-- The next measured offset may be stepped (R370). -/
  stepArmed : Bool := false
  member : MemberState := .absent
  epoch : Nat := 0
  leader : Nat := 0
  active : List Nat := []
  quarantined : List Nat := []
  reason : Nat := 0
  left : Bool := false
  peers : Table PeerView := []
  pending : Option PendingEpoch := none
  /-- Departures and admissions that the leader will announce. -/
  wanted : List (Nat × Nat) := []
  set : Option CanalSetJob := none
  /-- Flight peers whose departure or quarantine the directory has been walked for since they were last ACTIVE (R122). -/
  purged : List Nat := []
  /-- Quarantine reasons of other devices, by number. -/
  reasons : Table Nat := []
  /-- The last record heard of a second device that carries an ACTIVE member's number (R366). -/
  duplicates : Table PeerView := []
  /-- Members that did not confirm a CANAL_SET and whose next record is checked (R371). -/
  suspects : List Nat := []
  /-- TIME_SET was written in this start-up window (R359). -/
  timeSetWritten : Bool := false
  /-- When the next record, quarantine report and TIME flits are due, in ns. -/
  nextPublish : Nat := 0
  nextQuarReport : Nat := 0
  nextTimeSend : Nat := 0
  pps : Pps := {}
  deriving DecidableEq, Repr

/-- Chapter "Object dictionary, firmware and management transports". -/
structure MgmtSt where
  /-- Clients with state, the one idle longest first (R386). -/
  clients : List ClientState := []
  /-- Clients that lost their state and whose next response says so (R386). -/
  selLost : List Client := []
  /-- Frames that wait while an earlier frame of their client is handled, oldest first (R393, R394). -/
  inbox : List Frame := []
  framesDropped : Nat := 0
  cmds : List Cmd := []
  results : List CmdResult := []
  nextTicket : Nat := 1
  /-- Bit 0 bus A UP, bit 1 bus B UP (R398). -/
  fbState : BitVec 2 := 0
  notifyAddr : Word128 := 0xff020000000000000000000000000001
  i3cAddress : BitVec 7 := 0
  eid : BitVec 8 := 0
  /-- Every core's watchdog, or firmware's memory, has failed: no object request is answered (R298, R378). -/
  dead : Bool := false
  /-- Cores whose watchdog has expired (R378). -/
  deadCores : BitVec 4 := 0
  deriving DecidableEq, Repr

/-- What a cold start that waits for its AVSBus acknowledge goes on with: the outcomes of its self-tests (R417, R290, R291, R441). -/
structure ColdPending where
  badWays : List (Nat × Nat) := []
  badWords : List (Nat × Nat) := []
  badCheckers : List Nat := []
  romOk : Bool := true
  /-- PFAIL_N has halted the cold start in reset (R430). -/
  halted : Bool := false
  deriving DecidableEq, Repr

/-- Chapter "Start-up, resets and power". -/
structure PowerSt where
  device : DeviceState := .window
  straps : BitVec 32 := 0
  windowOpen : Bool := true
  windowAt : Nat := 0
  resetCause : Nat := 0
  /-- The cold start whose first step waits for an acknowledge, and when RESET_N rose. -/
  cold : Option ColdPending := none
  releasedAt : Nat := 0
  pwrok : Bool := true
  warmResets : Nat := 0
  readyMicros : Nat := 3540
  lastWarmMicros : Nat := 0
  /-- Local time of step 2 of the running warm reset. -/
  warmAt : Nat := 0
  /-- The warm reset has passed its drain end. -/
  warmDrained : Bool := false
  /-- Sectors lost at its drain end that had no directory way: they are poisoned after release. -/
  warmPoison : List Nat := []
  bistResult : Nat := 0
  bistFailed : Nat := 0
  bistMicros : Nat := 0
  warmLost : Nat := 0
  pfLost : Nat := 0
  pfAt : Nat := 0
  pfailLow : Bool := false
  pfailStuck : Bool := false
  resetRunts : Nat := 0
  pfailChatter : Nat := 0
  ppsRejected : Nat := 0
  thermtrip : Bool := false
  avsAcked : Bool := true
  avsSent : Nat := 0
  /-- The readings of the on-die sensors, 25 °C where none has changed, and whether VCORE is raised (R441). -/
  sensors : Table Int := []
  avsRaised : Bool := false
  coldResets : Nat := 0
  deriving DecidableEq, Repr

/-- The whole machine. -/
structure State where
  /-- The commands that wait, first in, first out. -/
  pending : List Instr := []
  /-- Nanoseconds since the pounds started: cycles of the search, management and time pounds (R20). -/
  now : Nat := 0
  /-- Canal time in ticks of 250 ps. -/
  canalTime : Nat := 0
  /-- Registers and counters of the object dictionary that differ from their defaults, by (index × 256 + subindex) × 65,536 + item. -/
  regs : Table Nat := []
  /-- The next number for transactions, pool accesses, buffer entries and searches. -/
  nextId : Nat := 1
  /-- The model's own count of free values taken. -/
  free : Nat := 0
  slices : Table Slice := []
  cache : CacheSt := {}
  home : HomeSt := {}
  tenant : TenantSt := {}
  prot : ProtSt := {}
  queue : QueueSt := {}
  search : SearchSt := {}
  ras : RasSt := {}
  counter : CounterSt := {}
  link : LinkSt := {}
  canal : CanalSt := {}
  mgmt : MgmtSt := {}
  power : PowerSt := {}
  /-- What has left the device, oldest first. -/
  out : List Out := []
  deriving DecidableEq, Repr

/-! ### The state after reset -/

/-- The STRAP_* fields of the strap word (R409, Table: Strap word). -/
def strapField (straps : BitVec 32) (lo width : Nat) : Nat := (straps.toNat >>> lo) % 2 ^ width

/-- The role of quad `q` by STRAP_QUADMAP (R331): 0 DISABLED, 1 HOST, 2 POOL. -/
def strapQuadRole (map q : Nat) : Nat :=
  match map with
  | 0 => if q < 64 then 1 else 2
  | 1 => if q < 96 then 1 else 2
  | 2 => if q < 32 then 1 else 2
  | _ => 0

/-- The flight size of a STRAP_FLIGHTSIZE code (R345). -/
def strapFlightSize (code : Nat) : Nat := if code < 6 then 2 ^ code else 32

/-- The position that flight link `n` of a device at position `s` reaches (R344). -/
def flightPeer (s n : Nat) : Nat := if n / 2 < s then n / 2 else n / 2 + 1

/-- Whether link `n` is DISABLED at cold reset (R344, R345): a flight link to a position at or above the flight size, or a spare that stands in for no link. -/
def linkAbsent (straps : BitVec 32) (n : Nat) : Bool :=
  if n < 62 then
    decide (strapFlightSize (strapField straps 25 3) ≤ flightPeer (strapField straps 0 5) n)
  else decide (124 ≤ n)

/-- The descriptor that firmware writes for chart 0 at start-up (R181), with `banks` banks: VALID, 128-bit keys, LPM, LOCAL, one group, declared latency 28 ns. -/
def systemChart (banks : Nat) : Chart where
  desc1 := BitVec.ofNat 128 (2 ^ 127 + 2 ^ 124 + banks * 2 ^ 107 + 2 ^ 102)
  desc0 := BitVec.ofNat 128 (28 * 2 ^ 44)
  st := .valid

/-- The length of the memory self-test of a strap word in µs (R417). -/
def strapBistMicros (straps : BitVec 32) : Nat :=
  match strapField straps 12 2 with
  | 0 => 0
  | 1 => 12000
  | _ => 180000

/-- Nanoseconds from the start of the pounds (step 1 of the cold start, 0.2 ms) to the start-up window (step 7, 3.54 ms and the self-test), at the times of R416. -/
def coldStartNs (straps : BitVec 32) : Nat := (3340 + strapBistMicros straps) * 1000

/-- The state when the start-up window opens after a cold start (R416, step 7) with the straps as sampled, as the `n`-th cold reset since power was first applied. -/
def State.coldStart (straps : BitVec 32) (n : Nat) : State where
  now := coldStartNs straps
  canalTime := 4 * coldStartNs straps
  regs := if straps.getLsbD 22 then [(0x201104 * 65536, 1)] else []
  slices := (List.range 64).map fun k =>
    (k, { lfsr := 0x005A ^^^ BitVec.ofNat 16 (k * 256) })
  cache := { st := if straps.getLsbD 23 then .enabled else .clean }
  prot := { st := if straps.getLsbD 22 then .enabled else .disabled, treeKeys := n }
  search := { charts := [(0, systemChart 4)] }
  ras := { checkerResult := 1, checkersTested := 689, checkersPassed := true }
  link := {
    quads := ((List.range 128).map fun q => (q, strapQuadRole (strapField straps 10 2) q)).filter
      fun p => p.2 != 0
    ports := (List.range 128).map fun p =>
      (p, { cfg := BitVec.ofNat 32
              ((if strapField straps 10 2 = 3 then 0 else 2 ^ 31) + p * 2 ^ 22 + 2 ^ 19)
            st := if strapField straps 10 2 = 3 then .disabled else .down })
    links := ((List.range 128).filter (linkAbsent straps)).map fun l => (l, { st := .disabled }) }
  canal := { master := strapField straps 0 10, leader := strapField straps 0 10 }
  power := {
    straps := straps
    bistResult := if strapField straps 12 2 = 0 then 0 else 1
    bistMicros := strapBistMicros straps
    readyMicros := 3540 + strapBistMicros straps
    windowAt := coldStartNs straps
    coldResets := n }

/-- The machine right after reset: the start-up window of the first cold start, with every strap pin tied low and an empty command queue. -/
def State.reset : State := State.coldStart 0 0

/-- Why the machine stops. -/
inductive Fault where
  /-- Raised by every command whose operands name an item that the device does not have, or a value wider than the field that carries it: a port above 127, a slice above 63, an address past its width. The manual gives these items and fields their ranges (R16, R17, R32, R52, R94, R133, R178, R200, R283, R331, R344, R348, R352, R364, R391, R402), so no outside party can send such a command, and the stop is safe. -/
  | noSuchItem
  deriving DecidableEq, Repr

/-- Why a command has no meaning. -/
inductive Refusal where
  /-- Raised by an arm of `exec` that has no meaning yet. Safe: nothing is claimed of it. -/
  | notModelled (mnemonic : String)
  deriving DecidableEq, Repr

end Sys2Proof.Machine
end

