-- ==== Sys2Proof/Machine/ObjectTable.lean ====
section
/-! DEFINITION. The object dictionary as the object tables of the manual list it: index, subindex, type, access right, default and range of every object (R379 to R382, R408), and the abort codes of R395. -/

namespace Sys2Proof.Machine

/-- The types of R380. -/
inductive ObjType where
  | bool | u8 | u16 | u32 | u64 | u128 | canalTime | octets | str | domain
  deriving DecidableEq, Repr

/-- The access rights of R381. -/
inductive Access where
  | const | ro | rw | wo | rwd | rws
  deriving DecidableEq, Repr

/-- A row of an object table: for writable objects `lo` and `hi` are the range of its Range column. -/
structure ObjDef where
  index : Nat
  sub : Nat
  type : ObjType
  access : Access
  dflt : Nat
  lo : Nat
  hi : Nat
  deriving DecidableEq, Repr

/-- Bytes of a value of a type; strings and blocks have none of their own. -/
def ObjType.size : ObjType → Nat
  | .bool | .u8 => 1
  | .u16 => 2
  | .u32 => 4
  | .u64 | .canalTime => 8
  | .u128 => 16
  | .octets | .str | .domain => 0

/-- Objects 1000 to 10FF. -/
def objects10 : List ObjDef := [
  ⟨0x1000, 1, .str, .const, 0, 0, 0⟩,  -- VENDOR
  ⟨0x1000, 2, .str, .const, 0, 0, 0⟩,  -- PRODUCT
  ⟨0x1000, 3, .str, .const, 0, 0, 0⟩,  -- PART_NUMBER
  ⟨0x1000, 4, .str, .const, 0, 0, 0⟩,  -- ORDERING_CODE
  ⟨0x1000, 5, .u64, .const, 0, 0, 0xFFFFFFFFFFFFFFFF⟩,  -- SERIAL
  ⟨0x1000, 6, .u8, .const, 0x42, 0, 0xFF⟩,  -- STEPPING
  ⟨0x1000, 7, .str, .const, 0, 0, 0⟩,  -- LID
  ⟨0x1000, 8, .u16, .const, 0, 0, 0xFFFF⟩,  -- VENDOR_ID
  ⟨0x1008, 1, .u8, .const, 3, 0, 0xFF⟩,  -- FW_LEVEL
  ⟨0x1008, 2, .str, .const, 0, 0, 0⟩,  -- FW_NAME
  ⟨0x1008, 3, .u32, .const, 0, 0, 0xFFFFFFFF⟩,  -- ROM_CRC
  ⟨0x1010, 1, .u32, .ro, 0, 0, 0xFFFFFFFF⟩]  -- STRAP_WORD

/-- Objects 1100 to 11FF. -/
def objects11 : List ObjDef := [
  ⟨0x1100, 1, .u16, .ro, 0, 0, 0xFFFF⟩,  -- CLIENTS_HELD
  ⟨0x1100, 2, .u32, .rw, 0x3E8, 0xA, 0xEA60⟩,  -- OBJ_DEDUP_HOLD
  ⟨0x1100, 3, .u32, .rw, 0x3E8, 0xA, 0xEA60⟩,  -- SEG_TIMEOUT
  ⟨0x1100, 4, .u8, .ro, 0, 0, 0xFF⟩,  -- TRANSFERS_OPEN
  ⟨0x1100, 5, .u32, .ro, 0, 0, 0xFFFFFFFF⟩,  -- FRAMES_DROPPED
  ⟨0x1101, 1, .u8, .rw, 3, 0, 3⟩,  -- FB_ENABLE
  ⟨0x1101, 2, .u8, .ro, 0, 0, 0xFF⟩,  -- PLCA_NODE_ID
  ⟨0x1101, 3, .u8, .rws, 8, 1, 0x40⟩,  -- PLCA_NODE_COUNT
  ⟨0x1101, 4, .bool, .rws, 1, 0, 1⟩,  -- PLCA_ENABLE
  ⟨0x1101, 5, .u16, .const, 0xC4EE, 0, 0xFFFF⟩,  -- FB_UDP_PORT
  ⟨0x1101, 6, .octets, .rw, 0, 0, 0xFFFFFFFFFFFFFFFFFFFFFFFFFFFFFFFF⟩,  -- FB_NOTIFY_ADDR
  ⟨0x1101, 7, .u8, .ro, 0, 0, 0xFF⟩,  -- FB_STATE
  ⟨0x1101, 8, .octets, .const, 0, 0, 0⟩,  -- FB_MAC_A
  ⟨0x1101, 9, .octets, .const, 0, 0, 0⟩,  -- FB_MAC_B
  ⟨0x1102, 1, .u8, .ro, 0, 0, 0xFF⟩,  -- I3C_ADDRESS
  ⟨0x1102, 2, .u8, .ro, 0, 0, 0xFF⟩,  -- MCTP_EID
  ⟨0x1102, 3, .octets, .const, 0, 0, 0⟩,  -- I3C_PID
  ⟨0x1103, 1, .u128, .rws, 0, 0, 0xFFFFFFFFFFFFFFFFFFFFFFFFFFFFFFFF⟩]  -- MBOX_ADMIN_PORTS

/-- Objects 1200 to 12FF. -/
def objects12 : List ObjDef := [
  ⟨0x1200, 1, .canalTime, .ro, 0, 0, 0xFFFFFFFFFFFFFFFF⟩,  -- CANAL_TIME
  ⟨0x1200, 2, .u8, .ro, 0, 0, 0xFF⟩,  -- TIME_STATE
  ⟨0x1200, 3, .bool, .ro, 0, 0, 1⟩,  -- TIME_TRUSTED
  ⟨0x1200, 4, .u16, .ro, 0, 0, 0xFFFF⟩,  -- TIME_MASTER
  ⟨0x1200, 5, .u32, .ro, 0, 0, 0xFFFFFFFF⟩,  -- TIME_ERROR
  ⟨0x1200, 6, .u32, .rw, 0x64, 0xA, 0x2710⟩,  -- TIME_LOCK_LIMIT
  ⟨0x1200, 7, .canalTime, .rws, 0, 0, 0xFFFFFFFFFFFFFFFF⟩,  -- TIME_SET
  ⟨0x1200, 8, .u8, .ro, 0xFF, 0, 0xFF⟩,  -- UPSTREAM_LINK
  ⟨0x1201, 1, .u16, .ro, 0, 0, 0xFFFF⟩,  -- DEVICE_NUMBER
  ⟨0x1201, 2, .u8, .ro, 0, 0, 0xFF⟩,  -- FLIGHT_SIZE
  ⟨0x1201, 3, .u8, .ro, 0, 0, 0xFF⟩,  -- MEMBER_STATE
  ⟨0x1201, 4, .u32, .ro, 0, 0, 0xFFFFFFFF⟩,  -- EPOCH
  ⟨0x1201, 5, .u16, .ro, 0, 0, 0xFFFF⟩,  -- LEADER
  ⟨0x1201, 6, .u64, .ro, 0, 0, 0xFFFFFFFFFFFFFFFF⟩,  -- DIGEST
  ⟨0x1201, 7, .u8, .const, 3, 0, 0xFF⟩,  -- FW_MIN_COMPAT
  ⟨0x1201, 8, .u32, .rw, 0x2710, 0x3E8, 0x36EE80⟩,  -- QUARANTINE_REPORT_INTERVAL
  ⟨0x1201, 9, .u8, .ro, 0, 0, 0xFF⟩,  -- QUARANTINE_REASON
  ⟨0x1202, 1, .u16, .rw, 0, 0, 0x3FF⟩,  -- PEER_VIEW_SELECT
  ⟨0x1202, 2, .u128, .ro, 0, 0, 0xFFFFFFFFFFFFFFFFFFFFFFFFFFFFFFFF⟩,  -- PEER_RECORD
  ⟨0x1202, 3, .u64, .ro, 0, 0, 0xFFFFFFFFFFFFFFFF⟩,  -- PEER_DIGEST
  ⟨0x1203, 1, .u8, .rw, 0, 0, 7⟩,  -- ACTIVE_SELECT
  ⟨0x1203, 2, .u128, .ro, 0, 0, 0xFFFFFFFFFFFFFFFFFFFFFFFFFFFFFFFF⟩]  -- ACTIVE_SET

/-- Objects 1F00 to 1FFF. -/
def objects1F : List ObjDef := [
  ⟨0x1F00, 1, .domain, .wo, 0, 0x10, 0x400⟩,  -- CMD_SUBMIT
  ⟨0x1F00, 2, .u8, .ro, 0, 0, 0xFF⟩,  -- CMD_QUEUED
  ⟨0x1F00, 3, .u32, .ro, 1, 0, 0xFFFFFFFF⟩,  -- CMD_NEXT_TICKET
  ⟨0x1F10, 1, .u32, .rw, 0, 0, 0xFFFFFFFF⟩,  -- RESULT_SELECT
  ⟨0x1F10, 2, .u8, .ro, 0, 0, 0xFF⟩,  -- RESULT_STATE
  ⟨0x1F10, 3, .u16, .ro, 0, 0, 0xFFFF⟩,  -- RESULT_CODE
  ⟨0x1F10, 4, .u16, .ro, 0, 0, 0xFFFF⟩,  -- RESULT_OPCODE
  ⟨0x1F10, 5, .u32, .ro, 0, 0, 0xFFFFFFFF⟩,  -- RESULT_CTAG
  ⟨0x1F10, 6, .canalTime, .ro, 0, 0, 0xFFFFFFFFFFFFFFFF⟩,  -- RESULT_ACCEPTED
  ⟨0x1F10, 7, .u32, .ro, 0, 0, 0xFFFFFFFF⟩,  -- RESULT_TIME
  ⟨0x1F10, 8, .domain, .ro, 0, 0, 0⟩]  -- RESULT_DATA

/-- Objects 2000 to 20FF. -/
def objects20 : List ObjDef := [
  ⟨0x2000, 1, .u16, .rw, 0, 0, 0x3FFF⟩,  -- CTX_SELECT
  ⟨0x2000, 2, .u128, .rw, 0, 0, 0xFFFFFFFFFFFFFFFFFFFFFFFFFFFFFFFF⟩,  -- CTX_ENTRY
  ⟨0x2000, 3, .u32, .ro, 0, 0, 0xFFFFFFFF⟩,  -- CTX_FAULTS
  ⟨0x2000, 4, .u16, .ro, 0, 0, 0xFFFF⟩,  -- CTX_LAST_EVENT
  ⟨0x2001, 1, .u8, .rw, 0, 0, 0xFF⟩,  -- PSET_SELECT
  ⟨0x2001, 2, .u128, .rw, 0, 0, 0xFFFFFFFFFFFFFFFFFFFFFFFFFFFFFFFF⟩,  -- PSET_SEARCH_LO
  ⟨0x2001, 3, .u128, .rw, 0, 0, 0xFFFFFFFFFFFFFFFFFFFFFFFFFFFFFFFF⟩,  -- PSET_SEARCH_HI
  ⟨0x2001, 4, .u128, .rw, 0, 0, 0xFFFFFFFFFFFFFFFFFFFFFFFFFFFFFFFF⟩,  -- PSET_UPDATE_LO
  ⟨0x2001, 5, .u128, .rw, 0, 0, 0xFFFFFFFFFFFFFFFFFFFFFFFFFFFFFFFF⟩,  -- PSET_UPDATE_HI
  ⟨0x2010, 1, .u16, .rw, 0, 0, 0x7FFF⟩,  -- REGION_SELECT
  ⟨0x2010, 2, .u128, .rw, 0, 0, 0xFFFFFFFFFFFFFFFFFFFFFFFFFFFFFFFF⟩,  -- REGION_WORD1
  ⟨0x2010, 3, .u128, .rw, 0, 0, 0xFFFFFFFFFFFFFFFFFFFFFFFFFFFFFFFF⟩,  -- REGION_WORD0
  ⟨0x2010, 4, .u8, .ro, 0, 0, 0xFF⟩,  -- REGION_STATE
  ⟨0x2010, 5, .u8, .ro, 0, 0, 0xFF⟩,  -- REGION_ROWS
  ⟨0x2011, 1, .u16, .ro, 0, 0, 0xFFFF⟩,  -- REGIONS_ACTIVE
  ⟨0x2011, 2, .u32, .ro, 0, 0, 0xFFFFFFFF⟩,  -- SYSCHART_USED
  ⟨0x2011, 3, .u32, .rws, 0x10000, 0x4000, 0x40000⟩,  -- SYSCHART_RESERVED
  ⟨0x2011, 4, .bool, .rws, 0, 0, 1⟩,  -- DEFAULT_PROTECT
  ⟨0x2020, 1, .bool, .rw, 1, 0, 1⟩,  -- LOOKASIDE_ENABLE
  ⟨0x2020, 2, .bool, .wo, 0, 1, 1⟩,  -- LOOKASIDE_FLUSH
  ⟨0x2020, 3, .u32, .rw, 0x3E8, 0xA, 0xF4240⟩]  -- FAULT_LOG_INTERVAL

/-- Objects 2200 to 22FF. -/
def objects22 : List ObjDef := [
  ⟨0x2200, 1, .u8, .ro, 0, 0, 0xFF⟩,  -- CACHE_STATE
  ⟨0x2200, 2, .u8, .ro, 0, 0, 0xFF⟩,  -- CACHE_PENDING
  ⟨0x2200, 3, .u8, .ro, 0, 0, 0xFF⟩,  -- MOORED_WAYS
  ⟨0x2200, 4, .u64, .ro, 0, 0, 0xFFFFFFFFFFFFFFFF⟩,  -- MOORED_CAPACITY
  ⟨0x2200, 5, .bool, .rw, 1, 0, 1⟩,  -- PREFETCH_ENABLE
  ⟨0x2200, 6, .u16, .rw, 0x10, 0, 0x3FF⟩,  -- MERGE_WINDOW
  ⟨0x2200, 7, .u32, .ro, 0, 0, 0xFFFFFFFF⟩,  -- WT_LOST_TOTAL
  ⟨0x2210, 1, .u8, .rw, 0, 0, 0x3F⟩,  -- SLICE_SELECT
  ⟨0x2210, 2, .u32, .ro, 0, 0, 0xFFFFFFFF⟩,  -- WAY_MODES
  ⟨0x2210, 3, .u16, .ro, 0, 0, 0xFFFF⟩,  -- LFSR_STATE
  ⟨0x2210, 4, .u8, .ro, 0, 0, 0xFF⟩,  -- WB_OCCUPANCY
  ⟨0x2210, 5, .u8, .rw, 0, 0, 0⟩,  -- WB_HIGH_WATER
  ⟨0x2210, 6, .u8, .ro, 0, 0, 0xFF⟩,  -- MISS_IN_USE
  ⟨0x2210, 7, .u8, .ro, 0, 0, 0xFF⟩,  -- MERGE_IN_USE
  ⟨0x2210, 8, .u8, .rw, 0, 0, 0xF⟩,  -- WAY_SELECT
  ⟨0x2210, 9, .u16, .ro, 0, 0, 0xFFFF⟩,  -- WAY_BUCKET
  ⟨0x2211, 1, .u16, .rw, 0, 0, 0xFFF⟩,  -- TAG_SET_SELECT
  ⟨0x2211, 2, .u64, .ro, 0, 0, 0xFFFFFFFFFFFFFFFF⟩,  -- TAG_ENTRY
  ⟨0x2220, 1, .u8, .rws, 0, 0, 1⟩,  -- LFSR_MODE
  ⟨0x2220, 2, .u16, .rws, 0x5A, 0, 0xFFFF⟩,  -- LFSR_SEED_BASE
  ⟨0x2230, 1, .u16, .rw, 0x40, 8, 0x1000⟩,  -- DRYDOCK_THRESHOLD
  ⟨0x2230, 2, .u32, .rw, 0x64, 1, 0x186A0⟩,  -- DRYDOCK_LEAK_INTERVAL
  ⟨0x2230, 3, .u8, .rw, 8, 1, 0x40⟩,  -- DRYDOCK_UE_WEIGHT
  ⟨0x2230, 4, .u16, .ro, 0, 0, 0xFFFF⟩]  -- DRYDOCKED_TOTAL

/-- Objects 2400 to 24FF. -/
def objects24 : List ObjDef := [
  ⟨0x2400, 1, .u32, .ro, 0, 0, 0xFFFFFFFF⟩,  -- DIR_ENTRIES_USED
  ⟨0x2400, 2, .u16, .rw, 0xC8, 0, 0x2710⟩,  -- DWELL_TIME
  ⟨0x2400, 3, .u32, .rw, 0x64, 1, 0x186A0⟩,  -- SNOOP_TIMEOUT
  ⟨0x2400, 4, .u64, .ro, 0, 0, 0xFFFFFFFFFFFFFFFF⟩,  -- DIR_EVICTIONS
  ⟨0x2400, 5, .u32, .ro, 0, 0, 0xFFFFFFFF⟩,  -- BROADCAST_ENTRIES
  ⟨0x2400, 6, .u32, .rw, 0x3E8, 0xA, 0xF4240⟩,  -- POISON_RETRY_INTERVAL
  ⟨0x2400, 7, .u32, .ro, 0, 0, 0xFFFFFFFF⟩,  -- POISONED_ENTRIES
  ⟨0x2400, 8, .u32, .ro, 0, 0, 0xFFFFFFFF⟩,  -- PINNED_ENTRIES
  ⟨0x2400, 9, .u64, .ro, 0, 0, 0xFFFFFFFFFFFFFFFF⟩,  -- ALIAS_RECALLS
  ⟨0x2400, 10, .u16, .ro, 0, 0, 0xFFFF⟩,  -- RETIRED_INTERVALS
  ⟨0x2400, 11, .u16, .ro, 0, 0, 0xFFFF⟩,  -- SET_RECALL_ACTIVE
  ⟨0x2410, 1, .u8, .rw, 0, 0, 0x3F⟩,  -- DIR_SLICE_SELECT
  ⟨0x2410, 2, .u16, .rw, 0, 0, 0x7FFF⟩,  -- DIR_SET_SELECT
  ⟨0x2410, 3, .u8, .rw, 0, 0, 0xB⟩,  -- DIR_WAY_SELECT
  ⟨0x2410, 4, .u128, .ro, 0, 0, 0xFFFFFFFFFFFFFFFFFFFFFFFFFFFFFFFF⟩,  -- DIR_ENTRY
  ⟨0x2410, 5, .u8, .ro, 0, 0, 0xFF⟩,  -- TRACKERS_IN_USE
  ⟨0x2410, 6, .u8, .ro, 0, 0, 0xFF⟩,  -- BLOCKED_DEPTH
  ⟨0x2410, 7, .u16, .ro, 0, 0, 0xFFFF⟩,  -- TIE_POINTER
  ⟨0x2420, 1, .u8, .rw, 0, 0, 0x7F⟩,  -- COH_PORT_SELECT
  ⟨0x2420, 2, .u32, .ro, 0, 0, 0xFFFFFFFF⟩,  -- PORT_VIOLATIONS
  ⟨0x2420, 3, .u32, .ro, 0, 0, 0xFFFFFFFF⟩,  -- PORT_TIMEOUTS
  ⟨0x2420, 4, .bool, .rw, 0, 0, 0⟩,  -- PORT_SUSPECT
  ⟨0x2421, 1, .u16, .rw, 0x10, 1, 0xFFFF⟩,  -- SUSPECT_THRESHOLD
  ⟨0x2421, 2, .u32, .rw, 0x3E8, 1, 0x36EE80⟩,  -- SUSPECT_INTERVAL
  ⟨0x2421, 3, .u8, .rw, 0, 0, 1⟩]  -- SUSPECT_ACTION

/-- Objects 2600 to 26FF. -/
def objects26 : List ObjDef := [
  ⟨0x2600, 1, .u16, .rw, 0, 0, 0xFFF⟩,  -- QUEUE_SELECT
  ⟨0x2600, 2, .u128, .rwd, 0, 0, 0xFFFFFFFFFFFFFFFFFFFFFFFFFFFFFFFF⟩,  -- QUEUE_CONFIG
  ⟨0x2600, 3, .u8, .ro, 0, 0, 0xFF⟩,  -- QUEUE_STATE
  ⟨0x2600, 4, .u8, .wo, 0, 1, 3⟩,  -- QUEUE_CONTROL
  ⟨0x2600, 5, .u32, .ro, 0, 0, 0xFFFFFFFF⟩,  -- SQ_HEAD
  ⟨0x2600, 6, .u32, .ro, 0, 0, 0xFFFFFFFF⟩,  -- SQ_TAIL
  ⟨0x2600, 7, .u32, .ro, 0, 0, 0xFFFFFFFF⟩,  -- CQ_HEAD
  ⟨0x2600, 8, .u32, .ro, 0, 0, 0xFFFFFFFF⟩,  -- CQ_TAIL
  ⟨0x2600, 9, .u64, .ro, 0, 0, 0xFFFFFFFFFFFFFFFF⟩,  -- LOST_STORES
  ⟨0x2600, 10, .u8, .ro, 0, 0, 0xFF⟩,  -- QUEUE_FLAGS
  ⟨0x2600, 11, .u16, .ro, 0, 0, 0xFFFF⟩,  -- QUEUE_LAST_EVENT
  ⟨0x2600, 12, .u64, .rwd, 0, 0, 0xFFFFFFFFFFFFFFFF⟩,  -- SQ_BASE
  ⟨0x2600, 13, .u64, .rwd, 0, 0, 0xFFFFFFFFFFFFFFFF⟩,  -- CQ_BASE
  ⟨0x2600, 14, .u32, .rwd, 0, 0, 0xFFFFFFFF⟩,  -- DATA_BASE
  ⟨0x2600, 15, .u32, .rwd, 0, 0, 0x800000⟩,  -- DATA_SIZE
  ⟨0x2601, 1, .bool, .rw, 0, 0, 1⟩,  -- STRICT_ALL
  ⟨0x2601, 2, .u16, .ro, 0, 0, 0xFFFF⟩,  -- QUEUES_ACTIVE
  ⟨0x2601, 3, .u32, .ro, 0, 0, 0xFFFFFFFF⟩,  -- DOORBELLS_IGNORED
  ⟨0x2601, 4, .u32, .ro, 0, 0, 0xFFFFFFFF⟩]  -- LOST_AT_RESET

/-- Objects 3000 to 30FF. -/
def objects30 : List ObjDef := [
  ⟨0x3000, 1, .u32, .const, 0x200000, 0, 0xFFFFFFFF⟩,  -- ROWS_TOTAL
  ⟨0x3000, 2, .u32, .ro, 0, 0, 0xFFFFFFFF⟩,  -- ROWS_USED
  ⟨0x3000, 3, .u16, .ro, 1, 0, 0xFFFF⟩,  -- CHARTS_VALID
  ⟨0x3000, 4, .u8, .rw, 8, 1, 0x20⟩,  -- POWER_CAP
  ⟨0x3001, 1, .u16, .rw, 8, 5, 0x3E8⟩,  -- SWEEP_PERIOD
  ⟨0x3001, 2, .u32, .ro, 0, 0, 0xFFFFFFFF⟩,  -- SWEEP_PASSES
  ⟨0x3001, 3, .u32, .ro, 0, 0, 0xFFFFFFFF⟩,  -- SWEEP_POSITION
  ⟨0x3010, 1, .u8, .rw, 0, 0, 0xFF⟩,  -- CHART_SELECT
  ⟨0x3010, 2, .u128, .rw, 0, 0, 0xFFFFFFFFFFFFFFFFFFFFFFFFFFFFFFFF⟩,  -- CHART_WORD1
  ⟨0x3010, 3, .u128, .rw, 0, 0, 0xFFFFFFFFFFFFFFFFFFFFFFFFFFFFFFFF⟩,  -- CHART_WORD0
  ⟨0x3010, 4, .u8, .ro, 0, 0, 0xFF⟩,  -- CHART_STATE
  ⟨0x3010, 5, .u32, .ro, 0, 0, 0xFFFFFFFF⟩,  -- CHART_ENTRIES
  ⟨0x3010, 6, .u32, .ro, 0, 0, 0xFFFFFFFF⟩,  -- CHART_ROWS
  ⟨0x3010, 7, .u32, .ro, 0, 0, 0xFFFFFFFF⟩,  -- CHART_FILL_MAX
  ⟨0x3011, 1, .u8, .rw, 0, 0, 7⟩,  -- GMAP_SELECT
  ⟨0x3011, 2, .u128, .rw, 0, 0, 0xFFFFFFFFFFFFFFFFFFFFFFFFFFFFFFFF⟩,  -- GMAP_WORD
  ⟨0x3012, 1, .u8, .rw, 0, 0, 0x15⟩,  -- DMAP_SELECT
  ⟨0x3012, 2, .u128, .rw, 0, 0, 0xFFFFFFFFFFFFFFFFFFFFFFFFFFFFFFFF⟩,  -- DMAP_WORD
  ⟨0x3030, 1, .u32, .rw, 0, 0, 0x1FFFFF⟩,  -- ROW_SELECT
  ⟨0x3030, 2, .u8, .rw, 0, 0, 1⟩,  -- ROW_SOURCE
  ⟨0x3030, 3, .u128, .ro, 0, 0, 0xFFFFFFFFFFFFFFFFFFFFFFFFFFFFFFFF⟩,  -- ROW_X
  ⟨0x3030, 4, .u128, .ro, 0, 0, 0xFFFFFFFFFFFFFFFFFFFFFFFFFFFFFFFF⟩,  -- ROW_Y
  ⟨0x3030, 5, .u64, .ro, 0, 0, 0xFFFFFFFFFFFFFFFF⟩,  -- ROW_CONTROL
  ⟨0x3030, 6, .u64, .ro, 0, 0, 0xFFFFFFFFFFFFFFFF⟩]  -- ROW_DATUM

/-- Objects 3400 to 34FF. -/
def objects34 : List ObjDef := [
  ⟨0x3400, 1, .u16, .ro, 0, 0, 0xFFFF⟩,  -- TABLE_CLIENTS
  ⟨0x3400, 2, .u32, .rw, 0x3E8, 1, 0x2710⟩,  -- DEDUP_HOLD
  ⟨0x3400, 3, .u64, .ro, 0, 0, 0xFFFFFFFFFFFFFFFF⟩,  -- DUPLICATES_ANSWERED
  ⟨0x3400, 4, .u32, .ro, 0, 0, 0xFFFFFFFF⟩,  -- PENDING_UPDATES
  ⟨0x3400, 5, .u32, .rw, 0x3E8, 0xA, 0xF4240⟩,  -- INCOMPLETE_LOG_INTERVAL
  ⟨0x3410, 1, .u8, .rw, 0, 1, 0xFF⟩,  -- SPAN_CHART_SELECT
  ⟨0x3410, 2, .u16, .ro, 0, 0, 0xFFFF⟩,  -- CHART_GENERATION
  ⟨0x3410, 3, .u32, .ro, 0, 0, 0xFFFFFFFF⟩,  -- CHART_STAMP
  ⟨0x3410, 4, .u32, .ro, 0, 0, 0xFFFFFFFF⟩,  -- FLIGHT_MEMBERS
  ⟨0x3410, 5, .u8, .rw, 0, 0, 7⟩,  -- CANAL_MEMBER_SELECT
  ⟨0x3410, 6, .u128, .ro, 0, 0, 0xFFFFFFFFFFFFFFFFFFFFFFFFFFFFFFFF⟩,  -- CANAL_MEMBERS
  ⟨0x3410, 7, .u16, .ro, 0, 0, 0xFFFF⟩,  -- CHART_COORDINATOR
  ⟨0x3420, 1, .u16, .rw, 0, 0, 0x3FF⟩,  -- PEER_SELECT
  ⟨0x3420, 2, .u32, .ro, 0, 0, 0xFFFFFFFF⟩,  -- PEER_ABSENT
  ⟨0x3420, 3, .u8, .ro, 0, 0, 0xFF⟩,  -- PEER_LAST_REASON
  ⟨0x3430, 1, .u64, .ro, 0, 0, 0xFFFFFFFFFFFFFFFF⟩,  -- CASCADE_LAUNCHED
  ⟨0x3430, 2, .u64, .ro, 0, 0, 0xFFFFFFFFFFFFFFFF⟩,  -- CASCADE_INCOMPLETE
  ⟨0x3430, 3, .u64, .ro, 0, 0, 0xFFFFFFFFFFFFFFFF⟩,  -- PARTS_SERVED
  ⟨0x3430, 4, .u64, .ro, 0, 0, 0xFFFFFFFFFFFFFFFF⟩,  -- NO_SLOT_ANSWERS
  ⟨0x3430, 5, .u64, .ro, 0, 0, 0xFFFFFFFFFFFFFFFF⟩,  -- LATE_ANSWERS
  ⟨0x3440, 1, .u32, .ro, 0, 0, 0xFFFFFFFF⟩,  -- SWEEP_MISMATCHES
  ⟨0x3440, 2, .u32, .ro, 0, 0, 0xFFFFFFFF⟩,  -- PSTORE_REBUILDS
  ⟨0x3440, 3, .u32, .ro, 0, 0, 0xFFFFFFFF⟩]  -- SWEEP_LATE_PASSES

/-- Objects 4000 to 40FF. -/
def objects40 : List ObjDef := [
  ⟨0x4000, 1, .u8, .ro, 0, 0, 0xFF⟩,  -- PROT_STATE
  ⟨0x4000, 2, .u8, .ro, 0, 0, 0xFF⟩,  -- PROT_PENDING
  ⟨0x4000, 3, .octets, .const, 0, 0, 0⟩,  -- DEVICE_PUBLIC_KEY
  ⟨0x4000, 4, .domain, .const, 0, 0, 0⟩,  -- DEVICE_CERT
  ⟨0x4000, 5, .u8, .ro, 0, 0, 0xFF⟩,  -- KEK_STATE
  ⟨0x4000, 6, .u128, .rws, 0, 0, 0xFFFFFFFFFFFFFFFFFFFFFFFFFFFFFFFF⟩,  -- PROT_ADMIN_PORTS
  ⟨0x4001, 1, .u32, .ro, 0, 0, 0xFFFFFFFF⟩,  -- CCACHE_DIRTY_0
  ⟨0x4001, 2, .u32, .ro, 0, 0, 0xFFFFFFFF⟩,  -- CCACHE_DIRTY_1
  ⟨0x4001, 3, .u32, .ro, 0, 0, 0xFFFFFFFF⟩,  -- CCACHE_PINNED
  ⟨0x4010, 1, .u16, .rw, 0, 0, 0xFFF⟩,  -- PREG_SELECT
  ⟨0x4010, 2, .u128, .rw, 0, 0, 0xFFFFFFFFFFFFFFFFFFFFFFFFFFFFFFFF⟩,  -- PREG_WORD1
  ⟨0x4010, 3, .u128, .rw, 0, 0, 0xFFFFFFFFFFFFFFFFFFFFFFFFFFFFFFFF⟩,  -- PREG_WORD0
  ⟨0x4010, 4, .u8, .ro, 0, 0, 0xFF⟩,  -- PREG_STATE
  ⟨0x4010, 5, .u8, .ro, 0, 0, 0xFF⟩,  -- PREG_FLAGS
  ⟨0x4010, 6, .u64, .ro, 0, 0, 0xFFFFFFFFFFFFFFFF⟩,  -- NEEDLE
  ⟨0x4010, 7, .u8, .ro, 0, 0, 0xFF⟩,  -- TREE_EPOCH
  ⟨0x4010, 8, .u64, .ro, 0, 0, 0xFFFFFFFFFFFFFFFF⟩,  -- META_SIZE
  ⟨0x4010, 9, .u32, .ro, 0, 0, 0xFFFFFFFF⟩,  -- INTEGRITY_FAILS
  ⟨0x4010, 10, .u64, .ro, 0, 0, 0xFFFFFFFFFFFFFFFF⟩,  -- MINOR_OVERFLOWS
  ⟨0x4010, 11, .u16, .ro, 0, 0, 0xFFFF⟩,  -- DAMAGED_NODES
  ⟨0x4020, 1, .u16, .rw, 0, 0, 0xFFF⟩,  -- KEY_SELECT
  ⟨0x4020, 2, .u8, .ro, 0, 0, 0xFF⟩,  -- KEY_STATE
  ⟨0x4020, 3, .u32, .ro, 0, 0, 0xFFFFFFFF⟩,  -- KEY_CHECK
  ⟨0x4020, 4, .u16, .ro, 0xFFFF, 0, 0xFFFF⟩,  -- KEY_ROOT
  ⟨0x4030, 1, .u8, .rw, 0x19, 0, 0x64⟩,  -- REKNIT_RATE
  ⟨0x4030, 2, .u32, .rw, 0xA, 1, 0x2710⟩,  -- REKNIT_STALL_LIMIT
  ⟨0x4030, 3, .u16, .ro, 0xFFFF, 0, 0xFFFF⟩,  -- REKNIT_ROOT
  ⟨0x4030, 4, .u64, .ro, 0, 0, 0xFFFFFFFFFFFFFFFF⟩,  -- REKNIT_CANCELS
  ⟨0x4040, 1, .u32, .rw, 0x3E8, 0xA, 0xF4240⟩]  -- NODE_RETRY_INTERVAL

/-- Objects 4200 to 42FF. -/
def objects42 : List ObjDef := [
  ⟨0x4200, 1, .u16, .rw, 0x18, 1, 0xA8⟩,  -- SCRUB_PERIOD
  ⟨0x4200, 2, .bool, .rw, 1, 0, 1⟩,  -- SCRUB_ENABLE
  ⟨0x4200, 3, .u32, .ro, 0, 0, 0xFFFFFFFF⟩,  -- SCRUB_PASSES
  ⟨0x4200, 4, .u8, .ro, 0, 0, 0xFF⟩,  -- SCRUB_PROGRESS
  ⟨0x4200, 5, .u32, .ro, 0, 0, 0xFFFFFFFF⟩,  -- SCRUB_LATE_PASSES
  ⟨0x4210, 1, .u16, .rw, 0, 0, 0x17F⟩,  -- BUCKET_SELECT
  ⟨0x4210, 2, .u16, .ro, 0, 0, 0xFFFF⟩,  -- BUCKET_LEVEL
  ⟨0x4210, 3, .u32, .ro, 0, 0, 0xFFFFFFFF⟩,  -- BUCKET_OVERFLOWS
  ⟨0x4210, 4, .u64, .ro, 0, 0, 0xFFFFFFFFFFFFFFFF⟩,  -- BUCKET_CE
  ⟨0x4210, 5, .u64, .ro, 0, 0, 0xFFFFFFFFFFFFFFFF⟩,  -- BUCKET_UE
  ⟨0x4211, 1, .u8, .rw, 0, 0, 0xE⟩,  -- BCLASS_SELECT
  ⟨0x4211, 2, .u16, .rw, 0, 2, 0x1000⟩,  -- BCLASS_THRESHOLD
  ⟨0x4211, 3, .u32, .rw, 0xEA60, 1, 0x36EE80⟩,  -- BCLASS_LEAK_INTERVAL
  ⟨0x4211, 4, .u8, .rw, 0, 1, 0x40⟩,  -- BCLASS_UE_WEIGHT
  ⟨0x4220, 1, .u32, .rw, 0x3E8, 1, 0x36EE80⟩,  -- NOTE_LOG_INTERVAL
  ⟨0x4230, 1, .bool, .rws, 0, 0, 1⟩,  -- INJECT_ENABLE
  ⟨0x4230, 2, .u16, .rw, 0, 0, 0x176⟩,  -- INJECT_BUCKET
  ⟨0x4230, 3, .u8, .rw, 1, 1, 4⟩,  -- INJECT_KIND
  ⟨0x4230, 4, .bool, .wo, 0, 1, 1⟩,  -- INJECT_ARM
  ⟨0x4230, 5, .u8, .ro, 0, 0, 0xFF⟩,  -- INJECT_STATE
  ⟨0x4240, 1, .u8, .ro, 0, 0, 0xFF⟩,  -- CHECKER_RESULT
  ⟨0x4240, 2, .u16, .ro, 0, 0, 0xFFFF⟩,  -- CHECKERS_TESTED
  ⟨0x4240, 3, .u16, .ro, 0xFFFF, 0, 0xFFFF⟩]  -- CHECKER_FIRST_FAIL

/-- Objects 4400 to 44FF. -/
def objects44 : List ObjDef := [
  ⟨0x4400, 1, .u16, .const, 0x8000, 0, 0xFFFF⟩,  -- SLOTS_TOTAL
  ⟨0x4400, 2, .u16, .ro, 0, 0, 0xFFFF⟩,  -- SLOTS_RESERVED
  ⟨0x4400, 3, .u16, .ro, 0, 0, 0xFFFF⟩,  -- SLOTS_IN_USE
  ⟨0x4400, 4, .u16, .ro, 0, 0, 0xFFFF⟩,  -- SHARED_IN_USE
  ⟨0x4400, 5, .u16, .rws, 0x800, 0x200, 0x4000⟩,  -- SHARED_FLOOR
  ⟨0x4400, 6, .u16, .rw, 0x14, 1, 0x3E8⟩,  -- AGE_LIMIT
  ⟨0x4400, 7, .u16, .ro, 0, 0, 0xFFFF⟩,  -- ADMIT_WAITING
  ⟨0x4410, 1, .u16, .rw, 0, 0, 0x3FFF⟩,  -- REG_CTX_SELECT
  ⟨0x4410, 2, .u16, .ro, 0, 0, 0xFFFF⟩,  -- CTX_OUTSTANDING
  ⟨0x4410, 3, .u16, .ro, 0, 0, 0xFFFF⟩,  -- CTX_GUARANTEED
  ⟨0x4410, 4, .u16, .rw, 0, 0, 0⟩,  -- CTX_PEAK
  ⟨0x4410, 5, .u32, .ro, 0, 0, 0xFFFFFFFF⟩,  -- CTX_GMISSES
  ⟨0x4410, 6, .u64, .ro, 0, 0, 0xFFFFFFFFFFFFFFFF⟩]  -- CTX_DEMOTED

/-- Objects 4600 to 46FF. -/
def objects46 : List ObjDef := [
  ⟨0x4600, 1, .u16, .rw, 0, 0, 0x7FF⟩,  -- ECTR_SELECT
  ⟨0x4600, 2, .u64, .ro, 0, 0, 0xFFFFFFFFFFFFFFFF⟩,  -- ECTR_VALUE
  ⟨0x4600, 3, .domain, .ro, 0, 0, 0⟩,  -- ECTR_ALL
  ⟨0x4600, 4, .u128, .rws, 0, 0, 0xFFFFFFFFFFFFFFFFFFFFFFFFFFFFFFFF⟩,  -- CTR_ADMIN_PORTS
  ⟨0x4600, 5, .u32, .ro, 0, 0, 0xFFFFFFFF⟩,  -- CTR_PARITY_RESETS
  ⟨0x4610, 1, .u16, .rw, 0, 0, 0x3FFF⟩,  -- PCTR_SELECT
  ⟨0x4610, 2, .u64, .ro, 0, 0, 0xFFFFFFFFFFFFFFFF⟩,  -- PCTR_TXNS
  ⟨0x4610, 3, .u64, .ro, 0, 0, 0xFFFFFFFFFFFFFFFF⟩,  -- PCTR_OCC
  ⟨0x4620, 1, .u32, .rwd, 0x3E8, 1, 0xF4240⟩,  -- DUMP_BASE_INTERVAL
  ⟨0x4620, 2, .u16, .ro, 0, 0, 0xFFFF⟩,  -- DUMP_RINGS_ENABLED
  ⟨0x4621, 1, .u8, .rw, 0, 0, 0xF⟩,  -- DUMP_SELECT
  ⟨0x4621, 2, .u128, .rwd, 0, 0, 0xFFFFFFFFFFFFFFFFFFFFFFFFFFFFFFFF⟩,  -- DUMP_CONFIG
  ⟨0x4621, 3, .u8, .wo, 0, 1, 2⟩,  -- DUMP_CONTROL
  ⟨0x4621, 4, .u8, .ro, 0, 0, 0xFF⟩,  -- DUMP_STATE
  ⟨0x4621, 5, .u32, .rw, 0, 0, 0xFFFFFFFF⟩,  -- DUMP_HEAD
  ⟨0x4621, 6, .u32, .ro, 0, 0, 0xFFFFFFFF⟩,  -- DUMP_TAIL
  ⟨0x4621, 7, .u32, .ro, 0, 0, 0xFFFFFFFF⟩,  -- DUMP_SKIPPED
  ⟨0x4621, 8, .u64, .ro, 0, 0, 0xFFFFFFFFFFFFFFFF⟩,  -- DUMP_LAST_SEQ
  ⟨0x4621, 9, .u64, .rwd, 0, 0, 0xFFFFFFFFFFFFFFFF⟩,  -- DUMP_BASE
  ⟨0x4621, 10, .u32, .ro, 0x40, 0, 0xFFFFFFFF⟩]  -- DUMP_RECORD_BYTES

/-- Objects 5000 to 50FF. -/
def objects50 : List ObjDef := [
  ⟨0x5000, 1, .u8, .rw, 0, 0, 0x7F⟩,  -- QUAD_SELECT
  ⟨0x5000, 2, .u8, .rwd, 0, 0, 2⟩,  -- QUAD_ROLE
  ⟨0x5000, 3, .u8, .ro, 0, 0, 0xFF⟩,  -- QUAD_PORT
  ⟨0x5001, 1, .u8, .rw, 0, 0, 0x7F⟩,  -- PORT_SELECT
  ⟨0x5001, 2, .u32, .rwd, 0, 0, 0xFFFFFFFF⟩,  -- PORT_CONFIG
  ⟨0x5001, 3, .u8, .ro, 0, 0, 0xFF⟩,  -- PORT_STATE
  ⟨0x5001, 4, .u8, .ro, 0, 0, 0xFF⟩,  -- PORT_SPEED
  ⟨0x5001, 5, .u8, .ro, 0, 0, 0xFF⟩,  -- PORT_WIDTH
  ⟨0x5001, 6, .u8, .ro, 0, 0, 0xFF⟩,  -- PORT_IDE
  ⟨0x5001, 7, .u8, .wo, 0, 2, 2⟩]  -- PORT_CONTROL

/-- Objects 5100 to 51FF. -/
def objects51 : List ObjDef := [
  ⟨0x5100, 1, .u32, .rw, 0x32, 0xA, 0x186A0⟩,  -- POOL_TIMEOUT
  ⟨0x5101, 1, .u8, .rw, 0, 0, 0xFF⟩,  -- TARGET_SELECT
  ⟨0x5101, 2, .u128, .rw, 0, 0, 0xFFFFFFFFFFFFFFFFFFFFFFFFFFFFFFFF⟩,  -- TARGET_DESC
  ⟨0x5101, 3, .u32, .ro, 0, 0, 0xFFFFFFFF⟩,  -- TARGET_READ_FAILS
  ⟨0x5102, 1, .u64, .rw, 0x807060504030201, 0, 0xFFFFFFFFFFFFFFFF⟩,  -- SVC_WEIGHT
  ⟨0x5102, 2, .u8, .rw, 1, 1, 0xFF⟩]  -- SVC_BG_WEIGHT

/-- Objects 5200 to 52FF. -/
def objects52 : List ObjDef := [
  ⟨0x5200, 1, .u8, .rw, 0, 0, 0x7F⟩,  -- LINK_SELECT
  ⟨0x5200, 2, .u8, .ro, 0, 0, 0xFF⟩,  -- LINK_STATE
  ⟨0x5200, 3, .u32, .ro, 0, 0, 0xFFFFFFFF⟩,  -- LINK_PEER
  ⟨0x5200, 4, .u32, .ro, 0, 0, 0xFFFFFFFF⟩,  -- LINK_DELAY
  ⟨0x5200, 5, .u32, .ro, 0, 0, 0xFFFFFFFF⟩,  -- LINK_REPLAYS
  ⟨0x5200, 6, .u32, .ro, 0, 0, 0xFFFFFFFF⟩,  -- LINK_CRC_FAILS
  ⟨0x5200, 7, .u64, .ro, 0, 0, 0xFFFFFFFFFFFFFFFF⟩,  -- LINK_FEC_CORRECTED
  ⟨0x5200, 8, .bool, .rw, 1, 0, 1⟩,  -- LINK_ENABLE
  ⟨0x5201, 1, .u32, .rwd, 0, 0, 0xFFFFFFFF⟩,  -- SPARE_MAP
  ⟨0x5201, 2, .u128, .ro, 0, 0, 0xFFFFFFFFFFFFFFFFFFFFFFFFFFFFFFFF⟩,  -- LINKS_ACTIVE
  ⟨0x5201, 3, .u8, .rw, 8, 2, 0x40⟩]  -- REPLAY_LIMIT

/-- Objects 6000 to 60FF. -/
def objects60 : List ObjDef := [
  ⟨0x6000, 1, .u8, .ro, 0, 0, 0xFF⟩,  -- RESET_CAUSE
  ⟨0x6000, 2, .u8, .ro, 1, 0, 0xFF⟩,  -- DEVICE_STATE
  ⟨0x6000, 3, .bool, .ro, 1, 0, 1⟩,  -- WINDOW_OPEN
  ⟨0x6000, 4, .u32, .rws, 0xEA60, 0, 0x36EE80⟩,  -- STARTUP_TIMEOUT
  ⟨0x6000, 5, .u32, .ro, 0, 0, 0xFFFFFFFF⟩,  -- WARM_RESETS
  ⟨0x6000, 6, .u32, .ro, 0, 0, 0xFFFFFFFF⟩,  -- READY_TIME
  ⟨0x6000, 7, .u32, .ro, 0, 0, 0xFFFFFFFF⟩,  -- LAST_WARM_DURATION
  ⟨0x6001, 1, .u8, .ro, 0, 0, 0xFF⟩,  -- BIST_DEPTH
  ⟨0x6001, 2, .u8, .ro, 0, 0, 0xFF⟩,  -- BIST_RESULT
  ⟨0x6001, 3, .u32, .ro, 0, 0, 0xFFFFFFFF⟩,  -- BIST_FAILED_WORDS
  ⟨0x6001, 4, .u32, .ro, 0, 0, 0xFFFFFFFF⟩,  -- BIST_DURATION
  ⟨0x6002, 1, .u8, .rws, 0, 0, 2⟩,  -- TEST_MODE
  ⟨0x6010, 1, .u32, .ro, 0, 0, 0xFFFFFFFF⟩,  -- WARM_LOST
  ⟨0x6010, 2, .u8, .rws, 0x28, 0xA, 0x2D⟩,  -- PF_DRAIN_LIMIT
  ⟨0x6010, 3, .u32, .ro, 0, 0, 0xFFFFFFFF⟩,  -- PF_LOST
  ⟨0x6020, 1, .u8, .ro, 0, 0, 0xFF⟩,  -- INPUT_STUCK
  ⟨0x6020, 2, .u32, .ro, 0, 0, 0xFFFFFFFF⟩,  -- RESET_RUNTS
  ⟨0x6020, 3, .u32, .ro, 0, 0, 0xFFFFFFFF⟩,  -- PFAIL_CHATTER
  ⟨0x6020, 4, .u32, .ro, 0, 0, 0xFFFFFFFF⟩,  -- PPS_REJECTED
  ⟨0x6020, 5, .bool, .ro, 0, 0, 1⟩]  -- PPS_QUALIFIED

/-- Objects 7000 to 70FF. -/
def objects70 : List ObjDef := [
  ⟨0x7000, 1, .u8, .ro, 0, 0, 0xFF⟩,  -- FAULT_SUMMARY
  ⟨0x7000, 2, .bool, .wo, 0, 1, 1⟩,  -- FAULT_SUMMARY_CLEAR
  ⟨0x7000, 3, .u16, .ro, 0, 0, 0xFFFF⟩,  -- FATAL_EVENT
  ⟨0x7000, 4, .canalTime, .ro, 0, 0, 0xFFFFFFFFFFFFFFFF⟩,  -- FATAL_TIME
  ⟨0x7000, 5, .u16, .ro, 0, 0, 0xFFFF⟩,  -- PRIOR_FATAL
  ⟨0x7000, 6, .u32, .ro, 1, 0, 0xFFFFFFFF⟩,  -- LOG_NEXT_SEQ
  ⟨0x7000, 7, .u32, .ro, 0, 0, 0xFFFFFFFF⟩,  -- LOG_OVERWRITTEN
  ⟨0x7001, 1, .u32, .rw, 0, 0, 0xFFFFFFFF⟩,  -- LOG_SELECT
  ⟨0x7001, 2, .u128, .ro, 0, 0, 0xFFFFFFFFFFFFFFFFFFFFFFFFFFFFFFFF⟩,  -- LOG_RECORD_HI
  ⟨0x7001, 3, .u128, .ro, 0, 0, 0xFFFFFFFFFFFFFFFFFFFFFFFFFFFFFFFF⟩,  -- LOG_RECORD_LO
  ⟨0x7001, 4, .domain, .ro, 0, 0, 0⟩,  -- LOG_DUMP
  ⟨0x7002, 1, .u8, .rw, 0, 0, 0x3F⟩,  -- FATAL_LOG_SELECT
  ⟨0x7002, 2, .u128, .ro, 0, 0, 0xFFFFFFFFFFFFFFFFFFFFFFFFFFFFFFFF⟩,  -- FATAL_RECORD_HI
  ⟨0x7002, 3, .u128, .ro, 0, 0, 0xFFFFFFFFFFFFFFFFFFFFFFFFFFFFFFFF⟩,  -- FATAL_RECORD_LO
  ⟨0x7002, 4, .bool, .wo, 0, 1, 1⟩,  -- FATAL_LOG_CLEAR
  ⟨0x7002, 5, .u32, .ro, 0, 0, 0xFFFFFFFF⟩,  -- FATAL_LOG_SPILLED
  ⟨0x7010, 1, .u32, .ro, 0, 0, 0xFFFFFFFF⟩,  -- DEADLINE_MISSES
  ⟨0x7010, 2, .u32, .ro, 0, 0, 0xFFFFFFFF⟩,  -- DEADLINE_MISSES
  ⟨0x7010, 3, .u32, .ro, 0, 0, 0xFFFFFFFF⟩,  -- DEADLINE_MISSES
  ⟨0x7010, 4, .u32, .ro, 0, 0, 0xFFFFFFFF⟩,  -- DEADLINE_MISSES
  ⟨0x7010, 5, .u32, .ro, 0, 0, 0xFFFFFFFF⟩,  -- DEADLINE_MISSES
  ⟨0x7010, 6, .u32, .ro, 0, 0, 0xFFFFFFFF⟩,  -- DEADLINE_MISSES
  ⟨0x7010, 7, .u32, .ro, 0, 0, 0xFFFFFFFF⟩,  -- DEADLINE_MISSES
  ⟨0x7010, 8, .u32, .ro, 0, 0, 0xFFFFFFFF⟩,  -- DEADLINE_MISSES
  ⟨0x7010, 9, .u32, .ro, 0, 0, 0xFFFFFFFF⟩,  -- DEADLINE_MISSES
  ⟨0x7020, 1, .u8, .rw, 0, 0, 0x7F⟩,  -- HOST_PORT_SELECT
  ⟨0x7020, 2, .u8, .rw, 0x1C, 0, 0x1F⟩,  -- HOST_CLASS_MASK
  ⟨0x7020, 3, .u16, .rw, 0, 0, 0x7FF⟩,  -- HOST_VECTOR
  ⟨0x7020, 4, .u8, .rw, 0, 0, 1⟩,  -- HOST_SCOPE
  ⟨0x7021, 1, .u128, .rws, 0, 0, 0xFFFFFFFFFFFFFFFFFFFFFFFFFFFFFFFF⟩,  -- LOG_ADMIN_PORTS
  ⟨0x7030, 1, .u8, .rw, 0x1E, 0, 0x1F⟩,  -- ALERT_MASK
  ⟨0x7030, 2, .bool, .ro, 0, 0, 1⟩,  -- ALERT_PENDING
  ⟨0x7030, 3, .u32, .wo, 0, 0, 0xFFFFFFFF⟩,  -- ALERT_ACK
  ⟨0x7031, 1, .u8, .rw, 0x1E, 0, 0x1F⟩,  -- I3C_CLASS_MASK
  ⟨0x7031, 2, .u8, .rw, 0x1E, 0, 0x1F⟩]  -- FIELDBUS_CLASS_MASK

/-- Every object of the dictionary but the subindices 0. -/
def objectTable : List ObjDef :=
  objects10 ++ objects11 ++ objects12 ++ objects1F ++ objects20 ++
  objects22 ++ objects24 ++ objects26 ++ objects30 ++ objects34 ++
  objects40 ++ objects42 ++ objects44 ++ objects46 ++ objects50 ++
  objects51 ++ objects52 ++ objects60 ++ objects70

/-- The rows of one index page. -/
def objectPage (index : Nat) : List ObjDef :=
  match index / 256 with
  | 0x10 => objects10
  | 0x11 => objects11
  | 0x12 => objects12
  | 0x1F => objects1F
  | 0x20 => objects20
  | 0x22 => objects22
  | 0x24 => objects24
  | 0x26 => objects26
  | 0x30 => objects30
  | 0x34 => objects34
  | 0x40 => objects40
  | 0x42 => objects42
  | 0x44 => objects44
  | 0x46 => objects46
  | 0x50 => objects50
  | 0x51 => objects51
  | 0x52 => objects52
  | 0x60 => objects60
  | 0x70 => objects70
  | _ => []

/-- The row of an object, none for a reserved one (R379). -/
def objDef (index sub : Nat) : Option ObjDef :=
  (objectPage index).find? fun d => d.index == index && d.sub == sub

/-- The highest subindex in use of an index, which subindex 0 reads as (R379). -/
def maxSub (index : Nat) : Nat :=
  (objectPage index).foldl (fun m d => if d.index = index then max m d.sub else m) 0

/-- Whether a subindex is held separately for each client: its name ends in SELECT (R386). -/
def isSelect (index sub : Nat) : Bool :=
  match index, sub with
  | 0x2000, 1 => true  -- CTX_SELECT
  | 0x2001, 1 => true  -- PSET_SELECT
  | 0x2010, 1 => true  -- REGION_SELECT
  | 0x2210, 1 => true  -- SLICE_SELECT
  | 0x2210, 8 => true  -- WAY_SELECT
  | 0x2211, 1 => true  -- TAG_SET_SELECT
  | 0x2410, 1 => true  -- DIR_SLICE_SELECT
  | 0x2410, 2 => true  -- DIR_SET_SELECT
  | 0x2410, 3 => true  -- DIR_WAY_SELECT
  | 0x2420, 1 => true  -- COH_PORT_SELECT
  | 0x2600, 1 => true  -- QUEUE_SELECT
  | 0x3010, 1 => true  -- CHART_SELECT
  | 0x3011, 1 => true  -- GMAP_SELECT
  | 0x3012, 1 => true  -- DMAP_SELECT
  | 0x3030, 1 => true  -- ROW_SELECT
  | 0x3410, 1 => true  -- SPAN_CHART_SELECT
  | 0x3410, 5 => true  -- CANAL_MEMBER_SELECT
  | 0x3420, 1 => true  -- PEER_SELECT
  | 0x4010, 1 => true  -- PREG_SELECT
  | 0x4020, 1 => true  -- KEY_SELECT
  | 0x4210, 1 => true  -- BUCKET_SELECT
  | 0x4211, 1 => true  -- BCLASS_SELECT
  | 0x7001, 1 => true  -- LOG_SELECT
  | 0x7002, 1 => true  -- FATAL_LOG_SELECT
  | 0x7020, 1 => true  -- HOST_PORT_SELECT
  | 0x4410, 1 => true  -- REG_CTX_SELECT
  | 0x4600, 1 => true  -- ECTR_SELECT
  | 0x4610, 1 => true  -- PCTR_SELECT
  | 0x4621, 1 => true  -- DUMP_SELECT
  | 0x1202, 1 => true  -- PEER_VIEW_SELECT
  | 0x1203, 1 => true  -- ACTIVE_SELECT
  | 0x5000, 1 => true  -- QUAD_SELECT
  | 0x5001, 1 => true  -- PORT_SELECT
  | 0x5101, 1 => true  -- TARGET_SELECT
  | 0x5200, 1 => true  -- LINK_SELECT
  | 0x1F10, 1 => true  -- RESULT_SELECT
  | _, _ => false

/-! ### Abort codes (R395) -/

def abortFrame : Nat := 1
def abortNoObject : Nat := 2
def abortNotWritable : Nat := 3
def abortNotReadable : Nat := 4
def abortWrongState : Nat := 5
def abortInvalidValue : Nat := 6
def abortLength : Nat := 7
def abortAccessDenied : Nat := 8
def abortHardwareError : Nat := 9
def abortSegmented : Nat := 10
def abortTransfer : Nat := 11
def abortNoResource : Nat := 12
def abortSeqReused : Nat := 13

end Sys2Proof.Machine
end

