-- ==== Sys2Proof/Machine/Ops.lean ====
section
/-! DEFINITION. The operations that every family shares: tables and byte memory in canonical form, fields of words, registers of the dictionary, numbers drawn by the machine, what leaves the device, and the frame of a command's meaning. -/

namespace Sys2Proof.Machine

/-! ### Tables -/

/-- The value at a key, `d` where none is listed. -/
def Table.get {α : Type} (d : α) : Table α → Nat → α
  | [], _ => d
  | (k, v) :: t, n => if k = n then v else Table.get d t n

/-- Put a value at a key; the default is not listed. -/
def Table.set {α : Type} [DecidableEq α] (d : α) : Table α → Nat → α → Table α
  | [], n, v => if v = d then [] else [(n, v)]
  | (k, w) :: t, n, v =>
    if n < k then (if v = d then (k, w) :: t else (n, v) :: (k, w) :: t)
    else if n = k then (if v = d then t else (n, v) :: t)
    else (k, w) :: Table.set d t n v

/-- Change the value at a key. -/
def Table.modify {α : Type} [DecidableEq α] (d : α) (t : Table α) (n : Nat) (f : α → α) : Table α :=
  Table.set d t n (f (Table.get d t n))

/-- Change every listed value. -/
def Table.mapVals {α : Type} [DecidableEq α] (d : α) (f : α → α) (t : Table α) : Table α :=
  (t.map fun p => (p.1, f p.2)).filter fun p => decide (p.2 ≠ d)

/-- Whether keys rise strictly above a bound and no listed value is the default. -/
def Table.above {α : Type} [DecidableEq α] (d : α) : Nat → Table α → Bool
  | _, [] => true
  | b, (k, v) :: t => decide (b ≤ k) && decide (v ≠ d) && Table.above d (k + 1) t

/-- The canonical form. -/
def Table.wf {α : Type} [DecidableEq α] (d : α) (t : Table α) : Bool := Table.above d 0 t

/-! ### Byte memory: Chamber RAM -/

/-- One byte; a byte that nothing wrote reads as the initialisation fill left it, 0 (R416). -/
def memByte (m : List Host.Cell) (a : Nat) : Byte := Table.get 0 m a

/-- Write one byte, keeping the canonical form. -/
def memSet (m : List Host.Cell) (a : Nat) (b : Byte) : List Host.Cell := Table.set 0 m a b

/-- The canonical form of a memory. -/
def Memory.wf (m : List Host.Cell) : Bool := Table.wf 0 m

/-- A memory in its canonical form: as it stands when it has it already. -/
def Memory.canon (m : List Host.Cell) : List Host.Cell :=
  if Memory.wf m then m else m.foldr (fun c n => memSet n c.1 c.2) []

/-- `n` bytes from an address up. -/
def memRead (m : List Host.Cell) (a : Nat) : Nat → List Byte
  | 0 => []
  | n + 1 => memByte m a :: memRead m (a + 1) n

/-- Write bytes from an address up. -/
def memWrite (m : List Host.Cell) (a : Nat) : List Byte → List Host.Cell
  | [] => m
  | b :: bs => memWrite (memSet m a b) (a + 1) bs

/-! ### Bytes and fields -/

/-- The field of `width` bits at bit `lo` of a number. -/
def bits (v lo width : Nat) : Nat := (v >>> lo) % 2 ^ width

/-- The field of `width` bits at bit `lo` of a word. -/
def fld {n : Nat} (w : BitVec n) (lo width : Nat) : Nat := bits w.toNat lo width

/-- A word with the field of `width` bits at bit `lo` replaced. -/
def setFld {n : Nat} (w : BitVec n) (lo width v : Nat) : BitVec n :=
  (w &&& ~~~(BitVec.ofNat n ((2 ^ width - 1) <<< lo))) ||| BitVec.ofNat n ((v % 2 ^ width) <<< lo)

/-- A number as `n` bytes, least significant first (R380). -/
def leBytes (v : Nat) : Nat → List Byte
  | 0 => []
  | n + 1 => BitVec.ofNat 8 v :: leBytes (v / 256) n

/-- The bytes of a number in a field of `n` bytes; a number that the field cannot hold takes as many as it needs, so that the length is refused (R383, R403). -/
def fieldBytes (v n : Nat) : List Byte := leBytes v (if v < 256 ^ n then n else Nat.log2 v / 8 + 1)

/-- The number that bytes spell, least significant first (R380). -/
def ofLe : List Byte → Nat
  | [] => 0
  | b :: bs => b.toNat + 256 * ofLe bs

/-- A number as `n` bytes, most significant first. -/
def beBytes (v n : Nat) : List Byte := (leBytes v n).reverse

/-- The number that bytes spell, most significant first. -/
def ofBe (bs : List Byte) : Nat := ofLe bs.reverse

/-- One bit of a number. -/
def bit (b : Bool) : Nat := if b then 1 else 0

/-! ### Lists of records -/

/-- Change the records that satisfy a test. -/
def mapIf {α : Type} (p : α → Bool) (f : α → α) (l : List α) : List α :=
  l.map fun x => if p x then f x else x

/-- Saturating count of an UNSIGNED32 (the object tables' 'Count, saturating'). -/
def sat32 (n : Nat) : Nat := min n 0xFFFFFFFF

/-! ### Registers of the dictionary -/

/-- The class of a leaky bucket register's default threshold (Table: Leaky buckets). -/
def bucketThresholdDefault (cls : Nat) : Nat :=
  match cls with
  | 0 | 1 | 2 | 5 | 8 => 32
  | 6 | 7 => 4
  | 9 | 13 => 8
  | _ => 16

/-- The default UE weight of a bucket class; 0 for the parity classes (Table: Leaky buckets). -/
def bucketWeightDefault (cls : Nat) : Nat :=
  match cls with
  | 1 | 3 | 4 | 11 => 0
  | 6 | 7 | 9 => 4
  | _ => 8

/-- The default of a register (R382); the bucket classes have their own (R302). -/
def regDefault (index sub item : Nat) : Nat :=
  if index = 0x4211 && sub = 2 then bucketThresholdDefault item
  else if index = 0x4211 && sub = 4 then bucketWeightDefault item
  else match objDef index sub with
    | some d => d.dflt
    | none => 0

def regKey (index sub item : Nat) : Nat := (index * 256 + sub) * 65536 + item

/-- A list of devices in rising order without repeats. -/
def sortDevices (l : List Nat) : List Nat := (List.range 1024).filter l.contains

namespace State

/-- The value of a register of the dictionary, for one item of its table. -/
def regAt (s : State) (index sub item : Nat) : Nat :=
  Table.get (regDefault index sub item) s.regs (regKey index sub item)

/-- The value of a register that stands alone. -/
def reg (s : State) (index sub : Nat) : Nat := s.regAt index sub 0

def setRegAt (s : State) (index sub item v : Nat) : State :=
  { s with regs := Table.set (regDefault index sub item) s.regs (regKey index sub item) v }

def setReg (s : State) (index sub v : Nat) : State := s.setRegAt index sub 0 v

/-- Count in a register that saturates at 32 bits. -/
def bump32 (s : State) (index sub : Nat) (by_ : Nat := 1) : State :=
  s.setReg index sub (sat32 (s.reg index sub + by_))

/-- Count in a 64-bit register. -/
def bump64 (s : State) (index sub : Nat) : State :=
  s.setReg index sub ((s.reg index sub + 1) % 2 ^ 64)

/-- A deadline of R293 is missed: object 7010 counts it. -/
def deadlineMiss (s : State) (n : Nat) : State := s.bump32 0x7010 n

/-- Add to an event counter (R316); one whose parity is bad restarts from 0 first (R318). -/
def countBy (s : State) (n by_ : Nat) : State :=
  if s.counter.badParity.contains n then
    { s with counter := { s.counter with
        counters := Table.set 0 s.counter.counters n (BitVec.ofNat 64 by_)
        badParity := s.counter.badParity.filter (· != n)
        restarted := s.counter.restarted ++ [n] } }
  else
    { s with counter := { s.counter with
        counters := Table.modify 0 s.counter.counters n (· + BitVec.ofNat 64 by_) } }

/-- Count one event (R316). -/
def count (s : State) (n : Nat) : State := s.countBy n 1

/-- The number by which bad parity names a per-context counter: 0 TXNS, 1 OCC (R318). -/
def ctxCounterNo (c which : Nat) : Nat := 2048 + 2 * c + which

/-- Add to one of a context's two counters (R319); one whose parity is bad restarts from 0 first (R318). -/
def countCtx (s : State) (c which by_ : Nat) : State :=
  let n := ctxCounterNo c which
  let bad := s.counter.badParity.contains n
  let put (old : BitVec 64) : BitVec 64 := (if bad then 0 else old) + BitVec.ofNat 64 by_
  { s with
    tenant := { s.tenant with acct := Table.modify {} s.tenant.acct c fun a =>
      if which = 0 then { a with txns := put a.txns } else { a with occ := put a.occ } }
    counter := if bad then { s.counter with
        badParity := s.counter.badParity.filter (· != n)
        restarted := s.counter.restarted ++ [n] } else s.counter }

/-- A fresh number for a transaction, pool access, buffer entry or search. -/
def fresh (s : State) : Nat × State := (s.nextId, { s with nextId := s.nextId + 1 })

/-- A free value: nothing constrains it, and the next one differs in its argument. -/
def drawFree (s : State) : BitVec 64 × State := (Config.freeValue s.free, { s with free := s.free + 1 })

/-- Something leaves the device. -/
def emit (s : State) (o : Out) : State := { s with out := s.out ++ [o] }

/-- The slice with a number. -/
def slice (s : State) (k : Nat) : Slice := Table.get {} s.slices k

def modSlice (s : State) (k : Nat) (f : Slice → Slice) : State :=
  { s with slices := Table.modify {} s.slices k f }

/-- The queue pair with a number. -/
def queueAt (s : State) (q : Nat) : Queue := Table.get {} s.queue.queues q

def modQueue (s : State) (q : Nat) (f : Queue → Queue) : State :=
  { s with queue := { s.queue with queues := Table.modify {} s.queue.queues q f } }

/-- A queue loses a WRITE or atomic store, or a bulk sector (R161). -/
def loseStore (s : State) (q : Nat) (bulk : Bool) : State :=
  s.modQueue q fun x =>
    if bulk then { x with lostSectors := min (x.lostSectors + 1) (2 ^ 32 - 1) } else { x with lostStores := min (x.lostStores + 1) (2 ^ 32 - 1) }

def region (s : State) (r : Nat) : Region := Table.get {} s.tenant.regions r

def modRegion (s : State) (r : Nat) (f : Region → Region) : State :=
  { s with tenant := { s.tenant with regions := Table.modify {} s.tenant.regions r f } }

def acct (s : State) (c : Nat) : CtxAccount := Table.get {} s.tenant.acct c

def modAcct (s : State) (c : Nat) (f : CtxAccount → CtxAccount) : State :=
  { s with tenant := { s.tenant with acct := Table.modify {} s.tenant.acct c f } }

def port (s : State) (p : Nat) : Port := Table.get {} s.link.ports p

def modPort (s : State) (p : Nat) (f : Port → Port) : State :=
  { s with link := { s.link with ports := Table.modify {} s.link.ports p f } }

def linkAt (s : State) (l : Nat) : Link := Table.get {} s.link.links l

def modLink (s : State) (l : Nat) (f : Link → Link) : State :=
  { s with link := { s.link with links := Table.modify {} s.link.links l f } }

def chart (s : State) (c : Nat) : Chart := Table.get {} s.search.charts c

def modChart (s : State) (c : Nat) (f : Chart → Chart) : State :=
  { s with search := { s.search with charts := Table.modify {} s.search.charts c f } }

def protRegion (s : State) (r : Nat) : ProtRegion := Table.get {} s.prot.regions r

def modProtRegion (s : State) (r : Nat) (f : ProtRegion → ProtRegion) : State :=
  { s with prot := { s.prot with regions := Table.modify {} s.prot.regions r f } }

def keySlot (s : State) (k : Nat) : KeySlot := Table.get {} s.prot.slots k

def modKeySlot (s : State) (k : Nat) (f : KeySlot → KeySlot) : State :=
  { s with prot := { s.prot with slots := Table.modify {} s.prot.slots k f } }

/-- This device's number: STRAP_DEVID (R409), flight in [9:5] and position in [4:0]. -/
def deviceNumber (s : State) : Nat := strapField s.power.straps 0 10

/-- This device's position in its flight. -/
def position (s : State) : Nat := s.deviceNumber % 32

/-- The device's flight. -/
def flight (s : State) : Nat := s.deviceNumber / 32

/-- FLIGHT_SIZE (R345). -/
def flightSize (s : State) : Nat := strapFlightSize (strapField s.power.straps 25 3)

/-- The device serves memory no more: it has logged a DEVICE-FATAL event (R298), or has halted after a power failure, which it answers in the same way (R429). -/
def isFatal (s : State) : Bool := s.power.device == .fatal || s.power.device == .pfHalted

/-- An rws setting as it is in effect: what is written in the start-up window is applied when the window closes (R420). -/
def inEffect (s : State) (index sub : Nat) : Nat := if s.power.windowOpen then regDefault index sub 0 else s.reg index sub

/-- TEST_MODE as it is in effect (R421). -/
def testMode (s : State) : Nat := s.inEffect 0x6002 1

/-- DEFAULT_PROTECT as it is in effect; its default is STRAP_SECURE (R50). -/
def defaultProtect (s : State) : Nat := if s.power.windowOpen then bit (s.power.straps.getLsbD 22) else s.reg 0x2011 4

end State

end Sys2Proof.Machine
end

