-- ==== Sys2Proof/Machine/Operands.lean ====
section
/-! DEFINITION. The layouts of the words that commands carry and objects hold: the field maps of the manual, as accessors. -/

namespace Sys2Proof.Machine

/-! ### Addresses (R16, R17) -/

/-- The stitch marker of a host physical address. -/
def hpaMarker (hpa : Nat) : Nat := bits hpa 46 6

/-- The window offset of a host physical address. -/
def hpaOffset (hpa : Nat) : Nat := bits hpa 0 46

/-- The range bits of a host physical address. -/
def hpaRange (hpa : Nat) : Nat := hpa >>> 52

/-- The sector that holds a byte address: the address with bits [5:0] clear. -/
def sectorOf (a : Nat) : Nat := a / 64 * 64

/-- The sector number in its block, DPA[9:6]. -/
def sectorInBlock (dpa : Nat) : Nat := bits dpa 6 4

/-- The block number, DPA[44:10]. -/
def blockOf (dpa : Nat) : Nat := dpa >>> 10

/-- DPA[44]: moored memory (R17). -/
def isMoored (dpa : Nat) : Bool := dpa.testBit 44

/-! ### Context entry (Table: Context entry) -/

def ctxValid (w : Word128) : Bool := w.getLsbD 127
def ctxFrozen (w : Word128) : Bool := w.getLsbD 126
def ctxPriority (w : Word128) : Nat := fld w 123 3
def ctxGuarantee (w : Word128) : Nat := fld w 108 15
def ctxBudget (w : Word128) : Nat := fld w 92 16
def ctxLatBound (w : Word128) : Nat := fld w 76 16
def ctxCtrRead (w : Word128) : Bool := w.getLsbD 75
def ctxChartSet (w : Word128) : Nat := fld w 67 8
def ctxPerm (w : Word128) : Nat := fld w 64 3
def ctxBoundPort (w : Word128) : Nat := fld w 57 7
def ctxBoundMarker (w : Word128) : Nat := fld w 51 6

/-- A context word as the table holds it: reserved bits read 0, and a host context's bound port and marker read as its own (R33). -/
def ctxNormal (c : Nat) (w : Word128) : Word128 :=
  let w := setFld w 0 51 0
  if c < 8192 then setFld (setFld w 57 7 (c / 64)) 51 6 (c % 64) else w

/-- The port of a context: its own for a host context, BOUND_PORT for an agent context (R32). -/
def ctxPort (c : Nat) (w : Word128) : Nat := if c < 8192 then c / 64 else ctxBoundPort w

/-! ### Region descriptor (Table: Region descriptor) -/

def rdValid (w1 : Word128) : Bool := w1.getLsbD 127
def rdFrozen (w1 : Word128) : Bool := w1.getLsbD 126
def rdKind (w1 : Word128) : Nat := fld w1 124 2
def rdGran (w1 : Word128) : Nat := fld w1 122 2
def rdPolicy (w1 : Word128) : Nat := fld w1 120 2
def rdPerm (w1 : Word128) : Nat := fld w1 117 3
def rdSvc (w1 : Word128) : Nat := fld w1 114 3
def rdProtect (w1 : Word128) : Bool := w1.getLsbD 113
def rdTargetDev (w1 : Word128) : Nat := fld w1 103 10
def rdKeyDomain (w1 : Word128) : Nat := fld w1 91 12
def rdRoot (w1 : Word128) : Nat := fld w1 79 12
def rdTenant (w1 : Word128) : Nat := fld w1 63 16
def rdPortValue (w1 : Word128) : Nat := fld w1 56 7
def rdPortMask (w1 : Word128) : Nat := fld w1 49 7
def rdMarkerValue (w1 : Word128) : Nat := fld w1 43 6
def rdMarkerMask (w1 : Word128) : Nat := fld w1 37 6
def rdReserved1 (w1 : Word128) : Nat := fld w1 0 37
def rdOffsetBase (w0 : Word128) : Nat := fld w0 103 25
def rdUnits (w0 : Word128) : Nat := fld w0 78 25 + 1
def rdDpaBase (w0 : Word128) : Nat := fld w0 54 24
def rdReserved0 (w0 : Word128) : Nat := fld w0 0 54

/-- The granule of a GRAN code in 2 MiB units (R36). -/
def granUnits (g : Nat) : Nat := 2 ^ (5 * g)

/-! ### System chart (R41) -/

/-- The system-chart key. -/
def sysKey (port marker unit : Nat) : Nat := port * 2 ^ 121 + marker * 2 ^ 115 + unit * 2 ^ 90

/-- The datum that every row of a region carries. -/
def sysDatum (r : Nat) (w1 w0 : Word128) : BitVec 64 :=
  BitVec.ofNat 64 (r * 2 ^ 49 +
    ((rdDpaBase w0 + 2 ^ 25 - rdOffsetBase w0) % 2 ^ 25) * 2 ^ 24 +
    rdGran w1 * 2 ^ 22 + rdKind w1 * 2 ^ 20 + rdPerm w1 * 2 ^ 17 + rdPolicy w1 * 2 ^ 15 +
    rdSvc w1 * 2 ^ 12 + bit (rdFrozen w1) * 2 ^ 11 + rdTargetDev w1 * 2)

def sdRegion (d : BitVec 64) : Nat := fld d 49 15
def sdDelta (d : BitVec 64) : Nat := fld d 24 25
def sdGran (d : BitVec 64) : Nat := fld d 22 2
def sdKind (d : BitVec 64) : Nat := fld d 20 2
def sdPerm (d : BitVec 64) : Nat := fld d 17 3
def sdPolicy (d : BitVec 64) : Nat := fld d 15 2
def sdSvc (d : BitVec 64) : Nat := fld d 12 3
def sdFrozen (d : BitVec 64) : Bool := d.getLsbD 11
def sdTargetDev (d : BitVec 64) : Nat := fld d 1 10

/-! ### Result record (R195) -/

def rrDatum (r : BitVec 128) : BitVec 64 := BitVec.ofNat 64 (fld r 64 64)
def rrPriority (r : BitVec 128) : Nat := fld r 44 20
def rrIndex (r : BitVec 128) : Nat := fld r 23 21
def rrSource (r : BitVec 128) : Nat := fld r 13 10
def rrMatches (r : BitVec 128) : Nat := fld r 3 10
def rrError (r : BitVec 128) : Bool := r.getLsbD 2
def rrIncomplete (r : BitVec 128) : Bool := r.getLsbD 1
def rrMatch (r : BitVec 128) : Bool := r.getLsbD 0

/-- A result record from its fields (Table: Result record). -/
def mkResult (datum : BitVec 64) (priority index source matches_ : Nat) (error incomplete found : Bool) : BitVec 128 :=
  BitVec.ofNat 128 (datum.toNat * 2 ^ 64 + priority % 2 ^ 20 * 2 ^ 44 + index % 2 ^ 21 * 2 ^ 23 +
    source % 1024 * 2 ^ 13 + min matches_ 1023 * 8 + bit error * 4 + bit incomplete * 2 + bit found)

/-! ### Dump ring configuration (Table: Dump ring configuration word) -/

def drHost (w : Word128) : Bool := w.getLsbD 127
def drOverwrite (w : Word128) : Bool := w.getLsbD 126
def drReaderValid (w : Word128) : Bool := w.getLsbD 125
def drIntr (w : Word128) : Bool := w.getLsbD 124
def drSizeLog2 (w : Word128) : Nat := fld w 119 5
def drPort (w : Word128) : Nat := fld w 112 7
def drReaderCtx (w : Word128) : Nat := fld w 98 14
def drMultiple (w : Word128) : Nat := fld w 78 20
def drCtrFirst (w : Word128) : Nat := fld w 67 11
def drCtrCount (w : Word128) : Nat := fld w 55 12
def drCtxFirst (w : Word128) : Nat := fld w 41 14
def drCtxCount (w : Word128) : Nat := fld w 26 15
def drVector (w : Word128) : Nat := fld w 15 11

/-- The length of a record in bytes (R321). -/
def drRecordBytes (w : Word128) : Nat := (64 + 8 * drCtrCount w + 16 * drCtxCount w + 63) / 64 * 64

/-! ### Port configuration and pool targets (R332, R341) -/

def pcEnable (w : BitVec 32) : Bool := w.getLsbD 31
def pcWidth (w : BitVec 32) : Nat := fld w 29 2
def pcFirstQuad (w : BitVec 32) : Nat := fld w 22 7
def pcMaxSpeed (w : BitVec 32) : Nat := fld w 20 2
def pcLopt (w : BitVec 32) : Bool := w.getLsbD 19
def pcIdeRequired (w : BitVec 32) : Bool := w.getLsbD 18

/-- The quads of a width code (R332). -/
def pcQuads (w : BitVec 32) : Nat := 2 ^ pcWidth w

def ptValid (w : Word128) : Bool := w.getLsbD 127
def ptPort (w : Word128) : Nat := fld w 120 7
def ptReserved (w : Word128) : Bool := fld w 116 4 ≠ 0 || fld w 0 32 ≠ 0

/-- The first pool address of a target's range. -/
def ptPoolBase (w : Word128) : Nat := fld w 80 36 * 2 ^ 28
def ptPoolSize (w : Word128) : Nat := (fld w 64 16 + 1) * 2 ^ 28

/-- The first DPA of a target's window. -/
def ptDpaBase (w : Word128) : Nat := fld w 48 16 * 2 ^ 28
def ptDpaSize (w : Word128) : Nat := (fld w 32 16 + 1) * 2 ^ 28

/-! ### Protected region descriptor (R226) -/

def pdValid (w1 : Word128) : Bool := w1.getLsbD 127
def pdTarget (w1 : Word128) : Nat := fld w1 119 8
def pdKeySlot (w1 : Word128) : Nat := fld w1 107 12
def pdNewSlot (w1 : Word128) : Nat := fld w1 95 12

/-- DPA of the first byte. -/
def pdBase (w1 : Word128) : Nat := fld w1 71 24 * 2 ^ 21

/-- Size in bytes. -/
def pdSize (w1 : Word128) : Nat := (fld w1 47 24 + 1) * 2 ^ 21

/-- Pool address of the metadata area. -/
def pdMeta (w0 : Word128) : Nat := fld w0 76 52 * 4096
def pdReserved (w1 w0 : Word128) : Bool := fld w1 0 47 ≠ 0 || fld w0 0 76 ≠ 0

/-! ### Frames and commands (R391, R402) -/

def fhVersion (h : Word128) : Nat := fld h 124 4
def fhKind (h : Word128) : Nat := fld h 120 4
def fhFlags (h : Word128) : Nat := fld h 112 8
def fhClient (h : Word128) : Nat := fld h 96 16
def fhSeq (h : Word128) : Nat := fld h 80 16
def fhIndex (h : Word128) : Nat := fld h 64 16
def fhSub (h : Word128) : Nat := fld h 56 8
def fhLen (h : Word128) : Nat := fld h 40 16
def fhArg (h : Word128) : Nat := fld h 8 32
def fhReserved (h : Word128) : Nat := fld h 0 8

/-- A frame header of version 1. -/
def frameHeader (kind flags client seq index sub len arg : Nat) : Word128 :=
  BitVec.ofNat 128 (2 ^ 124 + kind % 16 * 2 ^ 120 + flags % 256 * 2 ^ 112 + client % 65536 * 2 ^ 96 +
    seq % 65536 * 2 ^ 80 + index % 65536 * 2 ^ 64 + sub % 256 * 2 ^ 56 + len % 65536 * 2 ^ 40 +
    arg % 2 ^ 32 * 2 ^ 8)

def chOpcode (h : Nat) : Nat := bits h 112 16
def chFlags (h : Nat) : Nat := bits h 104 8
def chPlen (h : Nat) : Nat := bits h 80 16
def chCtag (h : Nat) : Nat := bits h 32 32

/-- The reserved fields of a command record header, which must be 0. -/
def chReserved (h : Nat) : Bool := bits h 96 8 ≠ 0 || bits h 64 16 ≠ 0 || bits h 0 32 ≠ 0

/-- A command record as its client writes it (R402). -/
def cmdRecord (opcode ctag : Nat) (notify : Bool) (params : List Byte) : List Byte :=
  leBytes (opcode * 2 ^ 112 + bit notify * 2 ^ 104 + params.length * 2 ^ 80 + ctag * 2 ^ 32) 16 ++ params

/-! ### Log records (R294) -/

/-- The CLASS code of a fault class. -/
def FaultClass.code : FaultClass → Nat
  | .note => 0
  | .degraded => 1
  | .contained => 2
  | .regionFatal => 3
  | .deviceFatal => 4

def Source.code : Source → Nat
  | .access => 0
  | .scrub => 1
  | .sweep => 2
  | .selfTest => 3
  | .injected => 4
  | .firmware => 5
  | .peer => 6

/-- DKIND and DETAIL (Table: DETAIL layouts). -/
def Detail.encode : Detail → Nat × Nat
  | .none => (0, 0)
  | .memory dpa ctx region root syn word =>
    (1, dpa % 2 ^ 45 * 2 ^ 55 + ctx % 2 ^ 14 * 2 ^ 41 + region % 2 ^ 15 * 2 ^ 26 + root % 2 ^ 12 * 2 ^ 14 +
      syn % 2 ^ 9 * 2 ^ 5 + word % 4 * 2 ^ 3)
  | .host hpa ctx aux => (2, hpa % 2 ^ 64 * 2 ^ 36 + ctx % 2 ^ 14 * 2 ^ 22 + aux % 2 ^ 16 * 2 ^ 6)
  | .location b i syn aux =>
    (3, b % 2 ^ 9 * 2 ^ 91 + i % 2 ^ 27 * 2 ^ 64 + syn % 2 ^ 9 * 2 ^ 55 + aux % 2 ^ 55)
  | .peer p c r e aux =>
    (4, p % 2 ^ 10 * 2 ^ 90 + c % 256 * 2 ^ 82 + r % 8 * 2 ^ 79 + e % 2 ^ 32 * 2 ^ 47 + aux % 2 ^ 47)
  | .count n aux => (5, n % 2 ^ 32 * 2 ^ 68 + aux % 2 ^ 68)

/-- A log record as the 256 bits that an object read gives (Table: Log record). -/
def LogRecord.encode (r : LogRecord) : Nat :=
  r.time % 2 ^ 64 * 2 ^ 192 + r.seq % 2 ^ 32 * 2 ^ 160 + r.event % 2 ^ 16 * 2 ^ 144 + r.cls.code * 2 ^ 141 +
    r.source.code * 2 ^ 138 + bit r.untrusted * 2 ^ 137 + bit r.port.isSome * 2 ^ 136 +
    r.port.getD 0 % 128 * 2 ^ 129 + r.device % 1024 * 2 ^ 119 + r.count % 65536 * 2 ^ 103 +
    r.detail.encode.1 * 2 ^ 100 + r.detail.encode.2

/-! ### The (138,128) code (R273, R274) -/

/-- The codeword position of data bit `j`: 3, then 5 to 7, 9 to 15, and so on past the powers of two. -/
def eccPos (j : Nat) : Nat :=
  if j < 1 then 3 else if j < 4 then j + 4 else if j < 11 then j + 5 else if j < 26 then j + 6
  else if j < 57 then j + 7 else if j < 120 then j + 8 else j + 9

/-- The positions of the flipped bits of a codeword. -/
def flippedPos (e : BitVec 138) : List Nat := (List.range 138).filter fun i => e.getLsbD i

/-- The syndrome s[7:0] of a codeword with the given bits flipped: the exclusive-or of the positions. -/
def eccSyndrome (e : BitVec 138) : Nat := (flippedPos e).foldl Nat.xor 0

/-- The overall parity p. -/
def eccParity (e : BitVec 138) : Nat := (flippedPos e).length % 2

/-- What the checker says of a word (Table: Syndrome decoding). -/
inductive Ecc where
  | clean
  | correctable (s : Nat)
  | uncorrectable (s p : Nat)
  deriving DecidableEq, Repr

/-- The checker's verdict on a word whose stored codeword differs from a correct one in the bits of `e`. -/
def eccCheck (e : BitVec 138) : Ecc :=
  let s := eccSyndrome e
  if eccParity e = 0 then (if s = 0 then .clean else .uncorrectable s 0)
  else if s < 138 then .correctable s else .uncorrectable s 1

/-- What a correctable word is delivered with: the bits that the checker leaves flipped (0 when it corrected the one that was). -/
def eccResidue (e : BitVec 138) : BitVec 138 :=
  match eccCheck e with
  | .correctable s => e ^^^ BitVec.ofNat 138 (2 ^ s)
  | _ => e

/-- The SYNDROME field of a record: s in [8:1] and p in [0]. -/
def syndromeField : Ecc → Nat
  | .clean => 0
  | .correctable s => s * 2 + 1
  | .uncorrectable s p => s * 2 + p

/-- The data bits that a set of flipped codeword bits changes. -/
def eccDataFlips (e : BitVec 138) : Word128 :=
  BitVec.ofNat 128 ((List.range 128).foldl (fun n j => if e.getLsbD (eccPos j) then n + 2 ^ j else n) 0)

/-- Bytes with the flips of a data word in the bytes from `lo` up. -/
def flipBytes (b : List Byte) (lo : Nat) (f : Word128) : List Byte :=
  b.mapIdx fun i x => if decide (lo ≤ i) && decide (i < lo + 16) then x ^^^ BitVec.ofNat 8 (fld f (8 * (i - lo)) 8) else x

/-- A sector with word `w` as its checker delivers it, when its codeword differs from a correct one in the bits of `e`: corrected, left with the bits that a wrong correction flips, or with P = 1 (R274, R275). -/
def SectorData.through (d : SectorData) (w : Nat) (e : BitVec 138) : SectorData :=
  let r := eccResidue e
  let p : BitVec 4 := BitVec.ofNat 4 (2 ^ w)
  let kept := if r.getLsbD 137 then d.poison ^^^ p else d.poison
  { data := d.data ^^^ BitVec.ofNat 512 ((eccDataFlips r).toNat <<< (128 * w))
    poison := match eccCheck e with
      | .uncorrectable _ _ => d.poison ||| p
      | _ => kept }

/-! ### CRC-32C (R349, R213): the Castagnoli polynomial, reflected, preset and inverted -/

/-- One bit of CRC-32C. -/
def crcBit (c : Nat) : Nat := if c % 2 = 1 then Nat.xor (c / 2) 0x82F63B78 else c / 2

/-- Eight bits of CRC-32C. -/
def crcByte (c : Nat) (b : Byte) : Nat :=
  crcBit (crcBit (crcBit (crcBit (crcBit (crcBit (crcBit (crcBit (Nat.xor c b.toNat))))))))

/-- CRC-32C of a byte string. -/
def crc32c (bs : List Byte) : Nat := Nat.xor (bs.foldl crcByte 0xFFFFFFFF) 0xFFFFFFFF

end Sys2Proof.Machine
end

