-- ==== Sys2Proof/Machine/Flags.lean ====
section
/-! DEFINITION. What every family reports through: responses with DevLoad, results of commands, the event log with its folding, pins and notifications, the leaky buckets, and the words that carry errors (R273 to R303, R335, R404). -/

namespace Sys2Proof.Machine
namespace State

/-! ### Responses to a host (R335) -/

/-- The shared pool: 32,768 less the reserves of VALID contexts (R307). -/
def reserved (s : State) : Nat :=
  s.tenant.ctx.foldl (fun n p => if ctxValid p.2 then n + ctxGuarantee p.2 else n) 0

def sharedPool (s : State) : Nat := 32768 - s.reserved

def ctxWord (s : State) (c : Nat) : Word128 := Table.get (ctxNormal c 0) s.tenant.ctx c

/-- DevLoad of a response to a context: 0 Light, 1 Optimal, 2 Moderate, 3 Severe (R335). -/
def devLoad (s : State) (c : Nat) : Nat :=
  let used := s.tenant.slotsShared
  let pool := s.sharedPool
  let base := if used * 100 < pool * 50 then 0 else if used * 100 < pool * 75 then 1
    else if used * 100 < pool * 90 then 2 else 3
  if ctxBudget (s.ctxWord c) ≤ (s.acct c).held then max base 2 else base

/-- Whether a port's responses are discarded: it takes a reset, or is not UP (R338). -/
def portSilent (s : State) (p : Nat) : Bool := (s.port p).st == .resetting

/-- An S2M response on a host port. -/
def sendS2m (s : State) (port tag ctx : Nat) (data : Option Sector) (poison : Bool) (ndr : Option Ndr) : State :=
  if s.portSilent port then s
  else s.emit (.s2m port tag data poison false ndr (s.devLoad ctx))

/-! ### Results of commands (R404) -/

/-- A stored result; the latest 1,024 tickets are kept. -/
def storeResult (s : State) (r : CmdResult) : State :=
  let rs := s.mgmt.results ++ [r]
  { s with mgmt := { s.mgmt with results := rs.drop (rs.length - 1024) } }

/-- The CMD_DONE frame of a field-bus submission with NOTIFY, on each bus on which it arrived. -/
def sendCmdDone (s : State) (c : Cmd) (code : Nat) : State :=
  let h := frameHeader 6 0 c.client.number 0 0 0 4 c.ticket
  let d := leBytes (code + c.opcode * 65536) 4
  let s := if c.notify && c.buses.getLsbD 0 then s.emit (.frame .fieldBusA h d) else s
  if c.notify && c.buses.getLsbD 1 then s.emit (.frame .fieldBusB h d) else s

/-- End a command with a result code and block. -/
def endCmd (s : State) (ticket code : Nat) (data : List Byte := []) : State :=
  match s.mgmt.cmds.find? (·.ticket = ticket) with
  | none => s
  | some c =>
    let s := { s with mgmt := { s.mgmt with cmds := s.mgmt.cmds.filter (·.ticket ≠ ticket) } }
    let s := s.storeResult {
      ticket := c.ticket, client := c.client, opcode := c.opcode, ctag := c.ctag, code := code
      acceptedCanal := if c.running then c.acceptedCanal else s.canalTime
      micros := if c.running then (s.now - c.accepted) / 1000 else 0
      data := data, notified := c.notify && c.buses != 0 }
    s.sendCmdDone c code

/-- End every command queued or running with one code (R407). -/
def endAllCmds (s : State) (code : Nat) : State :=
  s.mgmt.cmds.foldl (fun s c => s.endCmd c.ticket code) s

/-! ### The device stops serving (R298) -/

end State

/-- Whether a request class writes (R105). -/
def ReqClass.isWrite : ReqClass → Bool
  | .wrNc | .wbI | .wbS | .wbE => true
  | _ => false

/-- Whether a request class is answered with data (R105). -/
def ReqClass.isRead : ReqClass → Bool
  | .rdS | .rdAny | .rdOwn | .rdNc => true
  | _ => false

namespace State

/-- The answer of a stopped device to an outstanding or later request of a host: a read gets poisoned data, anything else completes (R298). -/
def answerStopped (s : State) (r : Req) : State :=
  if r.answered then s
  else match r.origin with
    | .host p _ t =>
      if r.cls.isRead then s.sendS2m p t r.ctx (some (Config.poisonData (sectorOf r.dpa))) true (some .cmp)
      else s.sendS2m p t r.ctx none false (some .cmp)
    | .io p _ t => if r.cls.isRead then s.emit (.ioData p t (Config.poisonData (sectorOf r.dpa)) true) else s
    | _ => s

/-- Every request of a host that the device holds: each stays listed until its answer releases it. -/
def outstanding (s : State) : List Req := s.tenant.txns.map (·.req)

/-- The devices at the far ends of links that work: flight members and reach neighbours. -/
def neighbours (s : State) : List Nat :=
  sortDevices (((List.range 128).filter fun l => (s.linkAt l).st == .active || (s.linkAt l).st == .activeSlow).map fun l => (s.linkAt l).peerDevice)

/-- A queue that stops as at a warm reset: what it fetched and did not finish is dropped, and it posts nothing (R162, R298). -/
def stopQueues (s : State) : State :=
  { s with queue := { s.queue with
      queues := Table.mapVals {} (fun q => { q with entries := [], stores := [] }) s.queue.queues
      responses := [] } }

/-- The device stops serving (R298, R407): outstanding requests are answered and release their slots, snoops count as finished, queues stop, commands end with CMD_FATAL and the links announce the departure. -/
def stopServing (s : State) (dead : Bool) : State :=
  let s := s.outstanding.foldl answerStopped s
  let s := s.stopQueues
  let s := s.tenant.acct.foldl (fun s (p : Nat × CtxAccount) => if p.2.held = 0 then s else s.countCtx p.1 0 p.2.held) s
  let s := { s with
    tenant := { s.tenant with
      txns := [], waiting := [], slotsG := 0, slotsShared := 0, offers := 0
      acct := Table.mapVals {} (fun a => { a with held := 0, guaranteed := 0 }) s.tenant.acct }
    slices := Table.mapVals {} (fun k =>
      { k with trackers := [], blocked := [], input := [], missWait := [], missRegs := [] }) s.slices
    home := { s.home with bisnps := [], walks := [], sweepSectors := [] }
    prot := { s.prot with ops := [], walks := [], pages := [] }
    power := { s.power with device := .fatal, windowOpen := false }
    mgmt := { s.mgmt with dead := s.mgmt.dead || dead } }
  let s := s.endAllCmds 0x0013
  s.neighbours.foldl (fun s d => s.emit (.mgmt d 4 [s.deviceNumber, 4])) s

/-! ### Words that carry errors (R273, R292) -/

end State

/-- The first of the two private-SRAM words of a record of the main log, in a ring of 4,096 (DESIGN CHOICE: the manual gives no layout). -/
def logWord (seq : Nat) : Nat := 40960 + 2 * (seq % 4096)

def damageKey (b word : Nat) : Nat := b * 2 ^ 32 + word

/-- The codeword bits that an injection kind flips (R292): D0; D0 and D1; P with its check bits; a parity bit. -/
def injectMask (kind : Nat) : BitVec 138 :=
  match kind with
  | 1 => BitVec.ofNat 138 (2 ^ 3)
  | 2 => BitVec.ofNat 138 (2 ^ 3 + 2 ^ 5)
  | 3 => BitVec.ofNat 138 (2 ^ 137 + 2 ^ 1 + 2 ^ 8 + 2 ^ 128)
  | _ => BitVec.ofNat 138 1

namespace State

/-- The flipped codeword bits of a word of a structure. -/
def damageAt (s : State) (b word : Nat) : BitVec 138 := Table.get 0 s.ras.damage (damageKey b word)

def setDamage (s : State) (b word : Nat) (e : BitVec 138) : State :=
  { s with ras := { s.ras with
      damage := Table.set 0 s.ras.damage (damageKey b word) e
      injected := if e = 0 then s.ras.injected.filter (· ≠ damageKey b word) else s.ras.injected } }

/-- SOURCE of an error found in a word: INJECTED for an injected one (R292), else as given. -/
def errSource (s : State) (b word : Nat) (src : Source) : Source :=
  if s.ras.injected.contains (damageKey b word) then .injected else src

/-- A whole word of a structure is written: errors it had are gone, and an armed injection for the structure is stored in it (R292). -/
def wordWritten (s : State) (b word : Nat) : State :=
  let s := if s.damageAt b word = 0 then s else s.setDamage b word 0
  if s.ras.injectState = 1 && s.reg 0x4230 2 = b then
    let s := s.setDamage b word (injectMask (s.reg 0x4230 3))
    { s with ras := { s.ras with injectState := 2, injected := s.ras.injected ++ [damageKey b word] } }
  else s

/-- Part of a word is changed: an error that it had stays until an access reads it. -/
def wordUpdated (s : State) (b word : Nat) : State := if s.damageAt b word = 0 then s.wordWritten b word else s

/-- Words `first` to `first + n - 1` of a structure are written. -/
def wordsWritten (s : State) (b first n : Nat) : State :=
  (List.range n).foldl (fun s i => s.wordWritten b (first + i)) s

/-- A soft error flips bits of a word. -/
def flipBits (s : State) (b word : Nat) (e : BitVec 138) : State :=
  s.setDamage b word (s.damageAt b word ^^^ e)

/-- The words of a log record are written. -/
def writeLogWords (s : State) (seq : Nat) : State :=
  [logWord seq, logWord seq + 1].foldl (fun s w => if s.damageAt 369 w = 0 then s else s.setDamage 369 w 0) s

/-! ### The event log (R294 to R301) -/

end State

/-- An abnormal occurrence: its event, class, source, port concerned and detail. -/
structure Event where
  code : Nat
  cls : FaultClass
  source : Source := .access
  port : Option Nat := none
  detail : Detail := .none
  /-- The event's own section sets its logging interval, so R285 does not fold it. -/
  ownInterval : Bool := false
  deriving DecidableEq, Repr

namespace State

/-- NOTE_LOG_INTERVAL in ns (R285). -/
def foldWindow (s : State) : Nat := s.reg 0x4220 1 * 1000000

/-- Whether an event folds into a record: a NOTE or CONTAINED event with the same code and DETAIL, within the window from the record's first occurrence (R285). -/
def foldsInto (s : State) (e : Event) (r : LogRecord) : Bool :=
  (e.cls == .note || e.cls == .contained) && !e.ownInterval && r.event == e.code && r.detail == e.detail &&
    decide (s.now < r.at_ + s.foldWindow)

/-- The record that a new occurrence makes. -/
def newRecord (s : State) (e : Event) : LogRecord where
  time := s.canalTime
  seq := s.ras.nextSeq
  event := e.code
  cls := e.cls
  source := e.source
  untrusted := !s.canal.trusted
  port := e.port
  device := s.deviceNumber
  count := 1
  detail := e.detail
  at_ := s.now

/-- Put a record into the log of 4,096 and, when its class is REGION-FATAL or above, into the fatal log of 64 (R295). -/
def appendRecord (s : State) (r : LogRecord) : State :=
  let full := 4096 ≤ s.ras.log.length
  let lost := full && match s.ras.log with
    | x :: _ => !x.read
    | [] => false
  let fatal := 3 ≤ r.cls.code
  { s with ras := { s.ras with
      log := (if full then s.ras.log.drop 1 else s.ras.log) ++ [r]
      nextSeq := s.ras.nextSeq + 1
      overwritten := if lost then sat32 (s.ras.overwritten + 1) else s.ras.overwritten
      fatalLog := if fatal && s.ras.fatalLog.length < 64 then s.ras.fatalLog ++ [r] else s.ras.fatalLog
      spilled := if fatal && !decide (s.ras.fatalLog.length < 64) then sat32 (s.ras.spilled + 1) else s.ras.spilled
      summary := s.ras.summary ||| BitVec.ofNat 8 (2 ^ r.cls.code) } }

/-- Whether a port asks for a record: class mask and scope (R300). -/
def portWants (s : State) (p : Nat) (r : LogRecord) : Bool :=
  (s.regAt 0x7020 2 p).testBit r.cls.code && (s.regAt 0x7020 4 p = 1 || r.port == some p)

/-- Mark a record for the ports and transports that ask for it (R300, R301). -/
def markNotify (s : State) (r : LogRecord) : State :=
  let s := { s with ras := { s.ras with
    hostPending := (List.range 128).foldl
      (fun t p => if (s.port p).st == PortState.up && s.portWants p r then Table.set 0 t p r.seq else t) s.ras.hostPending } }
  let mark (t : Table Nat) (k sub : Nat) := if (s.reg 0x7031 sub).testBit r.cls.code then Table.set 0 t k r.seq else t
  { s with ras := { s.ras with busPending := mark (mark s.ras.busPending 0 1) 1 2 } }

/-- ALERT_N for a record in its mask; until the checker self-test passes the pin stays released (R299). -/
def markAlert (s : State) (r : LogRecord) : State :=
  if (s.reg 0x7030 1).testBit r.cls.code then
    { s with ras := { s.ras with
        alertSeq := r.seq
        alertN := s.ras.alertN || s.ras.checkersPassed } }
  else s

/-- FAULT_N and the fatal latch at the first DEVICE-FATAL record, and the stop of R298. -/
def markFatal (s : State) (r : LogRecord) (dead : Bool) : State :=
  if r.cls == .deviceFatal then
    let s := if s.ras.faultN then s else
      { s with ras := { s.ras with faultN := true, fatalEvent := r.event, fatalTime := r.time } }
    s.stopServing dead
  else s

/-- Log an occurrence: fold it into a record, or make a record and let pins and notifications act on it (R285, R294 to R301). -/
def logEvent (s : State) (e : Event) : State :=
  if s.ras.log.any (s.foldsInto e) then
    { s with ras := { s.ras with
        log := mapIf (s.foldsInto e) (fun r => { r with count := min (r.count + 1) 65535 }) s.ras.log } }
  else
    let r := s.newRecord e
    let s := (s.appendRecord r).writeLogWords r.seq
    let s := s.markNotify r
    let s := s.markAlert r
    s.markFatal r (e.code == 0x7006)

/-- Log an event by code, class and detail. -/
def raise (s : State) (code : Nat) (cls : FaultClass) (detail : Detail := .none) (port : Option Nat := none)
    (source : Source := .access) : State :=
  s.logEvent { code := code, cls := cls, source := source, port := port, detail := detail }

/-! ### Leaky buckets (R283, R284) -/

end State

/-- The class of a leaky bucket (Table: Leaky buckets), none for a reserved number. -/
def bucketClass (b : Nat) : Option Nat :=
  if b < 64 then some 0 else if b < 128 then some 1 else if b < 192 then some 2 else if b < 320 then some 3
  else if b < 352 then some 4 else if b < 354 then some 5 else if b < 356 then some 6 else if b < 358 then some 7
  else if b < 362 then some 8 else if b < 366 then some 9 else if b < 367 then some 10 else if b < 368 then some 11
  else if b < 369 then some 12 else if b < 370 then some 13 else if b < 375 then some 14 else none

/-- The first bucket and the number of buckets of a class. -/
def classBuckets (cls : Nat) : Nat × Nat :=
  match cls with
  | 0 => (0, 64)
  | 1 => (64, 64)
  | 2 => (128, 64)
  | 3 => (192, 128)
  | 4 => (320, 32)
  | 5 => (352, 2)
  | 6 => (354, 2)
  | 7 => (356, 2)
  | 8 => (358, 4)
  | 9 => (362, 4)
  | 10 => (366, 1)
  | 11 => (367, 1)
  | 12 => (368, 1)
  | 13 => (369, 1)
  | _ => (370, 5)

/-- Classes whose structures carry parity and have no uncorrectable case (R283). -/
def parityClass (cls : Nat) : Bool := cls == 1 || cls == 3 || cls == 4 || cls == 11

namespace State

def bucket (s : State) (b : Nat) : Bucket := Table.get {} s.ras.buckets b

/-- Count an error in a bucket and tell whether it overflows; an overflow counts and empties it (R284). -/
def bucketAdd (s : State) (b : Nat) (ue : Bool) : State × Bool :=
  match bucketClass b with
  | none => (s, false)
  | some cls =>
    let k := s.bucket b
    let level := k.level + if ue then s.regAt 0x4211 4 cls else 1
    let spilled := decide (s.regAt 0x4211 2 cls ≤ level)
    let k := { k with
      level := if spilled then 0 else level
      overflows := if spilled then sat32 (k.overflows + 1) else k.overflows
      ce := if ue then k.ce else (k.ce + 1) % 2 ^ 64
      ue := if ue then (k.ue + 1) % 2 ^ 64 else k.ue }
    ({ s with ras := { s.ras with buckets := Table.set {} s.ras.buckets b k } }, spilled)

/-- Report an error found in the structure of a bucket (R7, R284): the one record is of the most severe event; `other` is a further event that the same error raises. -/
def reportError (s : State) (b : Nat) (ue : Bool) (e : Event) (index syndrome : Nat) (other : Option Event := none) : State :=
  let (s, spilled) := s.bucketAdd b ue
  match other with
  | some o => if e.cls.code < o.cls.code then s.logEvent o else s.logEvent e
  | none =>
    if spilled && e.cls == .note then
      s.logEvent { code := 0x7001, cls := .degraded, source := e.source, port := e.port
                   detail := .location b index syndrome e.code }
    else s.logEvent e

/-! ### Buffers and crossings (R23, R277) -/

end State

/-- The first word of a slice's buffers in its SLICE_DATA structure, beyond the 64 MiB of its ways: the write buffer, the merge buffer, the miss registers and the data that crosses into the slice, 8 words apart. The errors of a buffer stand at the words that leave it next (DESIGN CHOICE: nature chooses the entry that an error hits). -/
def sliceBuffer (n : Nat) : Nat := 4194304 + 8 * n

/-- The word of a crossing's bucket that stands for its next control word. -/
def controlWord : Nat := 4

namespace State

/-- A word of a buffer or crossing at its checker, its errors reported and gone with it (R277): whether it goes on, with P = 1 for a data word, and the verdict. -/
def payloadWord (s : State) (b w : Nat) (control : Bool) : State × Ecc :=
  let v := eccCheck (s.damageAt b w)
  let syn := syndromeField v
  let src := s.errSource b w .access
  let det : Detail := .location b w syn 0
  let s := s.setDamage b w 0
  match v with
  | .clean => (s, v)
  | .correctable _ => (s.reportError b false { code := 0x7002, cls := .note, source := src, detail := det } w syn, v)
  | .uncorrectable _ _ =>
    (s.reportError b true
      (if control then { code := 0x7008, cls := .deviceFatal, source := src, detail := det }
        else { code := 0x7007, cls := .contained, source := src, detail := det }) w syn, v)

/-- The data words of a sector leave a buffer or crossing through their checkers (R277). -/
def payload (s : State) (b first : Nat) (d : SectorData) : State × SectorData :=
  (List.range 4).foldl (init := (s, d)) fun (s, d) w =>
    let e := s.damageAt b (first + w)
    if e = 0 then (s, d) else ((s.payloadWord b (first + w) false).1, d.through w e)

/-- Bytes cross into a pound through the checkers of its words: the bytes, and whether they are poisoned (R277). -/
def payloadBytes (s : State) (b : Nat) (bytes : List Byte) : State × List Byte × Bool :=
  (List.range (min 4 ((bytes.length + 15) / 16))).foldl (init := (s, bytes, false)) fun (s, bytes, p) w =>
    let e := s.damageAt b w
    if e = 0 then (s, bytes, p)
    else
      let (s, v) := s.payloadWord b w false
      let bad := match v with
        | .uncorrectable _ _ => true
        | _ => (eccResidue e).getLsbD 137
      (s, flipBytes bytes (16 * w) (eccDataFlips (eccResidue e)), p || bad)

/-- A control word crosses into the pound of a bucket: false when it cannot be told what transaction it belongs to (R277). A wrong correction leaves it as sent (DESIGN CHOICE: the manual does not lay a control word out). -/
def control (s : State) (b : Nat) : State × Bool :=
  if s.damageAt b controlWord = 0 then (s, true)
  else
    let (s, v) := s.payloadWord b controlWord true
    (s, match v with
      | .uncorrectable _ _ => false
      | _ => true)

/-- Data for a port crosses into its quad (R277). -/
def intoQuad (s : State) (d : Option SectorData) : State × Option SectorData × Bool :=
  let (s, ok) := s.control 370
  match d with
  | none => (s, none, ok)
  | some d =>
    let (s, d) := s.payload 370 0 d
    (s, some d, ok)

/-- The data of a write leaves a buffer or crossing through its checkers: the write, poisoned where one of its words is. -/
def payloadWrite (s : State) (b first : Nat) (w : WriteData) : State × WriteData :=
  let (s, d) := s.payload b first { data := w.data, poison := if w.poison then 0xF else 0 }
  (s, { w with data := d.data, poison := d.poison != 0 })

/-! ### The management stores (R277) -/

/-- A word of the management private SRAM beyond the regulator's words is read (R277). -/
def checkPrivate (s : State) (w : Nat) (src : Source) : State :=
  let v := eccCheck (s.damageAt 369 w)
  let syn := syndromeField v
  let src := s.errSource 369 w src
  match v with
  | .clean => s
  | .correctable _ =>
    (s.setDamage 369 w 0).reportError 369 false { code := 0x7002, cls := .note, source := src, detail := .location 369 w syn 0 } w syn
  | .uncorrectable _ _ =>
    s.reportError 369 true { code := 0x7006, cls := .deviceFatal, source := src, detail := .location 369 w syn 0 } w syn

end State

/-- The number of words of a firmware-table part of one stack (R14). -/
def fwWords : Nat := 786432

/-- The word of the firmware-table records at which the record of a context, region, chart, protected region, reverse-map interval or entry begins (DESIGN CHOICE: the manual gives no layout). -/
def ctxRecord (c : Nat) : Nat := c
def regionRecord (r : Nat) : Nat := 16384 + 2 * r
def chartRecord (c : Nat) : Nat := 81920 + 64 * c
def rootRecord (r : Nat) : Nat := 98304 + 4 * r
def mapRecord (unit : Nat) : Nat := 114688 + unit % 32768
def entryRecord (id : Nat) : Nat := 262144 + id % 1310720

namespace State

/-- The words of a log record are read through their checkers. -/
def readLogWords (s : State) (seq : Nat) : State :=
  [logWord seq, logWord seq + 1].foldl (fun s w => if s.damageAt 369 w = 0 then s else s.checkPrivate w .access) s

/-- A word of the firmware tables of stack `k`, mirrored in stack `k` xor 2 (R277). -/
def checkFirmware (s : State) (k w : Nat) (src : Source) : State :=
  let other := Nat.xor k 2
  let v := eccCheck (s.damageAt (362 + k) w)
  let syn := syndromeField v
  let src := s.errSource (362 + k) w src
  let det : Detail := .location (362 + k) w syn 0
  if s.damageAt (362 + k) w = 0 || s.ras.fwRestore.contains (k * fwWords + w) then s
  else match v with
    | .clean => s
    | .correctable _ =>
      ((s.setDamage (362 + k) w 0).setDamage (362 + other) w 0).reportError (362 + k) false
        { code := 0x7002, cls := .note, source := src, detail := det } w syn
    | .uncorrectable _ _ =>
      match eccCheck (s.damageAt (362 + other) w) with
      | .uncorrectable _ _ => s.reportError (362 + k) true { code := 0x7005, cls := .deviceFatal, source := src, detail := det } w syn
      | _ =>
        ({ s with ras := { s.ras with fwRestore := s.ras.fwRestore ++ [k * fwWords + w] } } : State).reportError (362 + k) true
          { code := 0x7004, cls := .note, source := src, detail := det } w syn

/-- Firmware reads a word of a record; the two copies lie in stacks k and k xor 2, and an uncorrectable one is taken from the other (R277). -/
def readRecordWord (s : State) (w : Nat) : State := s.checkFirmware (w % 2) (w / 2) .access

/-- Firmware writes a word of a record, in both copies. -/
def writeRecordWord (s : State) (w : Nat) : State :=
  [362 + w % 2, 364 + w % 2].foldl (fun s b => if s.damageAt b (w / 2) = 0 then s else s.setDamage b (w / 2) 0) s

/-- Event 8201 for every counter that an increment restarted (R318). -/
def noteRestarts (s : State) : State :=
  let due := s.counter.restarted
  if due.isEmpty then s
  else due.foldl (fun s n => (s.bump32 0x4600 5).raise 0x8201 .note (.count n 0))
    { s with counter := { s.counter with restarted := [] } }

end State

/-! ### The frame of a meaning -/

/-- What a device in the fatal state still lets out: pool ports issue nothing more, and no snoop leaves (R298). -/
def Out.afterFatal : Out → Bool
  | .poolRead .. | .poolWrite .. | .bisnp .. => false
  | _ => true

/-- What still leaves once a power-fail drain runs: pool ports issue no read (R428). -/
def Out.afterPowerFail : Out → Bool
  | .poolRead .. => false
  | _ => true

/-- What a stopped or draining device still lets out. -/
def State.letsOut (s : State) (l : List Out) : List Out :=
  if s.isFatal then l.filter Out.afterFatal else if s.power.device == .pfDraining then l.filter Out.afterPowerFail else l

/-- The device's state as its latches let an effect change it. FAULT_N and the fatal latch of the first DEVICE-FATAL record stand until a cold reset, a device that serves as in the fatal state goes on so, and one that asserts FAULT_N serves so (R297, R298, R429); the straps hold (R413). `cold` marks the commands of a cold reset, which latch afresh. -/
def State.latched (s t : State) (cold : Bool) : State :=
  let keep := s.ras.faultN && !cold
  let t := { t with ras := { t.ras with
    faultN := keep || t.ras.faultN
    fatalEvent := if keep then s.ras.fatalEvent else t.ras.fatalEvent
    fatalTime := if keep then s.ras.fatalTime else t.ras.fatalTime } }
  { t with power := { t.power with
    straps := if cold then t.power.straps else s.power.straps
    device :=
      if t.isFatal then t.power.device
      else if s.isFatal && !cold then s.power.device
      else if t.ras.faultN then .fatal
      else t.power.device } }

/-- The state after an effect `t` of a command on `s`: the command queue stands as it was, what the effect sent follows what had left before, less what a fatal device no longer sends, the latches hold, and Chamber RAM is in its canonical form. -/
def commit (s t : State) (cold : Bool := false) : State :=
  let t := s.latched t cold
  { t with
    pending := s.pending
    out := s.out ++ s.letsOut t.out
    queue := { t.queue with chamber := Memory.canon t.queue.chamber } }

/-- The commands that a device held in reset takes: its reset and power pins, the thermal trip and the AVSBus (R413, R415, R433, R441, R448). -/
def inReset : Instr → Bool
  | .pwrokLow | .resetNAssert _ | .resetNRelease _ _ _ _ _ | .pfailNAssert _ _ | .pfailNHigh | .thermalTrip
  | .avsRetry | .avsAck | .coldSensorChange _ _ => true
  | _ => false

/-- The commands that reset a device cold, or carry its cold start on (R413, R415, R427, R433, R441, R448). -/
def resetsCold : Instr → Bool
  | .pwrokLow | .resetNAssert _ | .resetNRelease _ _ _ _ _ | .thermalTrip | .avsAck => true
  | _ => false

/-- A command's meaning as an outcome: its effect, when its operands name items that the device has. A device held in reset is deaf to all but its pins. -/
def run (i : Instr) (s : State) (effect : State → State) : Host.Outcome State Fault Refusal :=
  if i.wellFormed then
    if s.power.device == .starting && !inReset i then .next s
    else .next (commit s (effect { s with pending := [], out := [] }).noteRestarts (resetsCold i))
  else .fault .noSuchItem

end Sys2Proof.Machine
end

