-- ==== Sys2Proof/Machine/Links.lean ====
section
/-! DEFINITION. Sending to peers: link numbers and cabling, paths, messages, flits with their retry buffers and credits, and messages of the MGMT channel (R344 to R356). -/

namespace Sys2Proof.Machine

/-! ### Cabling (R344) -/

/-- The flight link, of parity `b`, of the device at position `s` toward position `p`. -/
def flightLink (s p b : Nat) : Nat := 2 * (if p < s then p else p - 1) + b

/-- The reach link, of parity `b`, of a device of flight `f` toward flight `g`. -/
def reachLink (f g b : Nat) : Nat := 62 + 2 * (if g < f then g else g - 1) + b

/-- The device and link that link `n` of a device is cabled to (R344); none for a spare. -/
def cabledPeer (dev n : Nat) : Option (Nat × Nat) :=
  let f := dev / 32
  let s := dev % 32
  if n < 62 then
    let p := flightPeer s n
    some (f * 32 + p, 2 * (if s < p then s else s - 1) + n % 2)
  else if n < 124 then
    let g := flightPeer f (n - 62)
    some (g * 32 + s, 62 + 2 * (if f < g then f else f - 1) + n % 2)
  else none

/-- The parity of DPA[15:6], which picks the link of a pair (R353). -/
def dpaParity (dpa : Nat) : Nat :=
  (List.range 10).foldl (fun p i => (p + bits dpa (6 + i) 1) % 2) 0

namespace State

/-- The spare that stands in for a link, by SPARE_MAP (R344). -/
def spareFor (s : State) (n : Nat) : Nat :=
  ((List.range 4).find? fun i =>
    bits (s.reg 0x5201 1) (8 * i + 7) 1 = 1 && bits (s.reg 0x5201 1) (8 * i) 7 = n).elim n (124 + ·)

/-- Whether a link carries traffic other than SRCH. -/
def linkUp (s : State) (l : Nat) : Bool :=
  (s.linkAt (s.spareFor l)).st == .active || (s.linkAt (s.spareFor l)).st == .activeSlow

/-- Whether a link carries SRCH (R347). -/
def linkSrch (s : State) (l : Nat) : Bool := (s.linkAt (s.spareFor l)).st == .active

/-- What a peer's link-state vector says of its link (R354). -/
def peerLinkUp (s : State) (dev l : Nat) : Bool := (Table.get 0 s.link.vectors dev).getLsbD l

/-- The own link of the first working path to a device, for traffic of parity `b` (R353, R354). -/
def pathTo (s : State) (dev b : Nat) (up : State → Nat → Bool := linkUp) : Option Nat :=
  let f := s.flight
  let p := s.position
  let g := dev / 32
  let t := dev % 32
  let fl (q b : Nat) := flightLink p q b
  if dev = s.deviceNumber then none
  else if g = f then
    match [b, 1 - b].find? fun b => up s (fl t b) with
    | some b => some (s.spareFor (fl t b))
    | none =>
      ((List.range s.flightSize).filter fun q => q != p && q != t).findSome? fun q =>
        [b, 1 - b].findSome? fun c =>
          if up s (fl q c) && (s.peerLinkUp (f * 32 + q) (flightLink q t b) || s.peerLinkUp (f * 32 + q) (flightLink q t (1 - b)))
          then some (s.spareFor (fl q c)) else none
  else
    let direct := [b, 1 - b].findSome? fun c =>
      let l := reachLink f g c
      if up s l && (t == p || s.peerLinkUp (g * 32 + p) (flightLink p t b) || s.peerLinkUp (g * 32 + p) (flightLink p t (1 - b)))
      then some (s.spareFor l) else none
    match direct with
    | some l => some l
    | none =>
      if t = p then none
      else [b, 1 - b].findSome? fun c =>
        if up s (fl t c) && (s.peerLinkUp (f * 32 + t) (reachLink f g b) || s.peerLinkUp (f * 32 + t) (reachLink f g (1 - b)))
        then some (s.spareFor (fl t c)) else none

/-! ### Messages and flits (R348, R350 to R352) -/

end State

/-- The virtual channels (R351). -/
def vcReq : Nat := 0
def vcRwd : Nat := 1
def vcRsp : Nat := 2
def vcSnp : Nat := 3
def vcSnr : Nat := 4
def vcSrch : Nat := 5
def vcMgmt : Nat := 6

/-- The OP codes of a message: the manual numbers queue commands only, so the request classes, from 0x80, and the snoops and responses are numbered here in the order of their tables (R105, R106, R352). -/
def opClass : ReqClass → Nat
  | .rdS => 0x80
  | .rdAny => 0x81
  | .rdOwn => 0x82
  | .upg => 0x83
  | .rdNc => 0x84
  | .invNc => 0x85
  | .wrNc => 0x86
  | .wbI => 0x87
  | .wbS => 0x88
  | .wbE => 0x89
  | .clnEvict => 0x8A
  | .atomic => 0x8B

/-- BIConflict on the REQ channel. -/
def opBiConflict : Nat := 0x8C
/-- A CXL.io read and write on the REQ and RWD channels: the home never takes their requester for a holder (R91, R117). -/
def opIoRead : Nat := 0x8D
def opIoWrite : Nat := 0x8E
/-- Answers to queue commands on the RSP channel: an operation refused with a decode event (R37), and the bit that tells of an access performed as two (R159). -/
def opRefused : Nat := 24
def opSplit : Nat := 64
/-- The requester's acknowledgement of R101, on the SNR channel. -/
def opAck : Nat := 8

def snoopCode : SnoopKind → Nat
  | .inv => 0
  | .data => 1
  | .cur => 2

/-- The end-to-end header of a message (Table: End-to-end message header). -/
def e2eHeader (vc op source epoch tag len : Nat) (poison replay : Bool) (port : Nat) : Nat :=
  vc % 8 * 2 ^ 61 + op % 256 * 2 ^ 53 + source % 1024 * 2 ^ 43 + epoch % 256 * 2 ^ 35 + tag % 65536 * 2 ^ 19 +
    len % 128 * 2 ^ 12 + bit poison * 2 ^ 11 + bit replay * 2 ^ 10 + port % 128 * 2 ^ 3

/-- A message as bytes: header, then body, most significant byte of each 8 B word first. -/
def message (vc op source epoch tag : Nat) (poison : Bool) (port : Nat) (body : List Byte) : WibMessage :=
  beBytes (e2eHeader vc op source epoch tag ((8 + body.length) / 4) poison false port) 8 ++ body

/-- The REQ body: DPA, MARKER and SVC_CLASS (R352). -/
def reqBody (dpa marker svc : Nat) : List Byte :=
  beBytes (dpa % 2 ^ 45 + marker % 64 * 2 ^ 45 + svc % 8 * 2 ^ 51) 8

/-- The bytes of a sector, byte 0 first. -/
def sectorBytes (d : Sector) : List Byte := leBytes d.toNat 64

/-- A sector from its bytes. -/
def sectorOfBytes (b : List Byte) : Sector := BitVec.ofNat 512 (ofLe b)

/-- A flit without its CRC: the fields above bit 32 (Table: Wiboni flit). -/
def flitBody (ftype first creditVc credits payload seq ack : Nat) (nak replay : Bool) : Nat :=
  ftype % 16 * 2 ^ 1020 + first % 128 * 2 ^ 1013 + creditVc % 8 * 2 ^ 1010 + credits % 1024 * 2 ^ 1000 +
    payload % 2 ^ 928 * 2 ^ 64 + seq % 4096 * 2 ^ 52 + ack % 4096 * 2 ^ 40 + bit nak * 2 ^ 39 + bit replay * 2 ^ 38

/-- The CRC-32C of a flit, over its first 124 bytes (R348). -/
def flitCrc (body : Nat) : Nat := crc32c (beBytes (body >>> 32) 124)

/-- A flit with its CRC. -/
def mkFlit (body : Nat) : Flit := BitVec.ofNat 1024 (body + flitCrc body)

/-- Payload bytes as the PAYLOAD field, zeros after them. -/
def payloadOf (b : List Byte) : Nat := ofBe ((b ++ List.replicate 116 0).take 116)

/-- A byte string in payloads of 116 bytes; `n` bounds their number. -/
def chunks : Nat → List Byte → List (List Byte)
  | 0, _ => []
  | _, [] => []
  | n + 1, b => b.take 116 :: chunks n (b.drop 116)

/-- The credits of a channel that a sender holds: 2 KiB in units of 16 B until used (R351). -/
def creditOf (l : Link) (vc : Nat) : Nat := l.credits.getD vc 128

def setCredit (l : Link) (vc v : Nat) : Link :=
  { l with credits := (List.range 7).map fun i => if i = vc then v else creditOf l i }

/-- The virtual channel of a message. -/
def messageVc (m : WibMessage) : Nat := (m.headD 0).toNat / 32

/-- The 16 B units that a message takes at the receiver. -/
def messageUnits (m : WibMessage) : Nat := (m.length + 15) / 16

namespace State

/-- Send one message on a link: DATA flits of 116 B, sequenced and kept until acknowledged (R350). -/
def sendFlits (s : State) (l : Nat) (m : Sent) : State :=
  (chunks 8 m.msg).zipIdx.foldl (fun s (c, i) =>
    let k := s.linkAt l
    let f := mkFlit (flitBody 1 (if i = 0 then 0 else 127) 0 0 (payloadOf c) k.nextSeq ((k.expect + 4095) % 4096) false false)
    ((s.modLink l fun k => { k with
      nextSeq := (k.nextSeq + 1) % 4096
      ackedAt := if k.retry.isEmpty then s.now else k.ackedAt
      retry := k.retry ++ [{ seq := k.nextSeq, flit := f, sent := m }] }).emit (.flit l f))) s

/-- Whether a link has credits and retry room for a message. -/
def canSend (s : State) (l : Nat) (m : WibMessage) : Bool :=
  messageUnits m ≤ creditOf (s.linkAt l) (messageVc m) && (s.linkAt l).retry.length + 8 ≤ 128

/-- A message leaves on a link and takes its credits. -/
def sendNow (s : State) (l : Nat) (m : Sent) : State :=
  (s.modLink l fun k => setCredit k (messageVc m.msg) (creditOf k (messageVc m.msg) - messageUnits m.msg)).sendFlits l m

/-- Give a message to a link: it leaves when its channel has credits and no earlier message of the channel waits. -/
def giveLink (s : State) (l : Nat) (m : Sent) : State :=
  if s.canSend l m.msg && !((s.linkAt l).txq.any fun q => messageVc q.msg == messageVc m.msg) then s.sendNow l m
  else s.modLink l fun k => { k with txq := k.txq ++ [m] }

/-- A message that concerns the link alone. -/
def sendOn (s : State) (l : Nat) (m : WibMessage) : State := s.giveLink l { msg := m }

/-- The oldest message of a channel that waits at a link, when it can leave. -/
def channelHead (s : State) (l vc : Nat) : Option Sent :=
  ((s.linkAt l).txq.find? fun q => messageVc q.msg == vc).filter fun q => s.canSend l q.msg

/-- The waiting message that leaves next: of SRCH, then of the other channels from the one whose turn it is (R351). DESIGN CHOICE (log entry 123): messages leave whole. -/
def nextToSend (s : State) (l : Nat) : Option Sent :=
  (vcSrch :: (List.range 7).map fun i => ((s.linkAt l).vcTurn + i) % 7).findSome? (s.channelHead l)

/-- Send at most `n` of the messages that wait at a link. -/
def drainUpTo (l : Nat) : Nat → State → State
  | 0, s => s
  | n + 1, s =>
    match s.nextToSend l with
    | none => s
    | some m =>
      let vc := messageVc m.msg
      drainUpTo l n ((s.modLink l fun k => { k with
        txq := k.txq.erase m, vcTurn := if vc = vcSrch then k.vcTurn else (vc + 1) % 7 }).sendNow l m)

/-- Send what waits at a link and can leave: SRCH first and the other channels in rotation, in order within each channel (R351). -/
def drainTxq (s : State) (l : Nat) : State := drainUpTo l (s.linkAt l).txq.length s

/-- Keep a response with its request in the tail records (R355). -/
def recordResponse (s : State) (dev tag : Nat) (m : WibMessage) : State :=
  let put (q : TailReq) : TailReq := if q.source = dev && q.tag = tag && q.running then { q with running := false, response := m } else q
  { s with link := { s.link with links := Table.mapVals {} (fun k => { k with tail := k.tail.map put }) s.link.links } }

/-- A message of a channel to a device, on the path of R354; without a path nothing leaves. -/
def sendPeer (s : State) (dev vc op tag : Nat) (poison : Bool) (port parity : Nat) (body : List Byte) : State :=
  let m := message vc op s.deviceNumber s.canal.epoch tag poison port body
  let s := if vc = vcRsp then s.recordResponse dev tag m else s
  match s.pathTo dev parity with
  | none => s
  | some l => s.giveLink l { dest := some (dev, parity), msg := m }

/-- A message of the MGMT channel: the manual gives its content and no encoding. -/
def sendMgmt (s : State) (dev kind : Nat) (words : List Nat) : State := s.emit (.mgmt dev kind words)

/-- Whether a tag's request is out, or its response came less than 64 µs ago (R356). -/
def tagBusy (s : State) (t : Nat) : Bool :=
  (s.link.forwarded.any (·.tag == t)) || s.link.spentTags.any fun p => p.1 == t && decide (s.now < p.2 + 64000)

/-- The first tag from `t` on that may be used, after at most `n` others. -/
def tagFrom (s : State) : Nat → Nat → Nat
  | 0, t => t
  | n + 1, t => if s.tagBusy t then s.tagFrom n ((t + 1) % 65536) else t

/-- A fresh tag toward peers: one sequence serves every destination (R356). -/
def freshTag (s : State) : Nat × State :=
  let t := s.tagFrom 65535 s.link.nextTag
  (t, { s with link := { s.link with nextTag := (t + 1) % 65536 } })

/-- A forwarded request has its response: its tag rests for 64 µs (R356). -/
def endForwarded (s : State) (f : Forwarded) : State :=
  { s with link := { s.link with
      forwarded := s.link.forwarded.erase f
      spentTags := (s.link.spentTags.filter fun p => decide (s.now < p.2 + 64000)) ++ [(f.tag, s.now)] } }

/-- Whether a device is an active member of this device's view. -/
def isActiveMember (s : State) (dev : Nat) : Bool := s.canal.active.contains dev

def isQuarantined (s : State) (dev : Nat) : Bool := s.canal.quarantined.contains dev

end State

/-- The kinds of a MGMT message. -/
def mkRecord : Nat := 1
def mkEpoch : Nat := 2
def mkDeparture : Nat := 4
def mkPrepare : Nat := 5
def mkReady : Nat := 6
def mkAbort : Nat := 7
def mkApplied : Nat := 8
def mkTableSub : Nat := 9
def mkTableConfirm : Nat := 10
def mkCanalSet : Nat := 11
def mkCanalSetConfirm : Nat := 12
def mkVector : Nat := 13
def mkViolation : Nat := 15
/-- A home's report to a peer whose queue stored there: the store retired, or was lost. -/
def mkRetired : Nat := 16

end Sys2Proof.Machine
end

