-- ==== Sys2Proof/Machine/Crypto.lean ====
section
/-! DEFINITION. The cryptography of the protection pounds and of key loading: AES-256, GHASH, SHA-384, AES key wrap and P-384, as their standards define them (R232 to R235, R253, R255). -/

namespace Sys2Proof.Machine

/-! ### AES-256 (FIPS 197): a block is a word whose first byte is bits [127:120] (R235) -/

/-- The S-box, entry x at bits [8x+7:8x]. -/
def aesSbox : Nat :=
  0xc072a49cafa2d4adf04759fa7dc982ca76abd7fe2b670130c56f6bf27b777c63 * 2 ^ 0 +
  0x75b227ebe28012079a059618c323c7041531d871f1e5a534ccf73f362693fdb7 * 2 ^ 256 +
  0xcf584c4a39becb6a5bb1fc20ed00d153842fe329b3d63b52a05a6e1b1a2c8309 * 2 ^ 512 +
  0xd2f3ff1021dab6bcf5389d928f40a351a89f3c507f02f94585334d43fbaaefd0 * 2 ^ 768 +
  0xdb0b5ede14b8ee4688902a22dc4f816073195d643d7ea7c41744975fec130ccd * 2 ^ 1024 +
  0x08ae7a65eaf4566ca94ed58d6d37c8e779e4959162acd3c25c2406490a3a32e0 * 2 ^ 1280 +
  0x9e1dc186b95735610ef6034866b53e708a8bbd4b1f74dde8c6b4a61c2e2578ba * 2 ^ 1536 +
  0x16bb54b00f2d99416842e6bf0d89a18cdf2855cee9871e9b948ed9691198f8e1 * 2 ^ 1792

/-- The inverse S-box. -/
def aesInvSbox : Nat :=
  0xcbe9dec444438e3487ff2f9b8239e37cfbd7f3819ea340bf38a53630d56a0952 * 2 ^ 0 +
  0x25d18b6d49a25b76b224d92866a12e084ec3fa420b954cee3d23c2a632947b54 * 2 ^ 256 +
  0x849d8da75746155edab9edfd5048706c92b6655dcc5ca4d41698688664f6f872 * 2 ^ 512 +
  0x6b8a130103bdafc1020f3fca8f1e2cd00645b3b80558e4f70ad3bc8c00abd890 * 2 ^ 768 +
  0x6edf751ce837f9e28535ade72274ac9673e6b4f0cecff297eadc674f4111913a * 2 ^ 1024 +
  0xf45acd78fec0db9a2079d2c64b3e56fc1bbe18aa0e62b76f89c5291d711af147 * 2 ^ 1280 +
  0xef9cc9939f7ae52d0d4ab519a97f51605fec8027591012b131c7078833a8dd1f * 2 ^ 1536 +
  0x7d0c2155631469e126d677ba7e042b17619953833cbbebc8b0f52aae4d3be0a0 * 2 ^ 1792

def sboxAt (t x : Nat) : Nat := (t >>> (8 * x)) % 256

/-- Multiplication by x in the AES field. -/
def xtime (a : Nat) : Nat := if a < 128 then 2 * a else Nat.xor (2 * a) 0x11B

/-- Multiplication by a constant of up to four bits in the AES field. -/
def gmul (c a : Nat) : Nat :=
  let a2 := xtime a
  let a4 := xtime a2
  let a8 := xtime a4
  Nat.xor (Nat.xor (if c.testBit 0 then a else 0) (if c.testBit 1 then a2 else 0))
    (Nat.xor (if c.testBit 2 then a4 else 0) (if c.testBit 3 then a8 else 0))

def xorBytes (a b : List Nat) : List Nat := List.zipWith Nat.xor a b

/-- The bytes of a block, first byte first. -/
def blockBytes (b : BitVec 128) : List Nat := (List.range 16).map fun i => fld b (120 - 8 * i) 8

/-- A block from its bytes. -/
def bytesBlock (l : List Nat) : BitVec 128 := BitVec.ofNat 128 (l.foldl (fun n b => n * 256 + b) 0)

/-- The next words of the key schedule: from the last eight words, newest last, the word of number `i`. -/
def nextKeyWord (prev8 last : List Nat) (i : Nat) : List Nat :=
  let t :=
    if i % 8 = 0 then
      xorBytes (((last.drop 1) ++ last.take 1).map (sboxAt aesSbox)) [2 ^ (i / 8 - 1), 0, 0, 0]
    else if i % 8 = 4 then last.map (sboxAt aesSbox)
    else last
  xorBytes prev8 t

/-- The key schedule: `n` more words after those in `ws`, newest first. -/
def expandKey : Nat → Nat → List (List Nat) → List (List Nat)
  | 0, _, ws => ws
  | n + 1, i, ws => expandKey n (i + 1) (nextKeyWord (ws.getD 7 []) (ws.getD 0 []) i :: ws)

/-- The 15 round keys of a 256-bit key whose first byte is bits [255:248]. -/
def roundKeys (k : BitVec 256) : List (List Nat) :=
  let first := (List.range 8).map fun w => (List.range 4).map fun j => fld k (248 - 32 * w - 8 * j) 8
  let ws := (expandKey 52 8 first.reverse).reverse
  (List.range 15).map fun r => ((ws.drop (4 * r)).take 4).flatten

def shiftRows (s : List Nat) : List Nat :=
  (List.range 16).map fun i => s.getD (i % 4 + 4 * ((i / 4 + i % 4) % 4)) 0

def invShiftRows (s : List Nat) : List Nat :=
  (List.range 16).map fun i => s.getD (i % 4 + 4 * ((i / 4 + 4 - i % 4) % 4)) 0

/-- MixColumns with the first row of its matrix. -/
def mixWith (m : List Nat) (s : List Nat) : List Nat :=
  (List.range 16).map fun i =>
    (List.range 4).foldl (fun n j => Nat.xor n (gmul (m.getD ((j + 4 - i % 4) % 4) 0) (s.getD (i / 4 * 4 + j) 0))) 0

/-- E_K: AES-256 of one block. -/
def aesEncrypt (k : BitVec 256) (b : BitVec 128) : BitVec 128 :=
  let ks := roundKeys k
  let s := xorBytes (blockBytes b) (ks.getD 0 [])
  let s := (List.range 13).foldl (fun s r =>
    xorBytes (mixWith [2, 3, 1, 1] (shiftRows (s.map (sboxAt aesSbox)))) (ks.getD (r + 1) [])) s
  bytesBlock (xorBytes (shiftRows (s.map (sboxAt aesSbox))) (ks.getD 14 []))

/-- The inverse of AES-256 on one block. -/
def aesDecrypt (k : BitVec 256) (b : BitVec 128) : BitVec 128 :=
  let ks := roundKeys k
  let s := (invShiftRows (xorBytes (blockBytes b) (ks.getD 14 []))).map (sboxAt aesInvSbox)
  let s := (List.range 13).foldl (fun s r =>
    (invShiftRows (mixWith [14, 11, 13, 9] (xorBytes s (ks.getD (13 - r) [])))).map (sboxAt aesInvSbox)) s
  bytesBlock (xorBytes s (ks.getD 0 []))

/-! ### GHASH (NIST SP 800-38D), without a length block (R235) -/

/-- Multiplication in the GHASH field; bit 127 of a word is its leftmost bit. -/
def ghashMul (x y : BitVec 128) : BitVec 128 :=
  ((List.range 128).foldl (fun (zv : BitVec 128 × BitVec 128) i =>
    (if x.getLsbD (127 - i) then zv.1 ^^^ zv.2 else zv.1,
     if zv.2.getLsbD 0 then (zv.2 >>> 1) ^^^ 0xE1000000000000000000000000000000 else zv.2 >>> 1)) (0, y)).1

def ghash (h : BitVec 128) (blocks : List (BitVec 128)) : BitVec 128 :=
  blocks.foldl (fun y x => ghashMul (y ^^^ x) h) 0

/-! ### AES key wrap (NIST SP 800-38F, KW) -/

/-- One unwrapping step on the integrity register and the 64-bit blocks, for step number `t` and block `i` from 0. -/
def unwrapStep (k : BitVec 256) (t i : Nat) (a : BitVec 64) (r : List (BitVec 64)) : BitVec 64 × List (BitVec 64) :=
  let b := aesDecrypt k (BitVec.ofNat 128 ((a.toNat.xor t) * 2 ^ 64 + (r.getD i 0).toNat))
  (BitVec.ofNat 64 (fld b 64 64), r.set i (BitVec.ofNat 64 (fld b 0 64)))

/-- Unwrap 40 bytes into a 256-bit key; none when the integrity check fails. -/
def keyUnwrap (kek : BitVec 256) (w : List Byte) : Option (BitVec 256) :=
  let c := (List.range 5).map fun i => BitVec.ofNat 64 (ofBe ((w.drop (8 * i)).take 8))
  let (a, r) := (List.range 24).foldl (fun (p : BitVec 64 × List (BitVec 64)) n =>
    unwrapStep kek (24 - n) ((23 - n) % 4) p.1 p.2) (c.getD 0 0, c.drop 1)
  if w.length = 40 && a == 0xA6A6A6A6A6A6A6A6 then
    some (BitVec.ofNat 256 (r.foldl (fun n x => n * 2 ^ 64 + x.toNat) 0))
  else none

/-! ### SHA-384 (FIPS 180-4) -/

/-- The largest number of at most `n` bits above `low` whose power `e` does not pass `v`. -/
def rootBelow (e v : Nat) : Nat → Nat → Nat
  | 0, low => low
  | n + 1, low => rootBelow e v n (if (low + 2 ^ n) ^ e ≤ v then low + 2 ^ n else low)

/-- The first 64 bits of the fractional part of the root of degree `e` of `p`, for p < 512: how FIPS 180-4 defines its constants. -/
def rootFraction (e p : Nat) : BitVec 64 := BitVec.ofNat 64 (rootBelow e (p * 2 ^ (64 * e)) 69 0)

/-- The primes below 410, of which there are 80. -/
def shaPrimes : List Nat :=
  ((List.range 410).drop 2).filter fun p => ((List.range p).drop 2).all fun d => p % d != 0

/-- The round constants: cube roots of the first 80 primes. -/
def shaRoundConstants : List (BitVec 64) := shaPrimes.map (rootFraction 3)

/-- The initial hash value of SHA-384: square roots of the ninth to the sixteenth prime. -/
def sha384Init : List (BitVec 64) := ((shaPrimes.drop 8).take 8).map (rootFraction 2)

/-- The exclusive or of a word's rotations to the right. -/
def rotations (ns : List Nat) (x : BitVec 64) : BitVec 64 := ns.foldl (fun y n => y ^^^ x.rotateRight n) 0

/-- The message schedule, newest word first; `n` words to add. -/
def shaSchedule : Nat → List (BitVec 64) → List (BitVec 64)
  | 0, w => w
  | n + 1, w =>
    let near := w.getD 1 0
    let far := w.getD 14 0
    shaSchedule n ((w.getD 15 0 + (rotations [1, 8] far ^^^ far >>> 7) + w.getD 6 0 + (rotations [19, 61] near ^^^ near >>> 6)) :: w)

/-- One round on the eight working variables, with the sum of the round constant and the schedule's word: the variables move one place on, and the first and the fifth take the sums. -/
def shaRound (v : List (BitVec 64)) (kw : BitVec 64) : List (BitVec 64) :=
  let at' (i : Nat) := v.getD i 0
  let choice := at' 6 ^^^ (at' 4 &&& (at' 5 ^^^ at' 6))
  let majority := (at' 0 &&& (at' 1 ||| at' 2)) ||| (at' 1 &&& at' 2)
  let add := at' 7 + rotations [14, 18, 41] (at' 4) + choice + kw
  ((add + rotations [28, 34, 39] (at' 0) + majority) :: v.take 7).modify 4 (· + add)

/-- One block of 128 bytes. -/
def shaBlock (h : List (BitVec 64)) (block : List Byte) : List (BitVec 64) :=
  let words := (List.range 16).map fun i => BitVec.ofNat 64 (ofBe ((block.drop (8 * i)).take 8))
  let sums := List.zipWith (· + ·) shaRoundConstants (shaSchedule 64 words.reverse).reverse
  List.zipWith (· + ·) h (sums.foldl shaRound h)

/-- A message with its padding. -/
def shaPad (m : List Byte) : List Byte :=
  m ++ 0x80 :: List.replicate ((239 - m.length % 128) % 128) 0 ++ beBytes (8 * m.length) 16

/-- The blocks of a padded message. -/
def shaBlocks : Nat → List Byte → List (BitVec 64) → List (BitVec 64)
  | 0, _, h => h
  | n + 1, m, h => shaBlocks n (m.drop 128) (shaBlock h (m.take 128))

/-- SHA-384, as a number of 384 bits. -/
def sha384 (m : List Byte) : Nat :=
  let p := shaPad m
  ((shaBlocks (p.length / 128) p sha384Init).take 6).foldl (fun n x => n * 2 ^ 64 + x.toNat) 0

/-! ### P-384 (FIPS 186-5) -/

def p384 : Nat := 2 ^ 384 - 2 ^ 128 - 2 ^ 96 + 2 ^ 32 - 1
def p384b : Nat := 0xb3312fa7e23ee7e4988e056be3f82d19181d9c6efe8141120314088f5013875ac656398d8a2ed19d2a85c8edd3ec2aef
def p384gx : Nat := 0xaa87ca22be8b05378eb1c71ef320ad746e1d3b628ba79b9859f741e082542a385502f25dbf55296c3a545e3872760ab7
def p384gy : Nat := 0x3617de4a96262c6f5d9e98bf9292dc29f8f41dbd289a147ce9da3113b5f0b8c00a60b1ce1d7e819d7a431d7c90ea0e5f

/-- a^e mod p by the lowest `n` bits of e. -/
def powMod : Nat → Nat → Nat → Nat
  | 0, _, _ => 1
  | n + 1, a, e =>
    let h := powMod n (a * a % p384) (e / 2)
    if e % 2 = 1 then h * a % p384 else h

def invMod (a : Nat) : Nat := powMod 384 a (p384 - 2)

/-- Whether a point lies on the curve. -/
def onCurve (x y : Nat) : Bool :=
  decide (x < p384) && decide (y < p384) && y * y % p384 == (x * x * x + (p384 - 3) * x + p384b) % p384

/-- Point doubling in Jacobian coordinates; Z = 0 is the point at infinity. -/
def jDouble (p : Nat × Nat × Nat) : Nat × Nat × Nat :=
  let (x, y, z) := p
  let zz := z * z % p384
  let m := 3 * (x + zz) * (x + p384 - zz) % p384
  let yy := y * y % p384
  let s := 4 * x * yy % p384
  let x' := (m * m + 2 * (p384 - s)) % p384
  (x', (m * (s + p384 - x') + 8 * (p384 - yy * yy % p384)) % p384, 2 * y * z % p384)

/-- Point addition in Jacobian coordinates. -/
def jAdd (p q : Nat × Nat × Nat) : Nat × Nat × Nat :=
  let (x1, y1, z1) := p
  let (x2, y2, z2) := q
  if z1 = 0 then q
  else if z2 = 0 then p
  else
    let zz1 := z1 * z1 % p384
    let zz2 := z2 * z2 % p384
    let u1 := x1 * zz2 % p384
    let u2 := x2 * zz1 % p384
    let s1 := y1 * zz2 * z2 % p384
    let s2 := y2 * zz1 * z1 % p384
    if u1 = u2 then (if s1 = s2 then jDouble p else (1, 1, 0))
    else
      let h := (u2 + p384 - u1) % p384
      let r := (s2 + p384 - s1) % p384
      let hh := h * h % p384
      let hhh := h * hh % p384
      let v := u1 * hh % p384
      let x3 := (r * r + (p384 - hhh) + 2 * (p384 - v)) % p384
      (x3, (r * (v + p384 - x3) + s1 * (p384 - hhh)) % p384, h * z1 % p384 * z2 % p384)

/-- k·P by the lowest `n` bits of k. -/
def jMul : Nat → Nat → Nat × Nat × Nat → Nat × Nat × Nat
  | 0, _, _ => (1, 1, 0)
  | n + 1, k, p =>
    let h := jMul n (k / 2) (jDouble p)
    if k % 2 = 1 then jAdd h p else h

/-- The affine coordinates of k·(x, y). -/
def p384Mul (k x y : Nat) : Nat × Nat :=
  let (a, b, z) := jMul 384 k (x, y, 1)
  let i := invMod z
  (a * i * i % p384, b * i * i % p384 * i % p384)

/-- An uncompressed point as 97 bytes. -/
def pointBytes (p : Nat × Nat) : List Byte := 4 :: (beBytes p.1 48 ++ beBytes p.2 48)

/-- The device's public key, object 4000:03 (R253). -/
def devicePublicKey : List Byte := pointBytes (p384Mul Config.privateKey p384gx p384gy)

/-- The point that 97 bytes spell, when it is an uncompressed point of the curve. -/
def parsePoint (b : List Byte) : Option (Nat × Nat) :=
  let x := ofBe ((b.drop 1).take 48)
  let y := ofBe ((b.drop 49).take 48)
  if b.length = 97 && b.headD 0 == 4 && onCurve x y then some (x, y) else none

/-- The KEK from the shared secret: msb256 of SHA-384(0x0000_0001, Z, "QGE4K-KEK", serial) (R253). -/
def deriveKek (z : Nat) : BitVec 256 :=
  let label : List Byte := [0x51, 0x47, 0x45, 0x34, 0x4B, 0x2D, 0x4B, 0x45, 0x4B]
  BitVec.ofNat 256 (sha384 ([0, 0, 0, 1] ++ beBytes z 48 ++ label ++ beBytes Config.serial.toNat 8) / 2 ^ 128)

/-- The KEK that a client's public point leads to (R253). -/
def ecdhKek (p : Nat × Nat) : BitVec 256 := deriveKek (p384Mul Config.privateKey p.1 p.2).1

end Sys2Proof.Machine
end

