-- ==== Sys2Proof/Machine/Pool.lean ====
section
/-! DEFINITION. The protection pounds' side of a pool access: pool targets, the layout of metadata, nonces and MACs, the counter cache with its evictions, walks, the order on a pool address, and the reads of the slices (R225 to R251, R341, R342). -/

namespace Sys2Proof.Machine

/-! ### Metadata layout (R230, R239) -/

def roundUp (n m : Nat) : Nat := (n + m - 1) / m * m

/-- n[1] to n[d-1], from the number of leaves. -/
def nodeCounts : Nat → Nat → List Nat
  | 0, _ => []
  | f + 1, n => if n ≤ 64 then [n] else n :: nodeCounts f ((n + 63) / 64)

/-- The pool levels of a region of `size` bytes. -/
def levelsOf (size : Nat) : List Nat := nodeCounts 8 (size / 4096)

/-- The root level d. -/
def rootLevel (size : Nat) : Nat := (levelsOf size).length + 1

/-- The place of node (l, i) in the counter area. -/
def nodePlace (size l i : Nat) : Nat := ((levelsOf size).take (l - 1)).foldl (· + ·) 0 + i

def nodeTotal (size : Nat) : Nat := (levelsOf size).foldl (· + ·) 0

def metaSize (size : Nat) : Nat :=
  roundUp (64 * nodeTotal size) 4096 + roundUp (8 * (size / 64 + nodeTotal size)) 4096

/-- The number of a sector's MAC, and of a node's. -/
def nodeMacIndex (size l i : Nat) : Nat := size / 64 + nodePlace size l i

/-! ### Bytes, nonces and tags (R233 to R236) -/

/-- Block j of a sector: bytes 16j to 16j + 15, the first byte leftmost. -/
def sectorBlock (d : Sector) (j : Nat) : BitVec 128 :=
  BitVec.ofNat 128 (ofBe (((leBytes d.toNat 64).drop (16 * j)).take 16))

/-- A sector from its four blocks. -/
def blocksSector (l : List (BitVec 128)) : Sector :=
  BitVec.ofNat 512 (ofLe ((l.map fun b => beBytes b.toNat 16).flatten))

/-- The data nonce (Table: Data nonce). -/
def dataNonce (major : Nat) (minor dpa root block use : Nat) : BitVec 128 :=
  BitVec.ofNat 128 (major % 2 ^ 64 * 2 ^ 64 + minor % 128 * 2 ^ 57 + bits dpa 6 38 * 2 ^ 19 + root % 4096 * 2 ^ 7 +
    block % 4 * 4 + use % 4)

/-- The node nonce (Table: Node nonce). -/
def nodeNonce (major : Nat) (minor index level root epoch : Nat) : BitVec 128 :=
  BitVec.ofNat 128 (major % 2 ^ 64 * 2 ^ 64 + minor % 128 * 2 ^ 57 + index % 2 ^ 32 * 2 ^ 25 + level % 8 * 2 ^ 22 +
    root % 4096 * 2 ^ 10 + epoch % 256 * 4 + 2)

/-- msb64 of a block. -/
def msb64 (b : BitVec 128) : BitVec 64 := BitVec.ofNat 64 (fld b 64 64)

/-- The GHASH subkey of a key. -/
def hashKey (k : BitVec 256) : BitVec 128 := aesEncrypt k 0

/-- PT, the poison tweak, and KCV, the check value (R232). -/
def poisonTweak (k : BitVec 256) : BitVec 64 := msb64 (aesEncrypt k 1)
def keyCheck (k : BitVec 256) : Nat := fld (aesEncrypt k 2) 104 24

/-- The MAC over 64 bytes with a mask nonce. -/
def macOver (k : BitVec 256) (d : Sector) (nonce : BitVec 128) : BitVec 64 :=
  msb64 (ghash (hashKey k) ((List.range 4).map (sectorBlock d)) ^^^ aesEncrypt k nonce)

/-- Exclusive-or with the keystream of a sector at a version: encryption and decryption alike. -/
def cryptSector (k : BitVec 256) (major minor dpa root : Nat) (d : Sector) : Sector :=
  blocksSector ((List.range 4).map fun j => sectorBlock d j ^^^ aesEncrypt k (dataNonce major minor dpa root j 0))

/-- The tag of a sector's ciphertext at a version. -/
def dataTag (k : BitVec 256) (major minor dpa root : Nat) (c : Sector) : BitVec 64 :=
  macOver k c (dataNonce major minor dpa root 0 1)

/-- The stored tag in slot `i` of a MAC sector: eight bytes, the tag's first byte first. -/
def macAt (m : Sector) (i : Nat) : BitVec 64 := BitVec.ofNat 64 (ofBe (((leBytes m.toNat 64).drop (8 * i)).take 8))

/-- A tag in slot `i` of a MAC sector that is otherwise 0. -/
def macInSector (t : BitVec 64) (i : Nat) : Sector := BitVec.ofNat 512 (ofLe (beBytes t.toNat 8) <<< (64 * i))

/-- The byte mask of slot `i` of a MAC sector. -/
def macMask (i : Nat) : Mask64 := BitVec.ofNat 64 (0xFF <<< (8 * i))

/-- A MAC sector with slot `i` replaced. -/
def putMac (m : Sector) (t : BitVec 64) (i : Nat) : Sector :=
  (m &&& ~~~(BitVec.ofNat 512 ((2 ^ 64 - 1) <<< (64 * i)))) ||| macInSector t i

/-! ### Counter blocks (R238) -/

def cbMajor (n : Sector) : Nat := fld n 448 64
def cbMinor (n : Sector) (c : Nat) : Nat := fld n (7 * c) 7
def cbSetMinor (n : Sector) (c v : Nat) : Sector := setFld n (7 * c) 7 v

/-- A block with a major and all minors equal. -/
def cbUniform (major minor : Nat) : Sector :=
  BitVec.ofNat 512 (major % 2 ^ 64 * 2 ^ 448 + (List.range 64).foldl (fun n c => n + minor % 128 * 2 ^ (7 * c)) 0)

namespace State

/-! ### Pool targets (R18, R341, R342) -/

/-- The pool target that holds a DPA, with its number. -/
def targetOf (s : State) (dpa : Nat) : Option (Nat × Word128) :=
  s.link.targets.find? fun (p : Nat × Word128) =>
    ptValid p.2 && decide (ptDpaBase p.2 ≤ dpa) && decide (dpa < ptDpaBase p.2 + ptDpaSize p.2)

/-- The pool port and pool address of a DPA. -/
def poolAddr (s : State) (dpa : Nat) : Option (Nat × Nat) :=
  (s.targetOf dpa).map fun p => (ptPort p.2, ptPoolBase p.2 + (dpa - ptDpaBase p.2))

/-- An event 9005 counts for its target (object 5101:03). -/
def countTargetFail (s : State) (dpa : Nat) : State :=
  match s.targetOf dpa with
  | none => s
  | some (n, _) => { s with link := { s.link with targetFails := Table.modify 0 s.link.targetFails n fun k => sat32 (k + 1) } }

def portUp (s : State) (p : Nat) : Bool := (s.port p).st == .up

/-- The port of a protected region's target. -/
def rootPort (s : State) (r : Nat) : Nat := ptPort (Table.get 0 s.link.targets (pdTarget (s.protRegion r).desc1))

/-! ### The order on metadata addresses (R246) -/

/-- Whether a metadata access must wait: one of the other kind is out at its address, or waits there before it; a power-fail drain writes no node (R269). -/
def metaHeld (s : State) (before : List MetaOp) (m : MetaOp) : Bool :=
  ((before ++ s.prot.metas.filter (·.out)).any fun x => x.root == m.root && x.addr == m.addr && x.write != m.write) ||
    (s.power.device == .pfDraining && m.write && match m.owner with
      | .node _ _ _ => true
      | _ => false)

/-- Send the metadata accesses whose turn has come, in order; `seen` are those before. -/
def sendMetas (s : State) (seen : List MetaOp) : List MetaOp → State
  | [] => { s with prot := { s.prot with metas := seen } }
  | m :: rest =>
    if m.out || s.metaHeld seen m then s.sendMetas (seen ++ [m]) rest
    else
      let p := s.rootPort m.root
      (s.emit (if m.write then .poolWrite p m.addr m.data m.mask false else .poolRead p m.addr)).sendMetas (seen ++ [{ m with out := true }]) rest

/-- A metadata access takes its place in the order, and leaves when nothing holds it. -/
def metaSend (s : State) (m : MetaOp) : State := s.sendMetas [] (s.prot.metas ++ [m])

/-- The metadata accesses of an owner have ended. -/
def metaDone (s : State) (o : MetaOwner) : State :=
  if s.prot.metas.any (·.owner == o) then s.sendMetas [] (s.prot.metas.filter (·.owner != o)) else s

/-- Whether a metadata access of an owner has not left yet. -/
def metaWaits (s : State) (o : MetaOwner) : Bool := s.prot.metas.any fun m => m.owner == o && !m.out

/-! ### Places in a region -/

def regSize (s : State) (r : Nat) : Nat := pdSize (s.protRegion r).desc1
def regBase (s : State) (r : Nat) : Nat := pdBase (s.protRegion r).desc1

/-- Sector number in a protected region. -/
def regSector (s : State) (r dpa : Nat) : Nat := (dpa - s.regBase r) / 64

def nodeAddr (s : State) (r l i : Nat) : Nat :=
  pdMeta (s.protRegion r).desc0 + 64 * nodePlace (s.regSize r) l i

/-- The address of the MAC sector that holds MAC number `n`. -/
def macSectorAddr (s : State) (r n : Nat) : Nat :=
  pdMeta (s.protRegion r).desc0 + roundUp (64 * nodeTotal (s.regSize r)) 4096 + n / 8 * 64

/-! ### Bindings and states (R228, R251, R252) -/

/-- The protected region of a host region. -/
def regionRoot (s : State) (region : Nat) : Option Nat :=
  match Table.get 0 s.prot.binding region with
  | 0 => none
  | n + 1 => some n

/-- A region becomes POISONED (R251). -/
def poisonRoot (s : State) (r : Nat) : State := s.modProtRegion r fun x => { x with st := .poisoned }

/-- Whether a sector lies below a damaged subtree. -/
def underDamage (s : State) (r q : Nat) : Bool :=
  s.prot.damaged.any fun (x : Nat × Nat × Nat) => x.1 == r && q / 64 ^ x.2.1 == x.2.2

/-- Mark a subtree DAMAGED with event 6002; a 257th in one pound poisons the region with event 6011 (R251). -/
def markDamaged (s : State) (r l i dpa : Nat) : State :=
  let det : Detail := .memory dpa 0 0 r 0 0
  if s.prot.damaged.contains (r, l, i) then s
  else if 256 ≤ (s.prot.damaged.filter fun (x : Nat × Nat × Nat) => x.1 % 2 == r % 2).length then
    (s.poisonRoot r).raise 0x6011 .regionFatal det
  else
    ((({ s with prot := { s.prot with damaged := s.prot.damaged ++ [(r, l, i)] } } : State).modProtRegion r fun x =>
      { x with damaged := true }).raise 0x6002 .regionFatal det)

/-! ### The counter cache (R243, R244) -/

end State

def ccKey (r l i : Nat) : Nat := (r * 8 + l) * 2 ^ 40 + i
def ccRootOf (k : Nat) : Nat := k / 2 ^ 40 / 8
def ccLevelOf (k : Nat) : Nat := k / 2 ^ 40 % 8
def ccIndexOf (k : Nat) : Nat := k % 2 ^ 40

/-- The set of a block. -/
def ccSet (r l i : Nat) : Nat := Nat.xor (Nat.xor i (r * 4)) l % 16384

namespace State

def ccAt (s : State) (r l i : Nat) : Option CcBlock :=
  (s.prot.cc.find? fun (p : Nat × CcBlock) => p.1 == ccKey r l i).map (·.2)

def ccPut (s : State) (r l i : Nat) (b : CcBlock) : State :=
  let k := ccKey r l i
  { s with prot := { s.prot with
      cc := s.prot.cc.filter (fun (p : Nat × CcBlock) => decide (p.1 < k)) ++
        (k, b) :: s.prot.cc.filter fun (p : Nat × CcBlock) => decide (k < p.1) } }

def ccDrop (s : State) (r l i : Nat) : State :=
  { s with prot := { s.prot with cc := s.prot.cc.filter fun (p : Nat × CcBlock) => p.1 != ccKey r l i } }

/-- The number of a block's first 128-bit word in its pound's array. -/
def ccWord (r l i way : Nat) : Nat := (ccSet r l i * 16 + way) * 4

/-- What the checker makes of one word of a resident block: corrected with 6004; the block is dropped with 6005 when it is clean, and with 6006 and the region POISONED when it is dirty. A node that reads poisoned is dropped and its subtree DAMAGED with event 6002 (R251, R282). -/
def ccWordRead (s : State) (r l i : Nat) (b : CcBlock) (src : Source) (p : Sector) (w : Nat) : State × Option Sector :=
  let bk := 352 + r % 2
  let w0 := ccWord r l i b.way
  let e := s.damageAt bk (w0 + w)
  let v := eccCheck e
  let syn := syndromeField v
  let src := s.errSource bk (w0 + w) src
  let det : Detail := .location bk (w0 + w) syn 0
  let s := s.setDamage bk (w0 + w) 0
  let d := (SectorData.mk p 0).through w e
  match v with
  | .uncorrectable _ _ =>
    if b.dirty then
      (((s.ccDrop r l i).poisonRoot r).reportError bk true
        { code := 0x6006, cls := .regionFatal, source := src, detail := .memory 0 0 0 r syn 0 } (w0 + w) syn, none)
    else
      ((s.ccDrop r l i).reportError bk true
        { code := 0x6005, cls := .note, source := src, detail := det } (w0 + w) syn, none)
  | _ =>
    let s := match v with
      | .correctable _ => s.reportError bk false { code := 0x6004, cls := .note, source := src, detail := det } (w0 + w) syn
      | _ => s
    if d.poison != 0 then
      (if l = 0 then s.ccDrop r l i else (s.ccDrop r l i).markDamaged r l i (s.regBase r + i * 64 ^ l * 64), none)
    else (s.ccPut r l i { b with bits := d.data }, some d.data)

/-- A resident block through its checkers, word by word (R251). -/
def ccRead (s : State) (r l i : Nat) (src : Source := .access) (words : List Nat := List.range 4) : State × Option Sector :=
  match s.ccAt r l i with
  | none => (s, none)
  | some b =>
    if b.evicting then (s, none)
    else
      words.foldl (init := (s, some b.bits)) fun (p : State × Option Sector) w =>
        match p with
        | (s, none) => (s, none)
        | (s, some d) =>
          if s.damageAt (352 + r % 2) (ccWord r l i b.way + w) = 0 then (s, some d) else s.ccWordRead r l i b src d w

/-- The root node through its checkers, word by word (R251). -/
def rootRead (s : State) (r : Nat) (src : Source := .access) (words : List Nat := List.range 4) : State :=
  let bk := 354 + r % 2
  words.foldl (fun s w =>
    let e := s.damageAt bk (r * 4 + w)
    if e = 0 then s
    else
      let v := eccCheck e
      let syn := syndromeField v
      let src := s.errSource bk (r * 4 + w) src
      let s := s.setDamage bk (r * 4 + w) 0
      match v with
      | .clean => s
      | .correctable _ =>
        (s.modProtRegion r fun x => { x with rootNode := ((SectorData.mk x.rootNode 0).through w e).data }).reportError bk false
          { code := 0x6004, cls := .note, source := src, detail := .location bk (r * 4 + w) syn 0 } (r * 4 + w) syn
      | .uncorrectable _ _ =>
        (s.poisonRoot r).reportError bk true
          { code := 0x6007, cls := .regionFatal, source := src, detail := .memory 0 0 0 r syn 0 } (r * 4 + w) syn) s

/-- A node's counters through the checkers: the root's in the root store, another's in the counter cache (R251). -/
def nodeRead (s : State) (r l i : Nat) : State × Option Sector :=
  if l = rootLevel (s.regSize r) then
    let s := s.rootRead r
    (s, some (s.protRegion r).rootNode)
  else s.ccRead r l i

/-- A node's counters: the root's in the root store, another's in the counter cache. -/
def nodeBits (s : State) (r l i : Nat) : Option Sector :=
  if l = rootLevel (s.regSize r) then some (s.protRegion r).rootNode
  else match s.ccAt r l i with
    | some b => if b.evicting then none else some b.bits
    | none => none

/-- Change a node that is resident or the root; it becomes dirty. -/
def setNode (s : State) (r l i : Nat) (n : Sector) : State :=
  if l = rootLevel (s.regSize r) then
    (s.modProtRegion r fun x => { x with rootNode := n }).wordsWritten (354 + r % 2) (r * 4) 4
  else match s.ccAt r l i with
    | some b => (s.ccPut r l i { b with bits := n, dirty := true }).wordsWritten (352 + r % 2) (ccWord r l i b.way) 4
    | none => s

/-- The pound's LFSR value after a step, in FREE_RUN mode (R244). -/
def poundLfsr (s : State) (k : Nat) : Nat := if k = 0 then s.prot.lfsr0.toNat else s.prot.lfsr1.toNat

/-- The resident children of a node. -/
def residentChildren (s : State) (r l i : Nat) : List Nat :=
  if l < 2 then []
  else s.prot.cc.filterMap fun (p : Nat × CcBlock) =>
    if ccRootOf p.1 = r && ccLevelOf p.1 = l - 1 && ccIndexOf p.1 / 64 = i && !p.2.evicting then some (ccIndexOf p.1) else none

/-- The MAC of a node at a version, under the tree key. -/
def nodeTag (s : State) (r l i : Nat) (n : Sector) (major minor : Nat) : BitVec 64 :=
  macOver (Config.treeKey s.prot.treeKeys) n (nodeNonce major minor i l r (s.protRegion r).epoch)

/-- Write a tag to the MAC area, and through a resident MAC sector. -/
def writeTag (s : State) (owner : MetaOwner) (r n : Nat) (t : BitVec 64) : State :=
  let s := match s.ccAt r 0 (n / 8) with
    | some b => (s.ccPut r 0 (n / 8) { b with bits := putMac b.bits t (n % 8) }).wordsWritten (352 + r % 2) (ccWord r 0 (n / 8) b.way) 4
    | none => s
  s.metaSend { owner := owner, root := r, addr := s.macSectorAddr r n, write := true, data := macInSector t (n % 8), mask := macMask (n % 8) }

/-- A node and its MAC leave for the pool at a version. -/
def writeNode (s : State) (r l i : Nat) (n : Sector) (major minor : Nat) : State :=
  ((s.metaSend { owner := .node r l i, root := r, addr := s.nodeAddr r l i, write := true, data := n, mask := BitVec.allOnes 64 }).writeTag
    (.node r l i) r (nodeMacIndex (s.regSize r) l i)
    (s.nodeTag r l i n major minor)).count (1568 + 16 * (r % 2) + 8)

/-- The pool reads of a node and of its MAC sector, unless that is resident (R241); behind a write of the node they wait for it (R246). -/
def readNode (s : State) (walk r l i : Nat) : State :=
  let n := nodeMacIndex (s.regSize r) l i
  let s := s.metaSend { owner := .walk walk, root := r, addr := s.nodeAddr r l i }
  if (s.ccAt r 0 (n / 8)).isSome then s else s.metaSend { owner := .walk walk, root := r, addr := s.macSectorAddr r n }

/-- A node overflows: its MAJOR rises and its minors clear; resident children become dirty, never-written ones go out as zero nodes, and the others, those whose write-back is still out among them, are read to be written with new MACs (R249). -/
def overflowNode (s : State) (r l i : Nat) : State :=
  let old := (s.nodeBits r l i).getD 0
  if cbMajor old = 2 ^ 64 - 1 then (s.poisonRoot r).raise 0x600B .regionFatal (.memory 0 0 0 r 0 0)
  else
    let major := cbMajor old + 1
    let s := (s.setNode r l i (cbUniform major 0)).raise 0x6009 .note (.memory 0 0 0 r 0 0)
    let count := (levelsOf (s.regSize r)).getD (l - 2) 0
    let kids := (List.range 64).filter fun c => decide (i * 64 + c < count)
    let resident := s.residentChildren r l i
    let s := resident.foldl (fun s c => match s.ccAt r (l - 1) c with
      | some b => s.ccPut r (l - 1) c { b with dirty := true }
      | none => s) s
    let away := kids.filter fun c => !resident.contains (i * 64 + c)
    let bare (c : Nat) : Bool := cbMajor old = 0 && cbMinor old c = 0
    if away.isEmpty then s
    else
      let s := match s.ccAt r l i with
        | some b => s.ccPut r l i { b with pinned := true }
        | none => s
      let (id, s) := s.fresh
      let read := away.filter fun c => !bare c
      let zeros := away.filter bare
      let w : Walk := { id := id, root := r, q := i * 64 ^ l, top := l, sent := s.now, overflow := some (l, i), old := old
                        kids := read, writes := zeros.map fun c => { index := i * 64 + c, bits := 0 } }
      let s := { s with prot := { s.prot with walks := s.prot.walks ++ [w] } }
      let s := zeros.foldl (fun s c => s.writeNode r (l - 1) (i * 64 + c) 0 major 0) s
      read.foldl (fun s c => s.readNode id r (l - 1) (i * 64 + c)) s

/-- The lowest level, up to the root, at which the path of a sector is resident; `n` bounds the climb. -/
def residentLevel : Nat → State → Nat → Nat → Nat → Nat
  | 0, _, _, _, l => l
  | n + 1, s, r, q, l =>
    if l = rootLevel (s.regSize r) then l
    else match s.ccAt r l (q / 64 ^ l) with
      | some b => if b.evicting then residentLevel n s r q (l + 1) else l
      | none => residentLevel n s r q (l + 1)

/-- Start a walk for an access, or join the one that fetches the same leaf (R241). A walk for a node's parent looks for a resident node from the level above it on. -/
def joinWalk (s : State) (r q : Nat) (op : Option Nat) (above : Nat := 1) : State :=
  let same (w : Walk) : Bool := w.root == r && w.q / 64 == q / 64 && w.overflow.isNone
  let ids := op.toList
  if s.prot.walks.any same then
    { s with prot := { s.prot with walks := mapIf same (fun w => { w with ops := w.ops ++ ids }) s.prot.walks } }
  else
    let (id, s) := s.fresh
    let k := residentLevel 8 s r q above
    let s := if k = rootLevel (s.regSize r) then s.rootRead r else s
    let w : Walk := { id := id, root := r, q := q, top := k, ops := ids, sent := s.now }
    let s := { s with prot := { s.prot with walks := s.prot.walks ++ [w] } }
    let s := if 1 < k then s.count (1568 + 16 * (r % 2) + k) else s
    (List.range (k - 1)).foldl (fun s j =>
      let l := k - 1 - j
      if (s.ccAt r l (q / 64 ^ l)).any (!·.evicting) then s else s.readNode id r l (q / 64 ^ l)) s

/-- Write back a dirty node: its minor in its parent rises, and it leaves with its MAC at the new version; both nodes are read through their checkers (R245, R251). A parent that is not resident is fetched first. With its pool port down the write-back fails at once (R342); a power-fail drain writes no node (R269). -/
def writeBackNode (s : State) (r l i : Nat) (evict : Bool) : State :=
  match s.ccAt r l i with
  | none => s
  | some b =>
    if b.writing || s.power.device == .pfDraining then s
    else
      let pl := l + 1
      let pi := if pl = rootLevel (s.regSize r) then 0 else i / 64
      let (s, own) := s.ccRead r l i
      let (s, above) := s.nodeRead r pl pi
      let poisoned (s : State) : Bool := (s.protRegion r).st == .poisoned
      match own, above with
      | none, _ => s
      | some _, none => if poisoned s then s else s.joinWalk r (i * 64 ^ l) none pl
      | some n, some p =>
        let s := if cbMinor p (i % 64) = 127 && !poisoned s then s.overflowNode r pl pi else s
        if poisoned s then s
        else match s.nodeBits r pl pi with
        | none => s
        | some p =>
          let v := cbMinor p (i % 64) + 1
          let s := s.setNode r pl pi (cbSetMinor p (i % 64) v)
          if s.portUp (s.rootPort r) then
            (s.ccPut r l i { b with bits := n, writing := true, evicting := evict, dirty := evict }).writeNode r l i n (cbMajor p) v
          else
            let s := s.ccPut r l i { b with bits := n, dirty := true, pinned := true, doomed := false, failed := some s.now }
            if b.failed.isSome then s else s.raise 0x600C .contained (.memory 0 0 0 r 0 0)

/-- Free a block: a dirty node is written back first, a clean block goes. -/
def evictBlock (s : State) (r l i : Nat) : State :=
  match s.ccAt r l i with
  | some b => if b.dirty then s.writeBackNode r l i true else s.ccDrop r l i
  | none => s

/-- A node's resident descendants, deepest first; `n` bounds the levels. -/
def descendants : Nat → State → Nat → Nat → Nat → List (Nat × Nat)
  | 0, _, _, _, _ => []
  | n + 1, s, r, l, i =>
    ((s.residentChildren r l i).map fun c => descendants n s r (l - 1) c ++ [(l - 1, c)]).flatten

/-- Whether a child of a node takes up a way, one whose write-back is out among them (R243, R245). -/
def hasChild (s : State) (r l i : Nat) : Bool :=
  decide (2 ≤ l) && s.prot.cc.any fun (p : Nat × CcBlock) => ccRootOf p.1 = r && ccLevelOf p.1 = l - 1 && ccIndexOf p.1 / 64 = i

/-- Free a block with its descendants, deepest first; one whose children are still on their way to the pool stays until they have gone (R244, R245). -/
def evictTree (s : State) (r l i : Nat) : State :=
  (descendants 7 s r l i ++ [(l, i)]).foldl (fun s (x : Nat × Nat) => if s.hasChild r x.1 x.2 then s else s.evictBlock r x.1 x.2) s

/-- The blocks of a set, by the place of one of them; a block whose write-back is out keeps its way (R245). -/
def setBlocks (s : State) (r l i : Nat) : List (Nat × CcBlock) :=
  s.prot.cc.filter fun (p : Nat × CcBlock) =>
    ccRootOf p.1 % 2 == r % 2 && ccSet (ccRootOf p.1) (ccLevelOf p.1) (ccIndexOf p.1) == ccSet r l i

/-- Make room in a full set: an eligible clean block, else an eligible dirty one, else any unpinned way with its descendants, drawn by the pound's LFSR (R244). One victim at a time: a way that is being freed, or that was chosen before, is waited for. -/
def ccMakeRoom (s : State) (r l i : Nat) : State :=
  let here := s.setBlocks r l i
  if here.length < 16 || here.any (·.2.evicting) then s
  else
    let free := here.filter fun p => !p.2.pinned
    let lone := free.filter fun p => !s.hasChild (ccRootOf p.1) (ccLevelOf p.1) (ccIndexOf p.1)
    let clean := lone.filter fun p => !p.2.dirty
    let pool := if !clean.isEmpty then clean else if !lone.isEmpty then lone else free
    let byWay := ((List.range 16).map fun w => pool.filter fun p => p.2.way == w).flatten
    match (here.find? (·.2.doomed)).orElse fun _ => byWay[s.poundLfsr (r % 2) % byWay.length]? with
    | none => s
    | some p =>
      let r' := ccRootOf p.1
      let l' := ccLevelOf p.1
      let i' := ccIndexOf p.1
      (s.ccPut r' l' i' { p.2 with doomed := true }).evictTree r' l' i'

/-- Install a block in a free way of its set; false where none has become free yet (R245). -/
def ccInstall (s : State) (r l i : Nat) (n : Sector) (dirty : Bool) : State × Bool :=
  let s := s.ccMakeRoom r l i
  let used := (s.setBlocks r l i).map (·.2.way)
  match (List.range 16).find? fun w => !used.contains w with
  | none => (s, false)
  | some way => ((s.ccPut r l i { bits := n, way := way, dirty := dirty }).wordsWritten (352 + r % 2) (ccWord r l i way) 4, true)

/-! ### Keys (R251, R257) -/

/-- The key slot that an access to a sector uses (R257). -/
def slotFor (s : State) (r dpa : Nat) : Nat :=
  let x := s.protRegion r
  if x.reknitting && decide (dpa < x.needle) then x.newSlot else pdKeySlot x.desc1

/-- The other pound's copy, when this one's error cannot be corrected: the slot is restored with event 6010, or every region bound to it is POISONED with event 6007 (R251). Tells whether the key can be used now. -/
def useKey (s : State) (k slot : Nat) (src : Source := .access) (words : List Nat := List.range 2) : State × Bool :=
  if (s.keySlot slot).restoring == some k then (s, false)
  else
    words.foldl (init := (s, true)) fun (p : State × Bool) h =>
      let (s, ok) := p
      let w := slot * 2 + h
      let e := s.damageAt (356 + k) w
      if e = 0 || !ok then p
      else
        let v := eccCheck e
        let syn := syndromeField v
        let src := s.errSource (356 + k) w src
        let det : Detail := .location (356 + k) w syn 0
        match v with
        | .clean => p
        | .correctable _ =>
          ((s.setDamage (356 + k) w 0).reportError (356 + k) false { code := 0x6004, cls := .note, source := src, detail := det } w syn, true)
        | .uncorrectable _ _ =>
          let other := match eccCheck (s.damageAt (356 + (1 - k)) w) with
            | .uncorrectable _ _ => true
            | _ => false
          if other then
            let s := s.prot.regions.foldl (fun s (x : Nat × ProtRegion) =>
              if (x.2.st == .active || x.2.st == .dormant) && (pdKeySlot x.2.desc1 == slot || (x.2.reknitting && x.2.newSlot == slot)) then s.poisonRoot x.1 else s) s
            (s.reportError (356 + k) true { code := 0x6007, cls := .regionFatal, source := src, detail := .memory 0 0 0 0 syn 0 } w syn, false)
          else
            ((s.modKeySlot slot fun x => { x with restoring := some k }).reportError (356 + k) true
              { code := 0x6010, cls := .note, source := src, detail := det } w syn, false)

/-! ### Reads at the pound (R237, R240, R241, R246) -/

/-- Data goes to a miss register of a slice. -/
def modReg (s : State) (k id : Nat) (f : MissReg → MissReg) : State :=
  s.modSlice k fun x => { x with missRegs := mapIf (·.id == id) f x.missRegs }

/-- A read has its data. -/
def returnRead (s : State) (use : ReadUse) (d : SectorData) : State :=
  match use with
  | .miss k reg next => s.modReg k reg fun m => if next then { m with prefetchData := some d } else { m with demandData := some d }
  | _ => s

def modOp (s : State) (id : Nat) (f : PoolOp → PoolOp) : State :=
  { s with prot := { s.prot with ops := mapIf (·.id == id) f s.prot.ops } }

/-- A pool access has ended, with what it had at metadata addresses. -/
def dropOp (s : State) (id : Nat) : State :=
  ({ s with prot := { s.prot with ops := s.prot.ops.filter (·.id != id) } } : State).metaDone (.op id)

/-- The data that comes with a poison mark. -/
def poisonFor (dpa : Nat) : SectorData := { data := Config.poisonData (sectorOf dpa), poison := 0xF }

/-- A read that failed, or found its port down (R251, R342). -/
def failRead (s : State) (o : PoolOp) : State :=
  let det : Detail := .memory o.dpa 0 o.region (o.root.getD 0) 0 0
  let s := s.dropOp o.id
  let s := if o.root.isSome then s.raise 0x6003 .contained det else (s.countTargetFail o.dpa).raise 0x9005 .contained det
  s.returnRead o.use (poisonFor o.dpa)

/-- Whether a read of an address is held back by a write that has its version and has not completed (R246). -/
def readHeld (s : State) (o : PoolOp) : Bool :=
  s.prot.ops.any fun x => x.write && sectorOf x.dpa == sectorOf o.dpa && x.encrypted

/-- A data read leaves for its pool port, with the read of its MAC sector (R27, R342). -/
def sendRead (s : State) (o : PoolOp) (stage : PoolStage) : State :=
  match s.poolAddr o.dpa with
  | none => s.failRead o
  | some (p, a) =>
    if !s.portUp p then s.failRead o
    else
      let s := (s.modOp o.id fun o => { o with stage := stage, sent := s.now }).emit (.poolRead p a)
      match o.root with
      | some r =>
        if (s.ccAt r 0 (s.regSector r o.dpa / 8)).isSome then s
        else s.metaSend { owner := .op o.id, root := r, addr := s.macSectorAddr r (s.regSector r o.dpa) }
      | none => s

/-- The version of a sector, when its leaf is resident: through the checkers (R240). -/
def leafVersion (s : State) (r q : Nat) : State × Option (Nat × Nat) :=
  let (s, n) := s.ccRead r 1 (q / 64)
  (s, n.map fun n => (cbMajor n, cbMinor n (q % 64)))

/-- Whether a page of a region is held by a re-encryption (R248). -/
def pageHeld (s : State) (r q : Nat) : Bool := s.prot.pages.any fun j => j.root == r && j.page == q / 64

/-- A read at the pound: answered at once for poisoned and never-written sectors, sent at its version, or sent with a walk. -/
def poundRead (s : State) (o : PoolOp) : State :=
  let hold (s : State) : State := s.modOp o.id fun o => { o with stage := .held }
  match o.root with
  | none => if s.readHeld o then hold s else s.sendRead o .out
  | some r =>
    let q := s.regSector r o.dpa
    let x := s.protRegion r
    if x.st != .active || s.underDamage r q then (s.dropOp o.id).returnRead o.use (poisonFor o.dpa)
    else if s.pageHeld r q || s.readHeld o then hold s
    else
      let (s, v) := s.leafVersion r q
      match v with
      | none =>
        let s := s.count (1568 + 16 * (r % 2) + 1)
        if (s.protRegion r).st != .active then (s.dropOp o.id).returnRead o.use (poisonFor o.dpa)
        else ((s.joinWalk r q (some o.id)).modOp o.id fun o => { o with slot := some (s.slotFor r o.dpa) }).sendRead
          { o with slot := some (s.slotFor r o.dpa) } .walking
      | some (ma, mi) =>
        let s := s.count (1568 + 16 * (r % 2))
        if ma = 0 && mi = 0 then (s.dropOp o.id).returnRead o.use {}
        else
          let k := s.slotFor r o.dpa
          let (s, ok) := s.useKey (r % 2) k
          if (s.protRegion r).st != .active then (s.dropOp o.id).returnRead o.use (poisonFor o.dpa)
          else if !ok then hold s
          else
            let s := s.modOp o.id fun o => { o with major := BitVec.ofNat 64 ma, minor := mi, slot := some k }
            s.sendRead { o with major := BitVec.ofNat 64 ma, minor := mi, slot := some k } .out

/-- A slice's read leaves for the pool (R61, R228). -/
def submitRead (s : State) (origin : Origin) (dpa region svc : Nat) (use : ReadUse) : State :=
  let (s, known) := s.control 373
  if !known then s else
  let (id, s) := s.fresh
  let root := if origin == .reknit then s.prot.reknitRoot else s.regionRoot region
  let o : PoolOp := { id := id, dpa := dpa, region := region, svc := svc, use := use, root := root }
  ({ s with prot := { s.prot with ops := s.prot.ops ++ [o] } } : State).poundRead o

/-- The protected region of a sector that the home poisons without a request: by the reverse map, ACTIVE intervals before RETIRED ones (R228). -/
def poisonBinding (s : State) (dpa : Nat) : Option Nat :=
  let on (i : RevInterval) : Bool := decide (i.kind = 0) && decide (i.base ≤ dpa >>> 21) && decide (dpa >>> 21 < i.base + i.units)
  match (s.home.revMap.find? fun i => on i && !i.retired).orElse fun _ => s.home.revMap.find? on with
  | some i => if i.protect then some i.root else none
  | none => none

/-- A slice's write leaves for the pool; it takes its version when it reaches the pound (R242). -/
def submitWrite (s : State) (dpa region svc : Nat) (w : WriteData) (entries : List Nat) (poisonWrite : Bool) : State :=
  let (s, known) := s.control 373
  if !known then s else
  let (id, s) := s.fresh
  let rk := s.slices.any fun (k : Nat × Slice) => k.2.writeBuf.any fun e => entries.contains e.id && e.origin == .reknit
  let root := if rk then s.prot.reknitRoot else if poisonWrite && region = 0 then s.poisonBinding dpa else s.regionRoot region
  let o : PoolOp := { id := id, write := true, dpa := dpa, region := region, svc := svc, w := w, entries := entries
                      poisonWrite := poisonWrite, root := root, rk := rk }
  { s with prot := { s.prot with ops := s.prot.ops ++ [o] } }

end State
end Sys2Proof.Machine
end

