-- ==== Sys2Proof/Machine/Slice.lean ====
section
/-! DEFINITION. The cache slices: home hash, tags, victims, reads and misses, the write buffer and merge buffer, atomics in the block, moored ways, drydock and slice errors (R51 to R81). -/

namespace Sys2Proof.Machine

/-! ### Where a sector lives (R52, R75) -/

/-- The home slice of a DPA. -/
def homeSlice (dpa : Nat) : Nat :=
  Nat.xor (Nat.xor (Nat.xor (bits dpa 10 6) (bits dpa 16 6)) (Nat.xor (bits dpa 22 6) (bits dpa 28 6)))
    (Nat.xor (bits dpa 34 6) (bits dpa 40 5))

def cacheSet (dpa : Nat) : Nat := bits dpa 16 12

def cacheTag (dpa : Nat) : Nat := bits dpa 28 17

/-- The way that holds a moored sector. -/
def mooredWay (dpa : Nat) : Nat := 15 - bits dpa 28 4

def tagKey (slice set way : Nat) : Nat := (slice * 4096 + set) * 16 + way

/-- The DPA of the first sector of the block that a tag entry names (R52). -/
def blockDpa (slice set tag : Nat) : Nat :=
  let hi := tag * 2 ^ 28 + set * 2 ^ 16
  hi + Nat.xor slice (homeSlice hi) * 2 ^ 10

/-- One LFSR step (R57). -/
def lfsrStep (x : BitVec 16) : BitVec 16 :=
  let f := ((x.getLsbD 15 ^^ x.getLsbD 13) ^^ x.getLsbD 12) ^^ x.getLsbD 10
  (x <<< 1) ||| BitVec.ofNat 16 (bit f)

namespace State

def tagAt (s : State) (k set way : Nat) : TagEntry := Table.get {} s.cache.tags (tagKey k set way)

def setTag (s : State) (k set way : Nat) (t : TagEntry) : State :=
  ({ s with cache := { s.cache with tags := Table.set {} s.cache.tags (tagKey k set way) t } } : State).wordWritten
    (64 + k) (set * 16 + way)

/-- Fields of a block's tag entry change; the block stays. -/
def updateTag (s : State) (k set way : Nat) (t : TagEntry) : State :=
  ({ s with cache := { s.cache with tags := Table.set {} s.cache.tags (tagKey k set way) t } } : State).wordUpdated
    (64 + k) (set * 16 + way)

def wayMode (s : State) (k way : Nat) : WayMode := Table.get .cache s.cache.modes (k * 16 + way)

def setWayMode (s : State) (k way : Nat) (m : WayMode) : State :=
  { s with cache := { s.cache with modes := Table.set .cache s.cache.modes (k * 16 + way) m } }

def cacheOn (s : State) : Bool := s.cache.st == .enabled

/-- The slice's LFSR steps after a victim choice in STEP_ON_ALLOC mode (R57). -/
def lfsrAfterChoice (s : State) (k : Nat) : State :=
  if s.inEffect 0x2220 1 = 1 then s.modSlice k fun x => { x with lfsr := lfsrStep x.lfsr } else s

/-- An element of a nonempty list drawn by the slice's LFSR (R58, R114). -/
def draw (s : State) (k : Nat) (l : List Nat) : Nat := l.getD ((s.slice k).lfsr.toNat % l.length) 0

/-! ### Slice errors and drydock (R78, R79, R81) -/

/-- The CACHE ways of a slice. -/
def cacheWays (s : State) (k : Nat) : List Nat := (List.range 16).filter fun w => s.wayMode k w == .cache

/-- Invalidate a block: its sectors are INVALID at once, a FILLING one when its fill arrives and installs nothing (R56). -/
def dropBlock (s : State) (k set way : Nat) : State :=
  let t := s.tagAt k set way
  let here (r : MissReg) : Bool := r.way == some way && cacheSet r.dpa == set
  let stale (m : FillMark) : FillMark := if m == .none then .stale else m
  if t = {} then s
  else if t.sf = 0 then s.setTag k set way {}
  else (s.setTag k set way { t with sv := 0 }).modSlice k fun x => { x with
    missRegs := mapIf here (fun r => { r with demandMark := stale r.demandMark, prefetchMark := stale r.prefetchMark }) x.missRegs }

/-- Invalidate the blocks of a way in a slice; a sector that is FILLING follows when its fill arrives (R56, R79). -/
def dropWay (s : State) (k way : Nat) : State :=
  { s with cache := { s.cache with
      tags := s.cache.tags.filterMap fun p =>
        if p.1 % 16 = way && p.1 / 16 / 4096 = k then
          if p.2.sf = 0 then none else some (p.1, { p.2 with sv := 0 })
        else some p } }

/-- Add to a way's drydock bucket; an overflow has the outcome of R79 and gives its event. -/
def drydockAdd (s : State) (k way amount : Nat) : State × Option Event :=
  let level := Table.get 0 s.cache.drydock (k * 16 + way) + amount
  let put (s : State) (v : Nat) : State :=
    { s with cache := { s.cache with drydock := Table.set 0 s.cache.drydock (k * 16 + way) v } }
  if level < s.reg 0x2230 1 then (put s level, none)
  else
    let s := put s 0
    let ev (code : Nat) : Event := { code := code, cls := .degraded, detail := .location k way 0 0 }
    match s.wayMode k way with
    | .cache =>
      if 3 ≤ (s.cacheWays k).length then ((s.setWayMode k way .drydocked).dropWay k way, some (ev 0x2004))
      else (s, some (ev 0x2005))
    | .moored => (s, some (ev 0x2006))
    | _ => (s, none)

/-- Report an error in a way: per-structure bucket, drydock bucket and the one record of R7 and R79. -/
def wayError (s : State) (k way bucket : Nat) (ue : Bool) (e : Event) (index syndrome : Nat) : State :=
  let (s, spilled) := s.drydockAdd k way (if ue then s.reg 0x2230 3 else 1)
  s.reportError bucket ue e index syndrome spilled


end State

/-- The number of a 128-bit data word in its slice. -/
def dataWord (set way sector word : Nat) : Nat := ((set * 16 + way) * 16 + sector) * 4 + word

namespace State

/-- The DETAIL of a slice event: DPA, context, region, syndrome and word. -/
def sliceDetail (dpa ctx region syn word : Nat) : Detail := .memory dpa ctx region 0 syn word

/-- Check a tag entry as a lookup does: a parity error, or SV = SF = 1, drops the block with event 2001 (R81). -/
def checkTag (s : State) (k set way dpa : Nat) (src : Source) : State :=
  let bad := s.damageAt (64 + k) (set * 16 + way) != 0 ||
    ((s.tagAt k set way).sv &&& (s.tagAt k set way).sf) != 0
  if bad then
    let src := s.errSource (64 + k) (set * 16 + way) src
    let s := s.setDamage (64 + k) (set * 16 + way) 0
    let s := s.dropBlock k set way
    s.wayError k way (64 + k) false
      { code := 0x2001, cls := .note, source := src, detail := sliceDetail dpa 0 0 0 0 } (set * 16 + way) 0
  else s

/-- The CACHE way that holds a block, after the parity of the set's entries is checked (R54, R81). -/
def lookupTag (s : State) (k dpa : Nat) : State × Option Nat :=
  let set := cacheSet dpa
  let ways := s.cacheWays k
  let s := ways.foldl (fun s w => s.checkTag k set w dpa .access) s
  (s, ways.find? fun w => (s.tagAt k set w).bv && (s.tagAt k set w).tag == cacheTag dpa)

/-! ### Data words -/

def dataAt (s : State) (k set way sector : Nat) : SectorData :=
  Table.get {} s.cache.data (tagKey k set way * 16 + sector)

def putData (s : State) (k set way sector : Nat) (d : SectorData) : State :=
  { s with cache := { s.cache with
      data := Table.set {} s.cache.data (tagKey k set way * 16 + sector) d } }

end State

/-- The sector mask of a sector number. -/
def sectorBit (n : Nat) : BitVec 16 := BitVec.ofNat 16 (2 ^ n)

/-- One 128-bit word of a sector. -/
def wordOf (d : Sector) (w : Nat) : Word128 := BitVec.ofNat 128 (d.toNat >>> (128 * w))

/-- A sector with the bytes of a mask taken from `w` and the others from `d`. -/
def mergeBytes (d w : Sector) (mask : Mask64) : Sector :=
  let m : Sector := BitVec.ofNat 512
    ((List.range 64).foldl (fun n i => if mask.getLsbD i then n + 0xFF * 2 ^ (8 * i) else n) 0)
  (d &&& ~~~m) ||| (w &&& m)

/-- Whether a mask covers its sector. -/
def fullMask (m : Mask64) : Bool := m == BitVec.allOnes 64

/-- The part of a mask that lies in one word. -/
def wordMask (m : Mask64) (w : Nat) : Nat := fld m (16 * w) 16

namespace SectorData

/-- A sector leaves poisoned when any of its words is (R280). -/
def isPoisoned (d : SectorData) : Bool := d.poison != 0

end SectorData

/-- A sector whose four words are all poisoned, as a poisoned arrival leaves it (R280). -/
def poisonedSector (d : Sector) : SectorData := { data := d, poison := 0xF }

namespace State

/-- Read words of a sector through their checkers. For a cache way an error drops the block and tells whether the data may be delivered; a moored way is rewritten corrected or delivers poison (R81). -/
def readWords (s : State) (ws : List Nat) (k set way sector dpa ctx region : Nat) (moored : Bool) (by_ : Source) :
    State × SectorData × Bool :=
  ws.foldl (init := (s, s.dataAt k set way sector, true)) fun (s, d, ok) w =>
    let n := dataWord set way sector w
    let e := s.damageAt k n
    if e = 0 then (s, d, ok)
    else
      let v := eccCheck e
      let src := s.errSource k n by_
      let d' := d.through w e
      match v with
      | .clean => ((s.putData k set way sector d').setDamage k n 0, d', ok)
      | .correctable _ =>
        let ev : Event := { code := 0x2002, cls := .note, source := src
                            detail := sliceDetail dpa ctx region (syndromeField v) w }
        if moored then
          (((s.putData k set way sector d').setDamage k n 0).wayError k way k false ev n (syndromeField v), d', ok)
        else ((s.setDamage k n 0 |>.dropBlock k set way).wayError k way k false ev n (syndromeField v), d', ok)
      | .uncorrectable _ _ =>
        if moored then
          (s.wayError k way k true
            { code := if by_ == .scrub then 0x7009 else 0x2007, cls := .contained, source := src
              detail := sliceDetail dpa ctx region (syndromeField v) w } n (syndromeField v), d', ok)
        else
          ((s.setDamage k n 0 |>.dropBlock k set way).wayError k way k true
            { code := 0x2003, cls := .note, source := src
              detail := sliceDetail dpa ctx region (syndromeField v) w } n (syndromeField v), d', false)

/-- The whole sector as its four words stand. -/
def readWays (s : State) (k set way sector dpa ctx region : Nat) (moored : Bool) (src : Source) : State × SectorData × Bool :=
  s.readWords (List.range 4) k set way sector dpa ctx region moored src

/-- The old word of a moored sector that a partial write merges into, through its checker: a correctable one merges corrected; over an uncorrectable or poisoned one the merged word is written with P = 1 (R278). -/
def mergeOldWord (s : State) (k way dpa ctx region n i : Nat) (d : SectorData) : State × SectorData :=
  let e := s.damageAt k n
  let v := eccCheck e
  let src := s.errSource k n .access
  let d := d.through i e
  let s := s.wordWritten k n
  let ev (code : Nat) (cls : FaultClass) : Event :=
    { code := code, cls := cls, source := src, detail := sliceDetail dpa ctx region (syndromeField v) i }
  match v with
  | .uncorrectable _ _ => (s.wayError k way k true (ev 0x700D .contained) n (syndromeField v), d)
  | .correctable _ =>
    let s := s.wayError k way k false (ev 0x2002 .note) n (syndromeField v)
    (if d.poison.getLsbD i then s.logEvent (ev 0x700D .contained) else s, d)
  | .clean => (if d.poison.getLsbD i then s.logEvent (ev 0x700D .contained) else s, d)

/-- Write the bytes of a mask into a sector of a way, word by word: a word covered in full takes the poison that comes with the data, and a word covered in part is read, modified and written (R275, R278). -/
def writeWays (s : State) (k set way sector dpa ctx region : Nat) (w : WriteData) (moored : Bool) : State :=
  let (s, old) := (List.range 4).foldl (init := (s, s.dataAt k set way sector)) fun (s, d) i =>
    let m := wordMask w.mask i
    let n := dataWord set way sector i
    let b : BitVec 4 := BitVec.ofNat 4 (2 ^ i)
    if m = 0 then (s, d)
    else if m = 0xFFFF then (s.wordWritten k n, { d with poison := if w.poison then d.poison ||| b else d.poison &&& ~~~b })
    else if moored && (s.damageAt k n != 0 || d.poison.getLsbD i) then s.mergeOldWord k way dpa ctx region n i d
    else (s.wordWritten k n, d)
  s.putData k set way sector { old with data := mergeBytes old.data w.data w.mask }

/-! ### Victims (R58, R59) -/

/-- Whether a way is eligible as a victim. -/
def eligible (s : State) (k set way : Nat) : Bool :=
  s.wayMode k way == .cache && (s.tagAt k set way).sf == 0 &&
    !s.cache.atomicHold.contains (tagKey k set way)

/-- Choose a victim way of a set. -/
def chooseVictim (s : State) (k set : Nat) : Option Nat :=
  let pool := (List.range 16).filter (s.eligible k set)
  let free := pool.filter fun w => !(s.tagAt k set w).bv
  match pool, free with
  | [], _ => none
  | _, [] => some (s.draw k pool)
  | _, f => some (s.draw k f)

/-- Take a way for a block: the resident way, or a victim, whose block is dropped (R58). -/
def takeWay (s : State) (k dpa : Nat) (resident : Option Nat) (pfo : Bool) : State × Option Nat :=
  match resident with
  | some w => (s, some w)
  | none =>
    match s.chooseVictim k (cacheSet dpa) with
    | none => (s, none)
    | some w =>
      let s := s.lfsrAfterChoice k
      (s.setTag k (cacheSet dpa) w { bv := true, tag := cacheTag dpa, pfo := pfo }, some w)

/-- Mark a sector FILLING. -/
def setFilling (s : State) (k dpa way : Nat) : State :=
  let t := s.tagAt k (cacheSet dpa) way
  s.updateTag k (cacheSet dpa) way { t with
    sf := t.sf ||| sectorBit (sectorInBlock dpa), sv := t.sv &&& ~~~sectorBit (sectorInBlock dpa) }

/-! ### Reads (R60 to R65) -/

/-- Room for one more write (R68). -/
def wbRoom (s : State) (k : Nat) : Bool := (s.slice k).writeBuf.length < 128

/-- Whether the write buffer holds an entry for a sector. -/
def wbHolds (s : State) (k dpa : Nat) : Bool :=
  (s.slice k).writeBuf.any fun e => sectorOf e.dpa == sectorOf dpa

end State

/-- The sector after a sector. -/
def nextSector (dpa : Nat) : Nat := sectorOf dpa + 64

/-- Whether a register is to fill a sector, as demand or as prefetch. -/
def MissReg.covers (r : MissReg) (dpa : Nat) : Bool :=
  (sectorOf r.dpa == sectorOf dpa && !r.demandDone) || (r.prefetch && !r.prefetchDone && nextSector r.dpa == sectorOf dpa)

/-- The mark on the sector of a register. -/
def MissReg.markOf (r : MissReg) (dpa : Nat) : FillMark :=
  if sectorOf r.dpa == sectorOf dpa then r.demandMark else r.prefetchMark

/-- Whether a register has its 15 merged requests (R61). -/
def MissReg.full (m : MissReg) : Bool := 15 ≤ m.merged.length + m.mergedNext.length

/-- How a read stands after its lookup. -/
inductive SliceRead where
  | data (d : SectorData)
  /-- A miss register holds it. -/
  | register
  /-- It waits in the miss-wait queue. -/
  | queued
  /-- The miss-wait queue has no room for it. -/
  | full
  deriving DecidableEq, Repr

namespace State

/-- Whether the next sector of a demand rides along (R64). -/
def wantsPrefetch (s : State) (r : Req) : Bool :=
  r.cached && r.kind == 0 && s.cacheOn && s.reg 0x2200 5 = 1

/-- Whether a sector is VALID or FILLING in a way. -/
def sectorBusy (s : State) (k dpa way : Nat) : Bool :=
  let t := s.tagAt k (cacheSet dpa) way
  t.sv.getLsbD (sectorInBlock dpa) || t.sf.getLsbD (sectorInBlock dpa)

/-- Issue the pool reads of a register whose demand sector may be read now: take a way, mark the sectors FILLING, and let the next sector ride along (R56, R61, R64). -/
def startFill (s : State) (k : Nat) (m : MissReg) (resident : Option Nat) : State :=
  let r := m.req
  let install := s.cacheOn && (r.cached || r.cls == .atomic) && m.use != .merge
  let (s, way) := if install then s.takeWay k m.dpa resident (m.use == .prefetch && resident.isNone) else (s, none)
  let s := match way with
    | some w => s.setFilling k m.dpa w
    | none => s
  let ride := match way with
    | some w =>
      m.use == .demand && s.wantsPrefetch r && sectorInBlock m.dpa != 15 &&
        !s.sectorBusy k (nextSector m.dpa) w && !s.wbHolds k (nextSector m.dpa)
    | none => false
  let s := match way, ride with
    | some w, true => (s.setFilling k (nextSector m.dpa) w).count (16 * k + 3)
    | _, _ => s
  let hand := way.isSome && m.use == .demand && s.wantsPrefetch r && sectorInBlock m.dpa == 15 &&
    bits m.dpa 10 11 != 0x7FF
  let s := if hand then
      { s with cache := { s.cache with handoffs := s.cache.handoffs ++ [(nextSector m.dpa, r.region, r.svc)] } }
    else s
  let m := { m with way := way, prefetch := ride, stage := .fetching }
  let s := s.modSlice k fun x => { x with missRegs := x.missRegs.filter (·.id ≠ m.id) ++ [m] }
  let s := s.submitRead m.req.origin (sectorOf m.dpa) r.region r.svc (.miss k m.id false)
  if ride then s.submitRead m.req.origin (nextSector m.dpa) r.region r.svc (.miss k m.id true) else s

/-- A read that misses takes a register, or waits for one (R61 to R63). -/
def takeRegister (s : State) (k : Nat) (r : Req) (use : MissUse) (resident : Option Nat) : State :=
  let (id, s) := s.fresh
  let s := if use == .demand then s.count (16 * k + 1) else s
  let m : MissReg := { id := id, use := use, dpa := sectorOf r.dpa, req := r }
  if use != .merge && s.wbHolds k r.dpa then
    s.modSlice k fun x => { x with missRegs := x.missRegs ++ [{ m with stage := .waitWriteBuffer }] }
  else s.startFill k m resident

/-- The register that a read may merge into (R61). -/
def mergeable (s : State) (k dpa : Nat) : Option MissReg :=
  (s.slice k).missRegs.find? fun m =>
    m.covers dpa && m.use != .merge && m.markOf dpa == .none && m.stage != .waitWay

/-- Merge a request into a register. -/
def mergeInto (s : State) (k : Nat) (m : MissReg) (r : Req) : State :=
  (s.count (16 * k + 2)).modSlice k fun x => { x with
    missRegs := mapIf (·.id == m.id)
      (fun m => if sectorOf m.dpa == sectorOf r.dpa then { m with merged := m.merged ++ [r] }
        else { m with mergedNext := m.mergedNext ++ [r] }) x.missRegs }

/-- A read that missed: merge, take a register or queue, while the queue of 32 has room (R61, R62). -/
def readMiss (s : State) (k : Nat) (r : Req) (resident : Option Nat) : State × SliceRead :=
  let queue (s : State) : State × SliceRead :=
    if 32 ≤ (s.slice k).missWait.length then (s, .full)
    else (s.modSlice k fun x => { x with missWait := x.missWait ++ [r] }, .queued)
  match s.mergeable k r.dpa with
  | some m => if m.full then queue s else (s.mergeInto k m r, .register)
  | none => if 64 ≤ (s.slice k).missRegs.length then queue s else (s.takeRegister k r .demand resident, .register)

/-- A demand hits a block: the first to hit a prefetched one counts a useful prefetch (R54, R60). -/
def takePrefetch (s : State) (k set way : Nat) : State :=
  let t := s.tagAt k set way
  if t.pfo then (s.updateTag k set way { t with pfo := false }).count (16 * k + 4) else s

/-- A read of a sector at its home slice (R56, R60, R76). -/
def sliceRead (s : State) (k : Nat) (r : Req) : State × SliceRead :=
  let set := cacheSet r.dpa
  let sec := sectorInBlock r.dpa
  if isMoored r.dpa then
    let (s, d, _) := s.readWays k set (mooredWay r.dpa) sec r.dpa r.ctx r.region true .access
    (s.count (16 * k), .data d)
  else if s.cacheOn then
    let (s, way) := s.lookupTag k r.dpa
    match way with
    | some w =>
      if (s.tagAt k set w).sv.getLsbD sec then
        let (s, d, ok) := s.readWays k set w sec r.dpa r.ctx r.region false .access
        if ok then
          ((s.count (16 * k)).takePrefetch k set w, .data d)
        else s.readMiss k r none
      else s.readMiss k r (some w)
    | none => s.readMiss k r none
  else s.readMiss k r none

/-! ### Writes (R67 to R71) -/

/-- A write marks the registers that are to fill its sector: no later read merges into them (R56, R61). -/
def markFills (s : State) (k dpa : Nat) (mk : FillMark) : State :=
  if (s.slice k).missRegs.any (·.covers dpa) then
    s.modSlice k fun x => { x with
      missRegs := mapIf (fun m => m.covers dpa && m.markOf dpa == .none && m.use != .merge)
        (fun m => if sectorOf m.dpa == sectorOf dpa then { m with demandMark := mk } else { m with prefetchMark := mk })
        x.missRegs }
  else s

/-- Update the block that a write reaches; a write that carries poison only takes the sector out (R56, R67). -/
def updateBlock (s : State) (k : Nat) (r : Req) (w : WriteData) : State :=
  if !s.cacheOn then s.markFills k r.dpa .stale
  else
    let set := cacheSet r.dpa
    let sec := sectorInBlock r.dpa
    let b := sectorBit sec
    let (s, way) := s.lookupTag k r.dpa
    match way with
    | none => s.markFills k r.dpa .stale
    | some wy =>
      let t := s.tagAt k set wy
      let valid := t.sv.getLsbD sec
      let filling := t.sf.getLsbD sec
      let s := s.markFills k r.dpa (if filling && !w.poison && fullMask w.mask then .discard else .stale)
      if w.poison then
        if valid then s.updateTag k set wy { t with sv := t.sv &&& ~~~b } else s
      else if fullMask w.mask then
        (s.updateTag k set wy { t with sv := t.sv ||| b, sf := t.sf &&& ~~~b }).writeWays k set wy sec r.dpa r.ctx r.region w false
      else if valid then
        let parts := (List.range 4).filter fun i => wordMask w.mask i != 0 && wordMask w.mask i != 0xFFFF
        let hurt := parts.filter fun i => s.damageAt k (dataWord set wy sec i) != 0
        let (s, d, _) := s.readWords hurt k set wy sec r.dpa r.ctx r.region false .access
        if parts.any fun i => d.poison.getLsbD i then s.dropBlock k set wy
        else if hurt.isEmpty then s.writeWays k set wy sec r.dpa r.ctx r.region w false
        else s
      else s

/-- A sector that its cache holds VALID becomes INVALID (R72, R277). -/
def invalidateSector (s : State) (k dpa : Nat) : State :=
  if !s.cacheOn then s
  else
    let (s, way) := s.lookupTag k dpa
    match way with
    | some w =>
      let t := s.tagAt k (cacheSet dpa) w
      if t.sv.getLsbD (sectorInBlock dpa) then
        s.updateTag k (cacheSet dpa) w { t with sv := t.sv &&& ~~~sectorBit (sectorInBlock dpa) }
      else s
    | none => s

/-- PROTECT of the region that a write belongs to, by its binding (R36, R228). -/
def regionProtected (s : State) (r : Nat) : Bool := (s.regionRoot r).isSome

/-- Whether a pool write to a sector is in flight (R71). -/
def writeInFlight (s : State) (dpa : Nat) : Bool :=
  s.prot.ops.any fun o => o.write && sectorOf o.dpa == sectorOf dpa

/-- A pool write as it comes out of a slice buffer and of the crossing into its protection pound: a word that was lost on the way makes it a full-sector poisoned write, and its sector leaves the cache (R277, R281). -/
def leaveSlice (s : State) (k dpa buf : Nat) (w : WriteData) : State × WriteData :=
  let (s, x) := s.payloadWrite k (sliceBuffer buf) w
  let (s, x) := s.payloadWrite 373 0 x
  if x.poison && !w.poison then
    (s.invalidateSector k dpa, { x with data := mergeBytes 0 x.data x.mask, mask := BitVec.allOnes 64 })
  else (s, x)

/-- Send buffered entries of one sector to the pool as one write; their data comes from buffer `buf`. -/
def sendWrite (s : State) (k dpa region svc : Nat) (w : WriteData) (ids : List Nat) (poisonWrite : Bool) (buf : Nat) : State :=
  let (s, w) := s.leaveSlice k dpa buf w
  (s.modSlice k fun x => { x with
    writeBuf := mapIf (fun e => ids.contains e.id) (fun e => { e with stage := .sent }) x.writeBuf }).submitWrite
      (sectorOf dpa) region svc w ids poisonWrite

/-- The oldest merge entry of a sector. -/
def mergeOf (s : State) (k dpa : Nat) : Option MergeEntry :=
  (s.slice k).mergeBuf.find? fun e => sectorOf e.dpa == sectorOf dpa

/-- Complete the oldest merge entry of a sector, once it is closed: a full sector, a masked write, a fill from the cache, or a pool read of the sector first (R70), which a power-fail drain no longer issues (R428). A write to a sector with one in flight waits (R71). -/
def finishMerge (s : State) (k dpa : Nat) : State :=
  match s.mergeOf k dpa with
  | none => s
  | some e =>
    if !e.closed || e.reading || s.writeInFlight dpa then s
    else
      let gone (s : State) : State := s.modSlice k fun x => { x with mergeBuf := x.mergeBuf.erase e }
      let send (s : State) (w : WriteData) : State := (gone s).sendWrite k e.dpa e.region e.svc w e.entries false 1
      if fullMask e.w.mask || !s.regionProtected e.region then send s e.w
      else
        let set := cacheSet e.dpa
        let sec := sectorInBlock e.dpa
        let (s, way) := if s.cacheOn then s.lookupTag k e.dpa else (s, none)
        let cached := match way with
          | some wy => if (s.tagAt k set wy).sv.getLsbD sec then some wy else none
          | none => none
        let (s, full) := match cached with
          | some wy =>
            let (s, d, ok) := s.readWays k set wy sec e.dpa 0 e.region false .access
            (s, if ok then some d.data else none)
          | none => (s, none)
        match full with
        | some d => send s { e.w with data := mergeBytes d e.w.data e.w.mask, mask := BitVec.allOnes 64 }
        | none =>
          if s.power.device == .pfDraining then gone s
          else if 64 ≤ (s.slice k).missRegs.length then s
          else
            let s := s.modSlice k fun x => { x with
              mergeBuf := mapIf (· == e) (fun m => { m with reading := true }) x.mergeBuf }
            s.takeRegister k { dpa := e.dpa, region := e.region, svc := e.svc, origin := .prefetch } .merge none

/-- Whether a merge entry has been open for MERGE_WINDOW slice cycles of 0.8 ns; with a window of 0, beyond the cycle in which it opened (R69). -/
def mergeExpired (s : State) (e : MergeEntry) : Bool :=
  decide (e.opened * 5 + s.reg 0x2200 6 * 4 ≤ s.now * 5) && decide (e.opened < s.now)

/-- Close the open merge entry of a sector (R69). -/
def shutMerge (s : State) (k dpa : Nat) : State :=
  (s.modSlice k fun x => { x with
    mergeBuf := mapIf (fun m => m.dpa == sectorOf dpa && !m.closed) (fun m => { m with closed := true }) x.mergeBuf }).finishMerge k dpa

/-- Put an entry into the merge buffer: join the open entry of its sector, unless its window has passed, or open one when there is room (R69). -/
def enterMerge (s : State) (k : Nat) (e : WbEntry) : State :=
  let open_ (m : MergeEntry) : Bool := m.dpa == sectorOf e.dpa && !m.closed
  let s := if (s.slice k).mergeBuf.any fun m => open_ m && s.mergeExpired m then s.shutMerge k e.dpa else s
  let merging (s : State) : State := s.modSlice k fun x => { x with
    writeBuf := mapIf (·.id == e.id) (fun e => { e with stage := .merging }) x.writeBuf }
  if (s.slice k).mergeBuf.any open_ then
    let s := (merging s).modSlice k fun x => { x with
      mergeBuf := mapIf open_ (fun m =>
        let w : WriteData := { m.w with data := mergeBytes m.w.data e.w.data e.w.mask, mask := m.w.mask ||| e.w.mask }
        { m with w := w, entries := m.entries ++ [e.id], closed := fullMask w.mask }) x.mergeBuf }
    s.finishMerge k e.dpa
  else if (s.slice k).mergeBuf.length < 32 then
    (merging s).modSlice k fun x => { x with
      mergeBuf := x.mergeBuf ++ [{ dpa := sectorOf e.dpa, w := e.w, region := e.region, svc := e.svc
                                   opened := s.now, entries := [e.id] }] }
  else s

/-- Entries that found the merge buffer full join it now that an entry has gone, oldest first; a full sector behind a partial entry of its sector joins that one's (R69). -/
def rejoinMerges (s : State) (k : Nat) : State :=
  ((s.slice k).writeBuf.filter fun e => e.stage == .waiting && !e.w.poison).foldl
    (fun s e =>
      let joins := (s.slice k).mergeBuf.any fun m => m.dpa == sectorOf e.dpa && !m.closed
      if joins || !fullMask e.w.mask && decide ((s.slice k).mergeBuf.length < 32) then s.enterMerge k e else s) s

/-- Put a partial entry into the merge buffer; what it frees there lets waiting entries in (R69). -/
def joinMerge (s : State) (k : Nat) (e : WbEntry) : State := (s.enterMerge k e).rejoinMerges k

/-- Close a merge entry (R69). -/
def closeMerge (s : State) (k dpa : Nat) : State := (s.shutMerge k dpa).rejoinMerges k

/-- The entry of a sector that is next to leave by itself: the oldest that has not left, when it carries the whole sector. One that waits for the merge buffer holds back every later write of its sector (R69, R71). -/
def waitingFull (s : State) (k dpa : Nat) : Option WbEntry :=
  ((s.slice k).writeBuf.find? fun e => e.stage == .waiting && sectorOf e.dpa == sectorOf dpa).filter fun e =>
    fullMask e.w.mask || e.w.poison

/-- Send the next write of a sector, when none is in flight: a buffered full sector, or a closed merge entry, the older first (R71). -/
def sendNext (s : State) (k dpa : Nat) : State :=
  if s.writeInFlight dpa then s
  else
    match s.waitingFull k dpa, s.mergeOf k dpa with
    | some e, none => s.sendWrite k dpa e.region e.svc e.w [e.id] (e.origin == .poison) 0
    | some e, some m =>
      if m.entries.headD 0 < e.id then (s.finishMerge k dpa).rejoinMerges k
      else s.sendWrite k dpa e.region e.svc e.w [e.id] (e.origin == .poison) 0
    | none, some _ => (s.finishMerge k dpa).rejoinMerges k
    | none, none => s

/-- A write that the home has ordered: in place for moored memory (a way that is moored no longer discards it, R424), else into the write buffer, the block and on toward the pool (R67 to R71, R76). A poisoned write becomes a full-sector poisoned write (R281). -/
def sliceWrite (s : State) (k : Nat) (r : Req) (w : WriteData) : State :=
  let s := if r.origin == .reknit then s else { s with prot := { s.prot with
      watch := mapIf (fun e => e.dpa == sectorOf r.dpa && e.watched && !e.ordered) (fun e => { e with dirty := true }) s.prot.watch } }
  if isMoored r.dpa then
    if s.wayMode k (mooredWay r.dpa) != .moored then s
    else s.writeWays k (cacheSet r.dpa) (mooredWay r.dpa) (sectorInBlock r.dpa) r.dpa r.ctx r.region
      (if w.poison then { w with data := mergeBytes 0 w.data w.mask, mask := BitVec.allOnes 64 } else w) true
  else
    let (id, s) := s.fresh
    let w : WriteData :=
      if w.poison then { w with data := mergeBytes 0 w.data w.mask, mask := BitVec.allOnes 64 } else w
    let e : WbEntry := { id := id, dpa := sectorOf r.dpa, w := w, region := r.region, svc := r.svc, origin := r.origin
                         bulk := r.bulk, report := r.opcode != 0 }
    let s := s.modSlice k fun x => { x with
      writeBuf := x.writeBuf ++ [e], wbHigh := max x.wbHigh (x.writeBuf.length + 1) }
    let s := s.updateBlock k r w
    let joins := (s.slice k).mergeBuf.any fun m => m.dpa == sectorOf r.dpa && !m.closed
    if !fullMask w.mask || (joins && !w.poison) then s.joinMerge k e
    else
      let s := if joins then s.closeMerge k r.dpa else s
      s.sendNext k r.dpa

/-! ### Atomics (R73) -/

end State

/-- The value that an atomic returns and the sector it leaves: none when nothing is written (a CAS128 that fails). -/
def AtomicOp.apply (op : AtomicOp) (dpa : Nat) (d : Sector) : Word128 × Option Sector × Bool :=
  let sh := 8 * (bits dpa 0 6)
  let put (v n : Nat) : Sector := mergeBytes d (BitVec.ofNat 512 (v <<< sh))
    (BitVec.ofNat 64 ((2 ^ n - 1) <<< (bits dpa 0 6)))
  match op with
  | .cas c n =>
    let old := BitVec.ofNat 128 (d.toNat >>> sh)
    if old = c then (old, some (put n.toNat 16), true) else (old, none, false)
  | .swap n => (BitVec.ofNat 128 (d.toNat >>> sh), some (put n.toNat 16), true)
  | .fadd a =>
    let old := BitVec.ofNat 64 (d.toNat >>> sh)
    (BitVec.ofNat 128 old.toNat, some (put (old + a).toNat 8), true)

/-- How an atomic stands in its slice. -/
inductive SliceAtomic where
  /-- Done: old value, whether it wrote, and whether the sector was poisoned. -/
  | done (old : Word128) (swapped poison : Bool)
  | register
  | queued
  /-- The miss-wait queue has no room for it. -/
  | full
  /-- Its data is at hand and the write buffer has no room: it holds its block (R73). -/
  | noRoom
  deriving DecidableEq, Repr

namespace State

/-- Perform an atomic on a sector's data, writing the result into the block or moored way and through to the pool as a full-sector write (R73). A CAS128 that fails writes nothing; poisoned data is neither operated on nor written (R282). -/
def atomicOn (s : State) (k : Nat) (r : Req) (d : SectorData) : State × SliceAtomic :=
  match r.op with
  | none => (s, .done 0 false false)
  | some op =>
    if d.isPoisoned then (s, .done 0 false true)
    else
      let (old, new, sw) := op.apply r.dpa d.data
      let s := s.count (16 * k + 9)
      let s := match new with
        | some n => s.sliceWrite k r { data := n, mask := BitVec.allOnes 64, poison := false }
        | none => s
      (s, .done old sw false)

/-- An atomic whose sector is not VALID: take a way and fetch, wait for an eligible way, or fetch without install (R73). -/
def atomicMiss (s : State) (k : Nat) (r : Req) (resident : Option Nat) : State × SliceAtomic :=
  let queue (s : State) : State × SliceAtomic :=
    if 32 ≤ (s.slice k).missWait.length then (s, .full)
    else (s.modSlice k fun x => { x with missWait := x.missWait ++ [r] }, .queued)
  match s.mergeable k r.dpa with
  | some m => if m.full then queue s else (s.mergeInto k m r, .register)
  | none =>
    if 64 ≤ (s.slice k).missRegs.length then queue s
    else if s.cacheOn && resident.isNone && (s.chooseVictim k (cacheSet r.dpa)).isNone && !s.wbHolds k r.dpa then
      let (id, s) := s.fresh
      (s.modSlice k fun x => { x with
        missRegs := x.missRegs ++ [{ id := id, dpa := sectorOf r.dpa, req := r, stage := .waitWay }] }, .register)
    else (s.takeRegister k r .demand resident, .register)

/-- An atomic at its home slice, once the home has granted ownership (R73). -/
def sliceAtomic (s : State) (k : Nat) (r : Req) : State × SliceAtomic :=
  let set := cacheSet r.dpa
  let sec := sectorInBlock r.dpa
  if isMoored r.dpa then
    let (s, d, _) := s.readWays k set (mooredWay r.dpa) sec r.dpa r.ctx r.region true .access
    s.atomicOn k r d
  else if s.cacheOn then
    let (s, way) := s.lookupTag k r.dpa
    match way with
    | some w =>
      if (s.tagAt k set w).sv.getLsbD sec then
        let s := s.takePrefetch k set w
        if !s.wbRoom k then (s, .noRoom)
        else
          let (s, d, ok) := s.readWays k set w sec r.dpa r.ctx r.region false .access
          if ok then s.atomicOn k r d else s.atomicMiss k r none
      else s.atomicMiss k r (some w)
    | none => s.atomicMiss k r none
  else s.atomicMiss k r none

/-! ### Fills (R56, R66) -/

/-- Install or discard one sector of a register by its mark; what is poisoned is not installed (R56, R66). -/
def installSector (s : State) (k dpa : Nat) (way : Option Nat) (mk : FillMark) (d : SectorData) : State :=
  match way with
  | none => s
  | some w =>
    let set := cacheSet dpa
    let b := sectorBit (sectorInBlock dpa)
    let t := s.tagAt k set w
    match mk with
    | .discard => s
    | m =>
      let t := { t with sf := t.sf &&& ~~~b }
      let good := m == .none && !d.isPoisoned && s.cacheOn && s.wayMode k w == .cache
      if good then
        (s.updateTag k set w { t with sv := t.sv ||| b }).writeWays k set w (sectorInBlock dpa) dpa 0 0
          { data := d.data, mask := BitVec.allOnes 64, poison := false } false
      else if s.wayMode k w == .drydocked && t.sf == 0 then s.setTag k set w {}
      else s.updateTag k set w t

end State
end Sys2Proof.Machine
end

