-- ==== Sys2Proof/Machine/Home.lean ====
section
/-! DEFINITION. The home: directory, snoops and their translation, the service of each request class, write-backs, evictions, poisoning, directory errors and protocol violations (R90 to R129). -/

namespace Sys2Proof.Machine

/-! ### Requesters and holders (R90, R91) -/

namespace State

/-- The holder that a request would become or is: its flight position, port and marker; none for requests that never hold a copy. -/
def requester (s : State) (r : Req) : Option Holder :=
  if r.agent then none
  else match r.origin with
  | .host p m _ => some { pos := s.position, port := p, marker := m }
  | .peer d p m _ => if d / 32 = s.flight then some { pos := d % 32, port := p, marker := m } else none
  | _ => none

/-- The positions of the flight's members, this device among them. -/
def memberPositions (s : State) : List Nat :=
  (List.range s.flightSize).filter fun p => p == s.position || s.isActiveMember (s.flight * 32 + p)

end State

/-- The requester index (R90). -/
def Holder.index (h : Holder) : Nat := h.pos * 128 + h.port

/-! ### The directory (R93 to R96) -/

def dirSet (dpa : Nat) : Nat := bits dpa 16 12 * 8 + bits dpa 7 3
def dirTag (dpa : Nat) : Nat := bits dpa 28 17 * 2 + bits dpa 6 1
def dirKey (k set way : Nat) : Nat := (k * 32768 + set) * 12 + way

/-- The sector that an entry of a slice's set names. -/
def dirSector (k set tag : Nat) : Nat :=
  let hi := tag / 2 * 2 ^ 28 + set / 8 * 2 ^ 16
  hi + Nat.xor k (homeSlice hi) * 2 ^ 10 + set % 8 * 2 ^ 7 + tag % 2 * 2 ^ 6

/-- The code of a directory state (Table: Directory states). -/
def DirEntry.code (e : DirEntry) : Nat :=
  match e.st with
  | .i => 0
  | .s => e.ptrs.length
  | .e => 5
  | .b => 6
  | .p => 7
  | .pp => 8

/-- The 18-bit pointer of a holder (R94). -/
def Holder.encode (h : Holder) : Nat := h.pos % 32 * 2 ^ 13 + h.port % 128 * 2 ^ 6 + h.marker % 64

/-- A directory entry as its word (Table: Directory entry). -/
def DirEntry.encode (e : DirEntry) : Nat :=
  if e.st == .i then 0
  else e.tag * 2 ^ 106 + e.code * 2 ^ 102 + e.dwell * 2 ^ 96 +
    (e.ptrs.zipIdx.foldl (fun n (h, i) => n + h.encode * 2 ^ (24 + 18 * i)) 0) + e.scope.toNat * 2 ^ 8

/-- A directory entry from its word: none for an illegal STATE (R94, R95). -/
def DirEntry.decode (w : Nat) : Option DirEntry :=
  let ptr (i : Nat) : Holder :=
    { pos := bits w (37 + 18 * i) 5, port := bits w (30 + 18 * i) 7, marker := bits w (24 + 18 * i) 6 }
  let named (st : DirState) (n : Nat) : DirEntry :=
    { tag := bits w 106 22, st := st, dwell := bits w 96 6, ptrs := (List.range n).map ptr }
  match bits w 102 4 with
  | 0 => some {}
  | 5 => some (named .e 1)
  | 6 => some { named .b 0 with scope := BitVec.ofNat 16 (bits w 8 16) }
  | 7 => some (named .p 0)
  | 8 => some (named .pp 0)
  | n => if n < 5 then some (named .s n) else none

namespace State

def dirAt (s : State) (k set way : Nat) : DirEntry := Table.get {} s.home.dir (dirKey k set way)

def setDir (s : State) (k set way : Nat) (e : DirEntry) : State :=
  ({ s with home := { s.home with dir := Table.set {} s.home.dir (dirKey k set way) e } } : State).wordWritten
    (128 + k) (set * 12 + way)

/-- Whether a set is in SET_RECALL (R127). -/
def inSetRecall (s : State) (k set : Nat) : Bool := Table.get 0 s.home.setRecall (k * 32768 + set) != 0

/-- The next pinned entry of a set that finds all its ways pinned is logged anew: a way of it leaves PP (R126). -/
def unpinned (s : State) (k set : Nat) : State :=
  { s with home := { s.home with ppFullLogged := s.home.ppFullLogged.filter (· != k * 32768 + set) } }

/-- Check a directory word: a correctable error is written back corrected, an uncorrectable one or an illegal STATE frees the way and puts the set into SET_RECALL (R95, R127). A word that the checker takes for another one is used as it reads (R274). -/
def checkDir (s : State) (k set way : Nat) (src : Source) : State :=
  let n := set * 12 + way
  let e := s.damageAt (128 + k) n
  if e = 0 then s
  else
    let v := eccCheck e
    let src := s.errSource (128 + k) n src
    let syn := syndromeField v
    let det : Detail := .location (128 + k) n syn 0
    let word := Nat.xor (s.dirAt k set way).encode (eccDataFlips (eccResidue e)).toNat
    let asRead (s : State) (d : DirEntry) : State :=
      ({ s with home := { s.home with dir := Table.set {} s.home.dir (dirKey k set way) d } } : State).setDamage (128 + k) n 0
    match v, DirEntry.decode word with
    | .clean, some d => asRead s d
    | .correctable _, some d =>
      (asRead s d).reportError (128 + k) false
        { code := 0x3002, cls := .note, source := src, detail := det } n syn
    | _, _ =>
      let s := (s.setDir k set way {}).unpinned k set
      let s := { s with home := { s.home with
          setRecall := Table.set 0 s.home.setRecall (k * 32768 + set) 1 } }
      s.reportError (128 + k) true { code := 0x3003, cls := .contained, source := src, detail := det } n syn

/-- Read a sector's set: check its words and find the way that names the sector (R93). -/
def dirLookup (s : State) (k dpa : Nat) : State × Option Nat :=
  let set := dirSet dpa
  let s := (List.range 12).foldl (fun s w => s.checkDir k set w .access) s
  (s, (List.range 12).find? fun w => (s.dirAt k set w).st != .i && (s.dirAt k set w).tag == dirTag dpa)

/-- The directory state of a sector as it stands. -/
def dirEntryOf (s : State) (dpa : Nat) : DirEntry :=
  let k := homeSlice dpa
  ((List.range 12).map (s.dirAt k (dirSet dpa))).find? (fun e => e.st != .i && e.tag == dirTag dpa) |>.getD {}

/-- Write the entry of a sector: at its way, or at `way` when it had none; state I frees the way. -/
def putDirEntry (s : State) (dpa : Nat) (way : Option Nat) (e : DirEntry) : State :=
  let k := homeSlice dpa
  let set := dirSet dpa
  let cur := (List.range 12).find? fun w => (s.dirAt k set w).st != .i && (s.dirAt k set w).tag == dirTag dpa
  match cur.orElse fun _ => way with
  | none => s
  | some w =>
    let s := if (s.dirAt k set w).st == .pp && e.st != .pp then s.unpinned k set else s
    s.setDir k set w (if e.st == .i then {} else { e with tag := dirTag dpa })

/-- The slice's current dwell tick (R104): a tick lasts ceil(DWELL_TIME / 12.8 ns) slice-pound cycles of 0.8 ns. -/
def dwellTick (s : State) : Nat :=
  let t := (s.reg 0x2400 2 * 10 + 127) / 128
  if t = 0 then 0 else s.now * 5 / 4 / t % 64

/-- Whether the E holder's dwell has elapsed (R104). -/
def dwellOver (s : State) (e : DirEntry) : Bool :=
  s.reg 0x2400 2 = 0 || 17 ≤ (s.dwellTick + 64 - e.dwell) % 64

/-! ### Slots and responses (R305, R319) -/

/-- The regulator's words (R314), numbered from word 0 of MGMT_SRAM: the occupancy word of a context, then slot words of 8 slots each; the second copy follows at 20,480. -/
def occWord (c : Nat) : Nat := c
def slotWord (n : Nat) : Nat := 16384 + n / 8

/-- Whether an admission or release of a context must wait for a word that is being restored. -/
def regWaits (s : State) (c slotNo : Nat) : Bool :=
  s.tenant.regRestore.any fun w => w % 20480 == occWord c || w % 20480 == slotWord slotNo

/-- The regulator reads a word of both copies (R314). Tells whether the access can go on. -/
def regCheckWord (s : State) (w : Nat) (src : Source := .access) : State × Bool :=
  let e0 := s.damageAt 369 w
  let e1 := s.damageAt 369 (w + 20480)
  if e0 = 0 && e1 = 0 then (s, true)
  else
    let bad (e : BitVec 138) : Bool := match eccCheck e with
      | .uncorrectable _ _ => true
      | _ => false
    let at_ := if bad e0 || (e0 != 0 && !bad e1) then w else w + 20480
    let v := eccCheck (s.damageAt 369 at_)
    let syn := syndromeField v
    let src := s.errSource 369 at_ src
    let det : Detail := .location 369 at_ syn 0
    if bad e0 && bad e1 then
      (s.reportError 369 true { code := 0x8004, cls := .deviceFatal, source := src, detail := det } at_ syn, false)
    else if bad e0 || bad e1 then
      let s := s.reportError 369 true { code := 0x8003, cls := .note, source := src, detail := det } at_ syn
      ({ s with tenant := { s.tenant with regRestore := s.tenant.regRestore ++ [at_] } }, false)
    else
      (((s.setDamage 369 w 0).setDamage 369 (w + 20480) 0).reportError 369 false
        { code := 0x8002, cls := .note, source := src, detail := det } at_ syn, true)

/-- Both copies of a regulator word are written, once a read has found them good (R314). -/
def regWriteWord (s : State) (w : Nat) : State := (s.wordWritten 369 w).wordWritten 369 (w + 20480)

/-- Take the slot of a transaction off the counts: they fall by one, TXNS counts, and the slot is offered in the next cycle when a request waits (R309, R310, R319). -/
def dropSlot (s : State) (t : Txn) (cl : SlotClass) : State :=
  let g := cl == .guaranteed
  let s := (s.modAcct t.req.ctx fun a => { a with
    held := a.held - 1, guaranteed := if g then a.guaranteed - 1 else a.guaranteed }).countCtx t.req.ctx 0 1
  let s := (s.regWriteWord (occWord t.req.ctx)).regWriteWord (slotWord t.slotNo)
  { s with tenant := { s.tenant with
      slotsG := if g then s.tenant.slotsG - 1 else s.tenant.slotsG
      slotsShared := if g then s.tenant.slotsShared else s.tenant.slotsShared - 1
      offers := if s.tenant.waiting.isEmpty then 0 else s.tenant.offers + 1
      releasedAt := s.now
      released := if s.tenant.releasedAt = s.now then s.tenant.released + 1 else 1 } }

/-- Whether the regulator has made its 64 releases of this cycle (R310). -/
def releasesFull (s : State) : Bool := s.tenant.releasedAt == s.now && decide (64 ≤ s.tenant.released)

/-- Release the slot of a transaction: beyond 64 releases in a cycle it waits for the next, and while a regulator word of it is being restored it waits for that (R305, R310, R314). -/
def releaseSlot (s : State) (id : Nat) : State :=
  match s.tenant.txns.find? (·.req.id = id) with
  | none => s
  | some t =>
    let gone (s : State) : State :=
      { s with tenant := { s.tenant with txns := s.tenant.txns.filter (·.req.id ≠ id) } }
    match t.req.slot with
    | none => gone s
    | some cl =>
      let hold (s : State) : State := { s with tenant := { s.tenant with
        heldReleases := s.tenant.heldReleases ++ [id]
        txns := mapIf (·.req.id == id) (fun t => { t with req := { t.req with answered := true } }) s.tenant.txns } }
      if s.releasesFull then hold s
      else
        let (s, ok0) := s.regCheckWord (occWord t.req.ctx)
        let (s, ok1) := s.regCheckWord (slotWord t.slotNo)
        if !ok0 || !ok1 || s.regWaits t.req.ctx t.slotNo then hold s else (gone s).dropSlot t cl

/-- Releases that were held are made now, as far as they can be (R310, R314). -/
def releaseSlots (s : State) : State :=
  if s.tenant.heldReleases.isEmpty then s
  else s.tenant.heldReleases.foldl (fun s id => s.releaseSlot id)
    { s with tenant := { s.tenant with heldReleases := [] } }

end State

/-- The code of a completion on the RSP channel; 4 is added when data comes with it. -/
def ndrCode : Ndr → Nat
  | .cmp => 0
  | .cmpS => 1
  | .cmpE => 2

namespace State

/-- A response goes to a queue processor (R150). -/
def toQueue (s : State) (q : QResponse) : State :=
  { s with queue := { s.queue with responses := s.queue.responses ++ [q] } }

/-- The completion of a host's Req-channel request leaves its home; it is remembered while it can still be on its way to the host (R111). -/
def noteCompletion (s : State) (r : Req) : State :=
  match s.requester r with
  | none => s
  | some h =>
    if r.cls.isWrite || !decide (r.kind < 2) then s
    else { s with home := { s.home with
        sentCmps := (s.home.sentCmps.filter fun c => decide (s.now < c.2.2 + 1000)) ++ [(sectorOf r.dpa, h, s.now)] } }

/-- The bytes of an access. -/
def spanMask (off len : Nat) : Mask64 := BitVec.ofNat 64 ((2 ^ len - 1) * 2 ^ off)

/-- Bits as bytes of a sector: one each for parts of a byte, 16 each for parts of 16 B. -/
def spreadParts (grain : Nat) (v : BitVec 64) : Mask64 :=
  if grain = 1 then v
  else BitVec.ofNat 64 ((List.range 4).foldl (fun n i => if v.getLsbD i then n + 0xFFFF * 2 ^ (16 * i) else n) 0)

/-- What a home access of a request read, with what its earlier independent parts read (R159). -/
def gathered (r : Req) (d : SectorData) : SectorData :=
  if r.grain = 0 then d
  else { data := mergeBytes r.got.data d.data r.part, poison := r.got.poison ||| d.poison }

/-- The next home access of a request whose parts are independent: how many of the parts that are left it performs is free (R159). -/
def nextPart (s : State) (r : Req) : State × Req :=
  let (v, s) := s.drawFree
  let chosen := r.todo &&& spreadParts r.grain v
  let now := if chosen = 0 then r.todo else chosen
  (s, { r with
    part := now, todo := r.todo &&& ~~~now
    w := if r.cls.isWrite then { r.w with mask := now } else r.w })

/-- The size of the independent parts of a READ or WRITE at its home, 0 when it is single-copy atomic (R159). Cacheable memory is a LOCAL_POOL region with POLICY CACHED while the cache is ENABLED. -/
def grainOf (s : State) (r : Req) : Nat :=
  if r.opcode ≠ 1 && r.opcode ≠ 2 then 0
  else if [1, 2, 4, 8, 16].contains r.len && r.off % r.len = 0 then 0
  else if r.len = 32 && r.off % 32 = 0 then
    if r.pair && (r.kind = 1 || (r.kind = 0 && r.cached && s.cache.st == .enabled)) then 0 else 16
  else 1

/-- A request as it comes to its home: an access that is not single-copy atomic begins with its first parts (R159). -/
def firstPart (s : State) (r : Req) : State × Req :=
  match s.grainOf r with
  | 0 => (s, r)
  | g => s.nextPart { r with grain := g, todo := spanMask r.off r.len }

/-- A peer's queue is told that its store has retired or is lost, once nothing of it is left at the slice (R157, R161). -/
def reportStore (s : State) (k : Nat) (o : Origin) (lost : Bool) : State :=
  let x := s.slice k
  let mine (r : Req) : Bool := r.origin == o
  match o with
  | .peer d p _ t =>
    if !lost && (x.writeBuf.any (fun e => e.origin == o) || x.blocked.any mine || x.input.any mine || x.missWait.any mine ||
        x.trackers.any fun y => mine y.req && !y.req.answered) then s
    else s.sendPeer d vcMgmt mkRetired t false p 0 (beBytes (bit lost) 8)
  | _ => s

/-- Data for a requester crosses into its quad, or into the slice pound of its queue processor; false when the transaction is lost with it, which stops the device (R277). -/
def leaveHome (s : State) (o : Origin) (d : Option SectorData) : State × Option SectorData × Bool :=
  match o, d with
  | .host _ _ _, d | .io _ _ _, d | .peer _ _ _ _, d => s.intoQuad d
  | .queue _ _ _, some d =>
    let (s, d) := s.payload 371 0 d
    (s, some d, true)
  | _, d => (s, d, true)

/-- Answer a request: a host at its port, a peer over its link, a queue at its processor, the re-knit engine in its watch. -/
def sendAnswer (s : State) (r : Req) (data : Option SectorData) (ndr : Ndr) : State :=
  let s := s.noteCompletion r
  let (s, data, known) := s.leaveHome r.origin data
  let poison := (data.map SectorData.isPoisoned).getD false
  let bytes := data.map (·.data)
  if !known then s
  else match r.origin with
  | .host p _ t => (s.sendS2m p t r.ctx bytes poison (some ndr)).releaseSlot r.id
  | .io p _ t =>
    (match bytes with
      | some d => if s.portSilent p then s else s.emit (.ioData p t d poison)
      | none => s).releaseSlot r.id
  | .peer d p _ t =>
    s.sendPeer d vcRsp (ndrCode ndr + (if bytes.isSome then 4 else 0) + if r.grain = 16 then opSplit else 0) t poison p
      (dpaParity r.dpa) ((bytes.map sectorBytes).getD [])
  | .queue q pos part =>
    s.toQueue { queue := q, pos := pos, part := part, data := data.getD {}, poison := poison, split := r.grain == 16 }
  | .reknit =>
    { s with prot := { s.prot with
        watch := mapIf (fun w => w.dpa == sectorOf r.dpa && w.reading) (fun w => { w with value := data, reading := false }) s.prot.watch } }
  | _ => s

/-- A home access of a request is done: the request is answered, or its further parts come to the slice as a request that waits there (R159). -/
def respond (s : State) (r : Req) (data : Option SectorData) (ndr : Ndr) : State :=
  let data := data.map (gathered r)
  if r.todo = 0 then s.sendAnswer r data ndr
  else
    let (s, r) := s.nextPart { r with got := data.getD r.got }
    s.modSlice (homeSlice r.dpa) fun x => { x with input := x.input ++ [r] }

/-- Answer a BIConflict: a local host at its port, a peer's over its link (R111). -/
def ackConflict (s : State) (dpa : Nat) (o : Origin) : State :=
  match o with
  | .conflict p hpa => if s.portSilent p then s else s.emit (.conflictAck p hpa)
  | .peer d p _ tag => s.sendPeer d vcRsp 8 tag false p (dpaParity dpa) []
  | _ => s

/-! ### Violations and suspect ports (R128, R129) -/

/-- Count a violation or timeout of a port, and mark the port suspect when those in the sliding window reach the threshold. Event 3007 has the occurrence's one record only where no CONTAINED event is logged of it (R7): at the device of a holder whose home is a peer. -/
def portStrike (s : State) (p : Nat) (timeout alone : Bool) : State :=
  let win := s.reg 0x2421 2 * 1000000
  let s := s.modPort p fun q => { q with
    recent := q.recent.filter (fun t => s.now < t + win) ++ [s.now]
    violations := if timeout then q.violations else sat32 (q.violations + 1)
    timeouts := if timeout then sat32 (q.timeouts + 1) else q.timeouts }
  if s.reg 0x2421 1 ≤ (s.port p).recent.length && !(s.port p).suspect then
    let s := s.modPort p fun q => { q with suspect := true }
    if alone then s.raise 0x3007 .degraded .none (some p) else s
  else s

/-- Report a violation or a snoop timeout of a peer's port to its device, which counts it (R124, R128). -/
def reportStrike (s : State) (pos port code : Nat) : State :=
  let (tag, s) := s.freshTag
  s.sendPeer (s.flight * 32 + pos) vcMgmt mkViolation tag false port 0 (beBytes code 8)

/-- A home's report of a violation or timeout of a port of this device. -/
def strikeReported (s : State) (port code : Nat) : State := s.portStrike port (code == 0x3001) true

/-- Log a protocol violation and count it at the requester's port, here or at its device (R128). -/
def violation (s : State) (code pos port dpa : Nat) : State :=
  let det : Detail := .memory dpa (port * 64) 0 0 0 0
  let s := s.raise code .contained det (if pos = s.position then some port else none)
  if pos = s.position then s.portStrike port false false else s.reportStrike pos port code

/-! ### Snoop translation (R97, R98) -/

/-- Whether a value matches a pattern. -/
def matchesPattern (v value mask : Nat) : Bool := Nat.land (Nat.xor v value) mask == 0

/-- The device at which the sectors of an interval are homed (R97). -/
def homeOf (s : State) (i : RevInterval) : Nat := if i.kind < 2 then s.deviceNumber else i.targetDev

/-- The intervals of the reverse map that reach a sector of a home through a port and marker. -/
def revHits (s : State) (home dpa port marker : Nat) : List RevInterval :=
  s.home.revMap.filter fun i => s.homeOf i == home &&
    decide (i.base ≤ dpa >>> 21) && decide (dpa >>> 21 < i.base + i.units) &&
      matchesPattern port i.portValue i.portMask && matchesPattern marker i.markerValue i.markerMask

/-- The window offset [45:21] of a sector through an interval. -/
def revOffset (dpa : Nat) (i : RevInterval) : Nat := i.offset + (dpa >>> 21) - i.base

/-- The HPA of a window offset under a marker at a port (R16). -/
def hpaOf (s : State) (port marker unit dpa : Nat) : Nat :=
  (s.port port).hdmBase.getD 0 + marker * 2 ^ 46 + unit * 2 ^ 21 + dpa % 2 ^ 21

/-- The counter of a snoop kind in a slice: offsets 10 to 12 (R317). -/
def snoopCounter (kind : SnoopKind) : Nat := 10 + snoopCode kind

/-- Send the BISnps of a snoop, one for each HPA. -/
def sendBisnps (s : State) (port marker dpa home : Nat) (kind : SnoopKind) (group : Nat) (units : List Nat) : State :=
  units.foldl (fun s u =>
    let hpa := s.hpaOf port marker u dpa
    let b : BiSnp := { port := port, hpa := hpa, kind := kind, home := home, dpa := sectorOf dpa, marker := marker
                       group := group }
    ({ s with home := { s.home with bisnps := s.home.bisnps ++ [b] } } : State).emit (.bisnp port kind hpa)) s

/-- Snoop one marker of a local port: through the translation buffer, or by the reverse walker after a miss (R97). One DPA of two home devices names two sectors, so lines of the buffer, and intervals of the reverse map, are told apart by the home too (DESIGN CHOICE: the manual's key is the marker and DPA[44:21]). -/
def snoopLocal (s : State) (port marker dpa home : Nat) (kind : SnoopKind) (group : Nat) : State :=
  match s.home.stb.find? fun l =>
      l.home == home && l.port == port && l.marker == marker && l.unit == dpa >>> 21 && l.complete with
  | some l => s.sendBisnps port marker dpa home kind group l.offsets
  | none =>
    let w : SnoopWalk := { port := port, dpa := sectorOf dpa, marker := marker, home := home, kind := kind, group := group }
    { s with home := { s.home with walks := s.home.walks ++ [w] } }

/-- The markers through which a sector can be reached at a port (R98). -/
def markersAt (s : State) (home dpa port : Nat) : List Nat :=
  (List.range 64).filter fun m => !(s.revHits home dpa port m).isEmpty

/-- Host ports that are UP. -/
def hostPorts (s : State) : List Nat :=
  (List.range 128).filter fun p => (s.port p).st == PortState.up && Table.get 0 s.link.quads (pcFirstQuad (s.port p).cfg) == 1

/-- Snoop with marker ALL at this device, leaving out a pair (R98, R109). -/
def snoopAllLocal (s : State) (dpa home : Nat) (kind : SnoopKind) (except : Option (Nat × Nat)) (group : Nat) : State :=
  s.hostPorts.foldl (fun s p =>
    ((s.markersAt home dpa p).filter fun m => except != some (p, m)).foldl (fun s m =>
      s.sendBisnps p m dpa home kind group ((s.revHits home dpa p m).map (revOffset dpa))) s) s

/-- Snoop every marker of a port but one (R108). -/
def snoopPortLocal (s : State) (dpa home port except : Nat) (kind : SnoopKind) (group : Nat) : State :=
  ((s.markersAt home dpa port).filter (· != except)).foldl (fun s m =>
    s.sendBisnps port m dpa home kind group ((s.revHits home dpa port m).map (revOffset dpa))) s

/-- The answers that a snoop of this device's own home still lacks at this device. -/
def localOutstanding (s : State) (home dpa : Nat) : Nat :=
  (s.home.bisnps.filter fun b => b.home == home && b.dpa == sectorOf dpa && b.answer == 9).length +
  (s.home.walks.filter fun w => w.home == home && w.dpa == sectorOf dpa).length

end State

/-- The position that a snoop addresses. -/
def SnoopTarget.pos : SnoopTarget → Nat
  | .holder h => h.pos
  | .all p _ => p
  | .portAll p _ _ => p

/-- The SNP body: DPA and marker as a REQ body, bit 54 for marker ALL, bit 55 when a pair is left out, bit 56 for all markers of the port but one. -/
def snpBody (t : SnoopTarget) (dpa : Nat) : List Byte :=
  let base (m : Nat) := dpa % 2 ^ 45 + m % 64 * 2 ^ 45
  match t with
  | .holder h => beBytes (base h.marker) 8
  | .all _ none => beBytes (base 0 + 2 ^ 54) 8
  | .all _ (some (_, m)) => beBytes (base m + 2 ^ 54 + 2 ^ 55) 8
  | .portAll _ _ m => beBytes (base m + 2 ^ 56) 8

def SnoopTarget.snpPort : SnoopTarget → Nat
  | .holder h => h.port
  | .all _ none => 0
  | .all _ (some (p, _)) => p
  | .portAll _ p _ => p

namespace State

/-- Send one snoop of this device's home. -/
def sendSnoop (s : State) (k dpa : Nat) (sn : Snoop) : State :=
  let own := s.deviceNumber
  let s := s.count (16 * k + snoopCounter sn.kind)
  if sn.target.pos = s.position then
    match sn.target with
    | .holder h => s.snoopLocal h.port h.marker dpa own sn.kind 0
    | .all _ ex => s.snoopAllLocal dpa own sn.kind ex 0
    | .portAll _ p m => s.snoopPortLocal dpa own p m sn.kind 0
  else
    let (tag, s) := s.freshTag
    s.sendPeer (s.flight * 32 + sn.target.pos) vcSnp (snoopCode sn.kind) tag false sn.target.snpPort (dpaParity dpa)
      (snpBody sn.target dpa)

/-! ### Trackers (R101) -/

def trackerOf (s : State) (dpa : Nat) : Option Tracker :=
  (s.slice (homeSlice dpa)).trackers.find? fun t => t.dpa == sectorOf dpa

def modTracker (s : State) (dpa : Nat) (f : Tracker → Tracker) : State :=
  s.modSlice (homeSlice dpa) fun x => { x with trackers := mapIf (·.dpa == sectorOf dpa) f x.trackers }

def dropTracker (s : State) (dpa : Nat) : State :=
  s.modSlice (homeSlice dpa) fun x => { x with trackers := x.trackers.filter (·.dpa != sectorOf dpa) }

/-- Put a request into the blocked-line queue of 32, whose fill is logged once; beyond it the request waits at the slice's input and its credits are withheld (R102). -/
def blockRequest (s : State) (k : Nat) (r : Req) : State :=
  if (s.slice k).blocked.length < 32 then
    let s := (s.count (16 * k + 15)).modSlice k fun x => { x with blocked := x.blocked ++ [r] }
    if decide ((s.slice k).blocked.length < 32) || (s.slice k).blockedLogged then s
    else (s.modSlice k fun x => { x with blockedLogged := true }).raise 0x3006 .note (.location k 0 0 0)
  else s.modSlice k fun x => { x with input := x.input ++ [r] }

/-- Begin to snoop: the snoops leave at once, or wait for the holder's dwell (R104). -/
def beginSnoops (s : State) (k dpa : Nat) (cause : SnoopCause) (kind : SnoopKind) (targets : List SnoopTarget)
    (waitDwell : Bool) : State :=
  let sns : List Snoop := targets.map fun t => { target := t, kind := kind }
  if waitDwell then s.modTracker dpa fun t => { t with stage := .dwell cause, snoops := sns }
  else
    let s := s.modTracker dpa fun t => { t with
      stage := .snoop cause, since := s.now, snoops := sns.map fun n => { n with sent := true } }
    sns.foldl (fun s n => s.sendSnoop k dpa n) s

/-- Whether every answer to a tracker's snoops is in: a local target waits for its BISnps, a remote one for its peer. -/
def snoopsDone (s : State) (t : Tracker) : Bool :=
  t.snoops.all fun n => n.waiting == 0 ||
    (n.target.pos == s.position && s.localOutstanding s.deviceNumber t.dpa == 0)

/-- Apply the answers of one snooped holder to the entry (Table: Snoops and answers). -/
def applyAnswer (s : State) (dpa : Nat) (n : Snoop) : State :=
  match n.target with
  | .holder h =>
    let e := s.dirEntryOf dpa
    if !e.ptrs.contains h then s
    else if n.keptExcl then s
    else if n.keptShared then s.putDirEntry dpa none { e with st := .s }
    else
      let ptrs := e.ptrs.filter (· != h)
      s.putDirEntry dpa none { e with ptrs := ptrs, st := if ptrs.isEmpty then .i else e.st, dwell := if ptrs.isEmpty then 0 else e.dwell }
  | _ => s

/-! ### Directory ways (R114, R126) -/

/-- The sector of a way's entry. -/
def waySector (s : State) (k set way : Nat) : Nat := dirSector k set (s.dirAt k set way).tag

/-- Ways of a set reserved for running requests (R115). -/
def reservedWays (s : State) (k set : Nat) : List Nat :=
  (s.slice k).trackers.filterMap fun t => if dirSet t.dpa = set then t.reserved else none

/-- What a request that needs a way finds. -/
inductive WayChoice where
  | free (way : Nat)
  | evict (way : Nat) (dwell : Bool)
  | allPinned
  | wait
  deriving DecidableEq, Repr

/-- Choose a way for a transition from I (R114): a free one, a poisoned one, or a victim drawn from those outside dwell. -/
def chooseDirWay (s : State) (k set : Nat) : WayChoice :=
  let res := s.reservedWays k set
  let ways := (List.range 12).filter fun w => !res.contains w
  match ways.find? fun w => (s.dirAt k set w).st == .i with
  | some w => .free w
  | none =>
    let open_ := ways.filter fun w =>
      (s.dirAt k set w).st != .pp && (s.trackerOf (s.waySector k set w)).isNone
    if ((List.range 12).all fun w => (s.dirAt k set w).st == .pp) then .allPinned
    else match open_.find? fun w => (s.dirAt k set w).st == .p with
      | some w => .free w
      | none =>
        let calm := open_.filter fun w => (s.dirAt k set w).st != .e || s.dwellOver (s.dirAt k set w)
        match open_, calm with
        | [], _ => .wait
        | o, [] => .evict (s.draw k o) true
        | _, c => .evict (s.draw k c) false

/-- The snoops that recall every holder of an entry (R106, R109). -/
def recallTargets (s : State) (e : DirEntry) (except : Option Holder) : List SnoopTarget :=
  match e.st with
  | .b => ((s.memberPositions.filter fun p => e.scope.getLsbD (p / 2)).map fun p =>
      SnoopTarget.all p (match except with
        | some h => if h.pos = p then some (h.port, h.marker) else none
        | none => none))
  | _ => (e.ptrs.filter fun h => some h != except).map SnoopTarget.holder

/-- Start the eviction of a way: it takes a tracker, blocks the victim's sector and recalls its holders (R115). -/
def startEviction (s : State) (k set way dpa : Nat) (dwell : Bool) : State :=
  let e := s.dirAt k set way
  let victim := s.waySector k set way
  let s := (s.bump64 0x2400 4).lfsrAfterChoice k
  let s := s.modSlice k fun x => { x with
    trackers := x.trackers ++ [{ dpa := victim, req := { dpa := victim, cls := .invNc, answered := true, origin := .poison }
                                 evictFor := some (sectorOf dpa) }] }
  s.beginSnoops k victim .evict .inv (s.recallTargets e none) dwell

/-- Reserve a directory way for a request that goes from I to a granted state; tells whether the request may go on (R114, R115, R126). -/
def reserveWay (s : State) (k dpa : Nat) : State × Bool :=
  let set := dirSet dpa
  match s.chooseDirWay k set with
  | .free w =>
    let s := if (s.dirAt k set w).st == .p then s.bump64 0x2400 4 else s
    ((s.setDir k set w {}).modTracker dpa fun t => { t with reserved := some w, stage := .ready }, true)
  | .allPinned =>
    let s := s.modTracker dpa fun t => { t with noEntry := true, stage := .ready }
    if s.home.ppFullLogged.contains (k * 32768 + set) then (s, true)
    else (({ s with home := { s.home with ppFullLogged := s.home.ppFullLogged ++ [k * 32768 + set] } } : State).raise
      0x3005 .degraded (.location (128 + k) set 0 0), true)
  | .wait => (s.modTracker dpa fun t => { t with stage := .way }, false)
  | .evict w d =>
    let s := s.modTracker dpa fun t => { t with stage := .way }
    if (s.slice k).trackers.length < 128 then (s.startEviction k set w dpa d, false) else (s, false)

end State

/-! ### Service (R108, R109, R118) -/

/-- Whether a class gives its requester a copy (R105). -/
def ReqClass.grants : ReqClass → Bool
  | .rdS | .rdAny | .rdOwn | .upg => true
  | _ => false

/-- Whether a class is a write-back or clean eviction (R110). -/
def ReqClass.isBack : ReqClass → Bool
  | .wbI | .wbS | .wbE | .clnEvict => true
  | _ => false

namespace State

/-- The end of a transaction (R101). -/
def endTransaction (s : State) (dpa : Nat) : State := s.dropTracker dpa

/-- Answer and end a request that is granted nothing. -/
def finishPlain (s : State) (r : Req) (data : Option SectorData) : State :=
  let s := (s.respond r data .cmp).endTransaction r.dpa
  if r.opcode ≠ 0 && r.cls.isWrite then s.reportStore (homeSlice r.dpa) r.origin false else s

/-- End the transaction of an atomic that is answered (R73). -/
def finishAtomic (s : State) (r : Req) : State :=
  (s.endTransaction r.dpa).reportStore (homeSlice r.dpa) r.origin false

/-- The data that a poisoned sector answers with. -/
def poisonAnswer (dpa : Nat) : SectorData := poisonedSector (Config.poisonData (sectorOf dpa))

/-- Answer a queue's atomic (R118, R145). -/
def answerAtomic (s : State) (r : Req) (old : Word128) (swapped poison : Bool) : State :=
  match r.origin with
  | .queue q pos part =>
    s.toQueue { queue := q, pos := pos, part := part, data := { data := BitVec.ofNat 512 old.toNat }, poison := poison, swapped := swapped }
  | .peer d p _ t =>
    s.sendPeer d vcRsp (16 + bit swapped) t poison p (dpaParity r.dpa) (leBytes old.toNat 16)
  | _ => s

/-- Poisoned write data has been stored for a host or peer (R281). -/
def notePoisonWrite (s : State) (r : Req) : State :=
  if !r.w.poison || r.lost then s
  else match r.origin with
    | .host p _ _ => s.raise 0x700C .note (.memory r.dpa r.ctx r.region 0 0 0) (some p)
    | .peer _ _ _ _ | .io _ _ _ => s.raise 0x700C .note (.memory r.dpa r.ctx r.region 0 0 0)
    | _ => s

/-- Whether a write can enter now: moored memory always, else the write buffer needs room (R68). -/
def writeRoom (s : State) (k dpa : Nat) : Bool := isMoored dpa || s.wbRoom k

/-- Let an ordered write in and count it (R67). -/
def acceptWrite (s : State) (k : Nat) (r : Req) : State :=
  ((s.count (16 * k + 8)).sliceWrite k r r.w).notePoisonWrite r

/-- Serve a write once its snoops are answered: the entry goes to I unless the E holder itself wrote (R109). -/
def serveWrite (s : State) (k : Nat) (r : Req) (keep : Bool) : State :=
  if !s.writeRoom k r.dpa then s.modTracker r.dpa fun t => { t with stage := .writeBuffer }
  else
    let s := s.acceptWrite k r
    let s := if keep then s else s.putDirEntry r.dpa none {}
    s.finishPlain r none

/-- Grant a copy: the entry takes the requester, and the sector stays blocked until the requester acknowledges (R96, R101, R104, R109). -/
def grant (s : State) (t : Tracker) (h : Holder) (excl : Bool) (data : Option SectorData) : State :=
  let r := t.req
  let e := s.dirEntryOf r.dpa
  if t.noEntry then s.finishPlain r data
  else
    let new : DirEntry :=
      if excl then { st := .e, dwell := s.dwellTick, ptrs := [h] }
      else match e.st with
        | .b => { e with scope := e.scope ||| BitVec.ofNat 16 (2 ^ (h.pos / 2)) }
        | .e => { st := .s, ptrs := e.ptrs }
        | .s =>
          if e.ptrs.contains h then e
          else if e.ptrs.length < 4 then { e with ptrs := e.ptrs ++ [h] }
          else { st := .b
                 scope := BitVec.ofNat 16 ((e.ptrs ++ [h]).foldl (fun n x => Nat.lor n (2 ^ (x.pos / 2))) 0) }
        | _ => { st := .s, ptrs := [h] }
    let s := s.putDirEntry r.dpa t.reserved new
    let s := s.modTracker r.dpa fun t => { t with stage := .ack, reserved := none, req := { t.req with answered := true } }
    s.respond r data (if excl then .cmpE else .cmpS)

/-- Whether a request is granted E: RD_OWN and UPG, and RD_ANY from I, but not where an E holder had to answer a BISnpData for it (R109). -/
def grantsExcl (s : State) (r : Req) : Bool :=
  r.cls == .rdOwn || r.cls == .upg ||
    (r.cls == .rdAny && (s.dirEntryOf r.dpa).st == .i && !(s.trackerOf r.dpa).any (·.dataDone))

/-- The data of a read has come: grant or answer (R109). A read that merged into another's register has no transaction of its own (R61). -/
def deliver (s : State) (r : Req) (d : SectorData) : State :=
  match s.trackerOf r.dpa with
  | none => s.respond r (some d) .cmp
  | some t =>
    if t.req.id != r.id then s.respond r (some d) .cmp
    else match s.requester r, r.cls.grants with
      | some h, true => s.grant t h (s.grantsExcl r) (some d)
      | _, _ => s.finishPlain r (some d)

/-- An atomic whose sector is VALID and that waits for the write buffer holds its block (R73). -/
def holdAtomic (s : State) (k dpa : Nat) : State :=
  let set := cacheSet dpa
  match (s.cacheWays k).find? fun w => (s.tagAt k set w).bv && (s.tagAt k set w).tag == cacheTag dpa with
  | none => s
  | some w =>
    if (s.tagAt k set w).sv.getLsbD (sectorInBlock dpa) && !s.cache.atomicHold.contains (tagKey k set w) then
      { s with cache := { s.cache with atomicHold := s.cache.atomicHold ++ [tagKey k set w] } }
    else s

/-- The hold of a block ends (R73). -/
def dropHold (s : State) (k dpa : Nat) : State :=
  { s with cache := { s.cache with
      atomicHold := s.cache.atomicHold.filter fun x => x / 16 != k * 4096 + cacheSet dpa } }

/-- Fetch the data of a read, or perform an atomic (R60, R61, R73). -/
def fetch (s : State) (k : Nat) (r : Req) : State :=
  let wait (s : State) (st : Stage) : State := s.modTracker r.dpa fun t => { t with stage := st }
  if r.cls == .atomic then
    match s.sliceAtomic k r with
    | (s, .done old sw p) => ((s.dropHold k r.dpa).answerAtomic r old sw p).finishAtomic r
    | (s, .register) => wait s .data
    | (s, .queued) => wait s .missWait
    | (s, .full) => wait s .missFull
    | (s, .noRoom) => wait (s.holdAtomic k r.dpa) .writeBuffer
  else
    match s.sliceRead k r with
    | (s, .data d) => s.deliver r d
    | (s, .register) => wait s .data
    | (s, .queued) => wait s .missWait
    | (s, .full) => wait s .missFull

/-- Serve a request to a sector in P or PP from the directory (R109, R118, R125). -/
def servePoisoned (s : State) (k : Nat) (r : Req) : State :=
  match r.cls with
  | .upg | .invNc => s.finishPlain r none
  | .wrNc =>
    if !s.writeRoom k r.dpa then s.modTracker r.dpa fun t => { t with stage := .writeBuffer }
    else if fullMask r.w.mask then
      ((s.acceptWrite k r).putDirEntry r.dpa none {}).finishPlain r none
    else (((s.count (16 * k + 8)).sliceWrite k r { r.w with poison := true }).notePoisonWrite r).finishPlain r none
  | .atomic => (s.answerAtomic r 0 false true).finishAtomic r
  | _ => s.finishPlain r (some (poisonAnswer r.dpa))

/-- Write a poisoned sector with its poison, and pin the entry until the write has ended (R125). -/
def storePoison (s : State) (k : Nat) (t : Tracker) : State × Option Nat :=
  let dpa := t.dpa
  if !s.writeRoom k dpa then (s.modTracker dpa fun t => { t with stage := .writeBuffer }, none)
  else
    let w : WriteData := { data := Config.poisonData dpa, mask := BitVec.allOnes 64, poison := true }
    let s := s.sliceWrite k { t.req with dpa := dpa, origin := .poison } w
    let s := if t.noEntry then s
      else s.putDirEntry dpa t.reserved { st := if isMoored dpa then .p else .pp }
    let s := s.modTracker dpa fun t => { t with poisoning := false, reserved := none, stage := .ready }
    if t.req.origin == .poison then (s.endTransaction dpa, none) else (s, some dpa)

/-- Poison a sector under its tracker: recall every holder without dwell, then store the poison, unless a full-sector write-back came back (R125). -/
def advancePoison (s : State) (k : Nat) (t : Tracker) (e : DirEntry) : State × Option Nat :=
  let dpa := t.dpa
  if t.fullBack then
    let s := s.modTracker dpa fun t => { t with poisoning := false, stage := .ready }
    if t.req.origin == .poison then (s.endTransaction dpa, none) else (s, some dpa)
  else if !t.scopeDone && ((e.st == .s || e.st == .e) && !e.ptrs.isEmpty || e.st == .b) then
    (s.beginSnoops k dpa .poison .inv (s.recallTargets e none) false, some dpa)
  else if e.st == .i && t.reserved.isNone && !t.noEntry then
    let (s, ok) := s.reserveWay k dpa
    (s, if ok then some dpa else none)
  else s.storePoison k t

/-- The home serves the RK read of a sector, and marks its watch entry DIRTY at every write it orders from then on (R258, step 3). -/
def watchSector (s : State) (dpa : Nat) : State :=
  { s with prot := { s.prot with
      watch := mapIf (fun (w : WatchEntry) => w.dpa == dpa && w.reading) (fun w => { w with watched := true }) s.prot.watch } }

/-- Serve a request by the entry as it stands (R108, R109). Gives the sector to look at again when there is more to do. -/
def serve (s : State) (k : Nat) (t : Tracker) : State × Option Nat :=
  let r := t.req
  let dpa := t.dpa
  let (s, _) := s.dirLookup k dpa
  let e : DirEntry := s.dirEntryOf dpa
  let me : Option Holder := s.requester r
  let again := some dpa
  if t.poisoning then s.advancePoison k t e
  else if s.inSetRecall k (dirSet dpa) && e.st == .i && !t.recallDone && r.origin != .poison then
    (s.beginSnoops k dpa .sweep .inv (s.memberPositions.map fun p => .all p none) false, again)
  else
    let mine (h : Holder) : Bool := match me with
      | some m => h == m
      | none => false
    let otherMarker := match me with
      | some m => e.ptrs.find? fun (h : Holder) => h.pos == m.pos && h.port == m.port && h.marker != m.marker
      | none => none
    match otherMarker, me with
    | some h, _ =>
      ((s.bump64 0x2400 9).beginSnoops k dpa .realias .inv [.holder h] false, again)
    | none, some m =>
      if e.st == DirState.b && e.scope.getLsbD (m.pos / 2) && !t.aliasDone then
        ((s.bump64 0x2400 9).beginSnoops k dpa .realias .inv [.portAll m.pos m.port m.marker] false, again)
      else serveClass s k t e mine again
    | none, none => serveClass s k t e mine again
where
  /-- The transition table of R109, with the requester's other copies already recalled. -/
  serveClass (s : State) (k : Nat) (t : Tracker) (e : DirEntry) (mine : Holder → Bool) (again : Option Nat) :
      State × Option Nat :=
    let r := t.req
    let dpa := t.dpa
    let s := if r.origin == .reknit then s.watchSector dpa else s
    let me := s.requester r
    let iHold := e.ptrs.any mine
    let grantFrom (s : State) : State × Option Nat :=
      if e.st == .i && t.reserved.isNone && !t.noEntry then
        let (s, ok) := s.reserveWay k dpa
        (s, if ok then again else none)
      else if r.cls == .upg then
        match me with
        | some h => (s.grant t h true none, none)
        | none => (s.finishPlain r none, none)
      else (s.fetch k r, none)
    match e.st with
    | .p | .pp => (s.servePoisoned k r, none)
    | _ =>
      match r.cls with
      | .rdS | .rdAny =>
        if e.st == .e && !iHold then
          (s.beginSnoops k dpa .serve .data (e.ptrs.map .holder) (!s.dwellOver e), again)
        else grantFrom s
      | .rdNc =>
        if e.st == .e && !iHold && !t.curDone && r.origin != .reknit then
          (s.beginSnoops k dpa .serve .cur (e.ptrs.map .holder) false, again)
        else (s.fetch k r, none)
      | .rdOwn | .upg =>
        if e.st == .b then
          if t.scopeDone then
            let s := s.putDirEntry dpa none {}
            (s.modTracker dpa fun t => { t with scopeDone := false }, again)
          else (s.beginSnoops k dpa .serve .inv (s.recallTargets e me) false, again)
        else if e.ptrs.any (fun h => !mine h) then
          (s.beginSnoops k dpa .serve .inv (s.recallTargets e me) (e.st == .e && !s.dwellOver e), again)
        else grantFrom s
      | .invNc | .atomic =>
        if e.st == .b && !t.scopeDone then
          (s.beginSnoops k dpa .serve .inv (s.recallTargets e me) false, again)
        else if (e.st == .s || e.st == .e) && !e.ptrs.isEmpty then
          (s.beginSnoops k dpa .serve .inv (s.recallTargets e none) (e.st == .e && !iHold && !s.dwellOver e), again)
        else
          let s := s.putDirEntry dpa none {}
          if r.cls == .atomic then (s.fetch k r, none) else (s.finishPlain r none, none)
      | .wrNc =>
        if e.st == .e && iHold then (s.serveWrite k r true, none)
        else if e.st == .b && !t.scopeDone then
          (s.beginSnoops k dpa .serve .inv (s.recallTargets e me) false, again)
        else if (e.st == .s || e.st == .e) && !e.ptrs.isEmpty then
          (s.beginSnoops k dpa .serve .inv (s.recallTargets e none) (e.st == .e && !s.dwellOver e), again)
        else (s.serveWrite k r false, none)
      | _ => (s.finishPlain r none, none)

/-- What follows when every answer to a tracker's snoops is in. -/
def afterSnoops (s : State) (k : Nat) (t : Tracker) (cause : SnoopCause) : State × Option Nat :=
  let s := t.snoops.foldl (fun s n => s.applyAnswer t.dpa n) s
  let s := t.conflicts.foldl (fun s c => s.ackConflict t.dpa c) s
  let ready (f : Tracker → Tracker) : State :=
    s.modTracker t.dpa fun t => { f t with stage := .ready, snoops := [], conflicts := [] }
  match cause with
  | .realias => (ready fun t => { t with aliasDone := true }, some t.dpa)
  | .serve => (ready fun t => { t with
      curDone := t.curDone || t.snoops.any (·.kind == .cur)
      dataDone := t.dataDone || t.snoops.any (·.kind == .data)
      scopeDone := t.scopeDone || t.snoops.any fun n => match n.target with
        | .all _ _ => true
        | _ => false }, some t.dpa)
  | .sweep =>
    if t.req.origin == .poison then (s.endTransaction t.dpa, none)
    else (ready fun t => { t with recallDone := true }, some t.dpa)
  | .poison => (ready fun t => { t with scopeDone := true }, some t.dpa)
  | .evict =>
    let set := dirSet t.dpa
    let way := (List.range 12).find? fun w => (s.dirAt k set w).st != .i && (s.dirAt k set w).tag == dirTag t.dpa
    let s := s.putDirEntry t.dpa none {}
    let s := s.endTransaction t.dpa
    match t.evictFor with
    | none => (s, none)
    | some d =>
      let w := way.orElse fun _ => (List.range 12).find? fun w =>
        (s.dirAt k set w).st == .i && !(s.reservedWays k set).contains w
      (s.modTracker d fun t => { t with reserved := w, stage := .ready }, some d)

/-- Carry a sector's transaction on: answers that are all in take effect, and a transaction that is ready is served. -/
def advance : Nat → State → Nat → State
  | 0, s, _ => s
  | n + 1, s, dpa =>
    match s.trackerOf dpa with
    | none => s
    | some t =>
      let k := homeSlice dpa
      let (s, more) := match t.stage with
        | .snoop cause => if s.snoopsDone t then s.afterSnoops k t cause else (s, none)
        | .ready => s.serve k t
        | _ => (s, none)
      match more with
      | some d => advance n s d
      | none => s

/-- How many turns one command may give a transaction: alias recall, set recall, snoops, eviction, poisoning and service are fewer. -/
def turns : Nat := 16

def carryOn (s : State) (dpa : Nat) : State := advance turns s dpa

/-! ### Write-backs and clean evictions (R107, R110, R112) -/

/-- Whether a running transaction snoops a holder. A holder whose snoop still waits for its dwell counts as snooped (DESIGN CHOICE: R103 speaks of a holder being snooped). -/
def snoopsHolder (t : Tracker) (h : Holder) : Bool :=
  (match t.stage with
    | .snoop _ => true
    | .dwell _ => true
    | _ => false) &&
  t.snoops.any fun n => match n.target with
    | .holder x => x == h
    | .all p ex => p == h.pos && ex != some (h.port, h.marker)
    | .portAll p q m => p == h.pos && q == h.port && m != h.marker

/-- A sector that the home is to poison waits for its transaction to end, or for a tracker; such sectors start in ascending DPA (R100). -/
def awaitPoison (s : State) (dpa region : Nat) : State :=
  let l := s.home.poisonWait
  let before (p : Nat × Nat) : Bool := decide (p.1 < sectorOf dpa)
  if l.any (·.1 == sectorOf dpa) then s
  else { s with home := { s.home with
      poisonWait := l.takeWhile before ++ (sectorOf dpa, region) :: l.dropWhile before } }

/-- Poison a sector: under its running transaction, or as a transaction of the home's own that waits for it (R125). -/
def poisonSector (s : State) (dpa region : Nat) : State :=
  let k := homeSlice dpa
  let r : Req := { origin := .poison, cls := .invNc, dpa := sectorOf dpa, region := region, answered := true }
  match s.trackerOf dpa with
  | some t =>
    match t.stage with
    | .snoop _ => s.modTracker dpa fun t => { t with poisoning := true }
    | .dwell _ =>
      (s.modTracker dpa fun t => { t with poisoning := true, stage := .ready, snoops := [] }).carryOn dpa
    | _ => s.awaitPoison dpa region
  | none =>
    if 128 ≤ (s.slice k).trackers.length then s.awaitPoison dpa region
    else
      let s := s.modSlice k fun x => { x with trackers := x.trackers ++ [{ dpa := sectorOf dpa, req := r, poisoning := true }] }
      s.carryOn dpa

/-- Remove a holder from the entry of a sector. -/
def removeHolder (s : State) (dpa : Nat) (p : Holder → Bool) : State :=
  let e := s.dirEntryOf dpa
  if e.ptrs.any p then
    let ptrs := e.ptrs.filter fun h => !p h
    s.putDirEntry dpa none { e with ptrs := ptrs, st := if ptrs.isEmpty then .i else e.st, dwell := if ptrs.isEmpty then 0 else e.dwell }
  else s

/-- Answer a write-back or clean eviction (R110, R128): writes from the E holder are taken, the rest are violations or change nothing. Gives the state and whether data was taken. -/
def serveBack (s : State) (k : Nat) (r : Req) : State × Bool :=
  let e := s.dirEntryOf r.dpa
  match s.requester r with
  | none => (s.respond r none .cmp, false)
  | some h =>
    let holds := e.ptrs.contains h
    let elsewhere := e.ptrs.any fun x => x.pos == h.pos && x.port == h.port && x.marker != h.marker
    let inScope := e.st == .b && e.scope.getLsbD (h.pos / 2)
    let unknown := s.inSetRecall k (dirSet r.dpa) && e.st == .i
    if r.cls == .clnEvict then
      ((if holds then s.removeHolder r.dpa (· == h) else s).respond r none .cmp, false)
    else if (holds && e.st == .e) || unknown then
      let s := s.acceptWrite k r
      let s := match r.cls, unknown with
        | _, true => s
        | .wbI, _ => s.putDirEntry r.dpa none {}
        | .wbS, _ => s.putDirEntry r.dpa none { st := .s, ptrs := [h] }
        | _, _ => s
      (s.respond r none .cmp, true)
    else if holds || inScope then
      (((s.removeHolder r.dpa (· == h)).violation 0x3014 h.pos h.port r.dpa).respond r none .cmp, false)
    else if elsewhere then
      let s := (s.removeHolder r.dpa fun x => x.pos == h.pos && x.port == h.port).violation 0x3013 h.pos h.port r.dpa
      ((s.respond r none .cmp).poisonSector r.dpa r.region, false)
    else ((s.violation 0x3012 h.pos h.port r.dpa).respond r none .cmp, false)

/-- A write-back or clean eviction from a holder that the running transaction snoops: it passes the block, and its data counts as the snoop's (R103, R112). BIConflicts that waited for it are acknowledged (R111). -/
def absorbBack (s : State) (k : Nat) (t : Tracker) (r : Req) : State :=
  if !s.writeRoom k r.dpa && r.cls != .clnEvict then s.modSlice k fun x => { x with input := r :: x.input }
  else
    let (s, took) := s.serveBack k r
    let s := t.conflicts.foldl (fun s c => s.ackConflict t.dpa c) s
    s.modTracker r.dpa fun t => { t with
      absorbed := t.absorbed || took
      backs := match s.requester r with
        | some h => t.backs ++ [h]
        | none => t.backs
      fullBack := t.fullBack || (took && fullMask r.w.mask && t.stage == .snoop .poison)
      conflicts := [] }

/-! ### Arrival (R100 to R103) -/

/-- Start a request's transaction. -/
def startRequest (s : State) (r : Req) : State :=
  let k := homeSlice r.dpa
  if r.cls.isBack then
    let (s, _) := s.dirLookup k r.dpa
    if !s.writeRoom k r.dpa && r.cls != .clnEvict then s.modSlice k fun x => { x with input := x.input ++ [r] }
    else (s.serveBack k r).1
  else
    let s := s.modSlice k fun x => { x with
      trackers := x.trackers ++ [{ dpa := sectorOf r.dpa, req := r, poisoning := r.origin == .poison }] }
    s.carryOn r.dpa

/-- The rotating pointer after an arrival of step 3 of R100: two arrivals in one cycle are a tie, and the pointer passes the first of them. -/
def noteArrival (s : State) (k : Nat) (r : Req) : State :=
  match s.requester r with
  | none => s
  | some h =>
    if r.cls.isBack then s
    else s.modSlice k fun x =>
      if x.lastArrival = s.now + 1 then { x with tiePointer := (x.lastIndex + 1) % 4096 }
      else { x with lastArrival := s.now + 1, lastIndex := h.index }

/-- Whether the slice takes no further reads and atomics: its miss-wait queue is full (R62). -/
def readsStopped (s : State) (k : Nat) (r : Req) : Bool :=
  (r.cls.isRead || r.cls == .atomic) && 32 ≤ (s.slice k).missWait.length

/-- Whether a request or a poisoning already waits for a sector: later requests wait behind it (R102). -/
def sectorAwaited (s : State) (k dpa : Nat) : Bool :=
  let same (r : Req) : Bool := sectorOf r.dpa == sectorOf dpa
  (s.slice k).blocked.any same || (s.slice k).input.any same || s.home.poisonWait.any (·.1 == sectorOf dpa)

/-- Whether an arrival finds no tracker: every one is taken, or belongs to a request that has waited for one longer (R101, R102). -/
def trackersTaken (s : State) (k : Nat) : Bool :=
  let due := (s.slice k).blocked.filter fun r => (s.trackerOf r.dpa).isNone
  decide (128 ≤ (s.slice k).trackers.length + due.length)

/-- The register that a read joins while another read of its sector waits for the same fill (R61, R74): both are reads that grant nothing, so the home's order of the two cannot be seen, and nothing waits between them. Any other second read of the sector waits in the blocked-line queue (DESIGN CHOICE: R61 would merge it, R101 and R102 block it). -/
def joinsFill (s : State) (k : Nat) (t : Tracker) (r : Req) : Option MissReg :=
  if t.stage == .data && t.req.cls == .rdNc && r.cls == .rdNc && !s.sectorAwaited k r.dpa then
    (s.mergeable k r.dpa).filter fun m => !m.full
  else none

/-- A decoded and admitted request reaches its home (R100 to R103). -/
def arrive (s : State) (r : Req) : State :=
  let k := homeSlice r.dpa
  let s := s.noteArrival k r
  match s.trackerOf r.dpa with
  | some t =>
    if r.cls.isBack && (s.requester r).any (snoopsHolder t) then (s.absorbBack k t r).carryOn r.dpa
    else match s.joinsFill k t r with
      | some m => s.mergeInto k m r
      | none => s.blockRequest k r
  | none =>
    if s.readsStopped k r then s.modSlice k fun x => { x with input := x.input ++ [r] }
    else if s.sectorAwaited k r.dpa || s.trackersTaken k then s.blockRequest k r
    else s.startRequest r

/-- A request crosses into its slice pound, a write with its data (R277). A control word that is lost stops the device, which answers the request as it stops. -/
def enterSlice (s : State) (r : Req) : State :=
  let (s, known) := s.control 371
  if !known then s
  else if r.cls.isWrite || r.cls.isBack then
    let (s, w) := s.payloadWrite (homeSlice r.dpa) (sliceBuffer 3) r.w
    s.arrive { r with w := w, lost := w.poison && !r.w.poison }
  else s.arrive r

/-! ### Departures (R122) -/

/-- Purge a position, or one of its ports, from the directory: pointers are removed, E entries are poisoned, and snoops outstanding to it end. Gives the number of sectors poisoned. -/
def purgeHolders (s : State) (p : Holder → Bool) (pos : Nat) (port : Option Nat) : State × Nat :=
  let (s, n) := s.home.dir.foldl (init := (s, 0)) fun (s, n) (key, e) =>
    if e.ptrs.any p then
      let k := key / 12 / 32768
      let dpa := dirSector k (key / 12 % 32768) e.tag
      let s := s.removeHolder dpa p
      if e.st == .e then (s.poisonSector dpa 0, n + 1) else (s, n)
    else (s, n)
  let hit (t : SnoopTarget) : Bool := match t, port with
    | .holder h, _ => p h
    | .all q _, none => q == pos
    | .portAll q _ _, none => q == pos
    | .portAll q r _, some x => q == pos && r == x
    | .all _ _, some _ => false
  let s := match port with
    | some x => { s with home := { s.home with
        bisnps := s.home.bisnps.filter (·.port != x), walks := s.home.walks.filter (·.port != x) } }
    | none => s
  let settle (t : Tracker) : Tracker :=
    { t with snoops := mapIf (fun n => hit n.target) (fun n => { n with waiting := 0 }) t.snoops }
  let settleSlice (x : Slice) : Slice := { x with trackers := x.trackers.map settle }
  let s : State := { s with slices := Table.mapVals {} settleSlice s.slices }
  let snooping (t : Tracker) : Option Nat := match t.stage with
    | .snoop _ => some t.dpa
    | _ => none
  let dpas := (s.slices.map fun (q : Nat × Slice) => q.2.trackers.filterMap snooping).flatten
  (dpas.foldl (fun s d => s.carryOn d) s, n)

end State
end Sys2Proof.Machine
end

