-- ==== Sys2Proof/Machine/Tenant.lean ====
section
/-! DEFINITION. Stitch markers, contexts and admission: the decode of a request with its lookaside buffers, decode faults, the regulator, forwarding to peers, and the host request rows (R31 to R50, R105, R117, R120, R123, R305 to R314). -/

namespace Sys2Proof.Machine

/-! ### Contexts (R32, R129) -/

namespace State

/-- Whether a context may issue requests: VALID, not FROZEN, and not a host context of a suspect port under SUSPECT_ACTION 1. -/
def ctxOpen (s : State) (c : Nat) : Bool :=
  ctxValid (s.ctxWord c) && !ctxFrozen (s.ctxWord c) &&
    !(decide (c < 8192) && (s.port (c / 64)).suspect && s.reg 0x2421 3 == 1)

/-! ### Lookaside buffers (R43, R134) -/

end State

/-- The place of a unit in the table of lookaside buffers. -/
def lookKey : LookUnit → Nat
  | .quad q => q
  | .qp n => 128 + n

/-- Entries of a unit: 4,096 in a quad, 256 in a queue processor; four ways a set. -/
def lookSets : LookUnit → Nat
  | .quad _ => 1024
  | .qp _ => 64

/-- The leaky bucket of a unit's lookaside parity (R283). -/
def lookBucket : LookUnit → Nat
  | .quad q => 192 + q
  | .qp n => 320 + n

/-- The granule number of a window offset in 2 MiB units. -/
def granuleOf (unit gran : Nat) : Nat := unit / granUnits gran

/-- Whether an entry decodes a request: a quad's tag leaves the port out (R43, R134). -/
def LaEntry.hits (e : LaEntry) (unit : LookUnit) (port marker off : Nat) : Bool :=
  e.marker == marker && e.granule == granuleOf (off >>> 21) e.gran &&
    match unit with
    | .quad _ => true
    | .qp _ => e.port == port

/-- The entry of the smallest granule that hits. -/
def probe (l : List LaEntry) (unit : LookUnit) (port marker off : Nat) : Option LaEntry :=
  [0, 1, 2, 3].findSome? fun g => l.find? fun e => e.gran == g && e.hits unit port marker off

/-- Mark an entry recently used; when every way of its set would be, the others are marked not recently used. -/
def touchEntry (l : List LaEntry) (slot : Nat) : List LaEntry :=
  let l := mapIf (·.slot == slot) (fun e => { e with used := true }) l
  let set := l.filter fun e => e.slot / 4 == slot / 4
  if set.length == 4 && set.all (·.used) then
    mapIf (fun e => e.slot / 4 == slot / 4 && e.slot != slot) (fun e => { e with used := false }) l
  else l

/-- The way of a set to fill: a free one, or the first not recently used. -/
def fillWay (l : List LaEntry) (set : Nat) : Nat :=
  match (List.range 4).find? fun w => !(l.any fun e => e.slot == set * 4 + w) with
  | some w => w
  | none => ((List.range 4).find? fun w => l.any fun e => e.slot == set * 4 + w && !e.used).getD 0

/-- The place that a new entry takes. -/
def fillSlot (l : List LaEntry) (unit : LookUnit) (marker off : Nat) (d : BitVec 64) : Nat :=
  let g := sdGran d
  let set := Config.lookasideSet (lookKey unit) marker g (granuleOf (off >>> 21) g) % (lookSets unit)
  set * 4 + fillWay l set

/-- Fill an entry. -/
def fillEntry (l : List LaEntry) (slot port marker off : Nat) (d : BitVec 64) : List LaEntry :=
  touchEntry ((l.filter fun e => e.slot != slot) ++
    [{ port := port, marker := marker, gran := sdGran d, granule := granuleOf (off >>> 21) (sdGran d), datum := d, slot := slot }]) slot

namespace State

def look (s : State) (u : LookUnit) : Lookaside := Table.get {} s.tenant.look (lookKey u)

def modLook (s : State) (u : LookUnit) (f : Lookaside → Lookaside) : State :=
  { s with tenant := { s.tenant with look := Table.modify {} s.tenant.look (lookKey u) f } }

/-- Probe a unit's lookaside: an entry with a parity error is invalidated with event 8106 and does not decode (R46, R47). -/
def lookProbe (s : State) (u : LookUnit) (port marker off : Nat) : State × Option (BitVec 64) :=
  if s.reg 0x2020 1 = 0 then (s, none)
  else match probe (s.look u).entries u port marker off with
    | none => (s, none)
    | some e =>
      if s.damageAt (lookBucket u) e.slot = 0 then
        (s.modLook u fun l => { l with entries := touchEntry l.entries e.slot }, some e.datum)
      else
        let src := s.errSource (lookBucket u) e.slot .access
        let s := (s.setDamage (lookBucket u) e.slot 0).modLook u fun l => { l with entries := l.entries.filter (·.slot != e.slot) }
        (s.reportError (lookBucket u) false
          { code := 0x8106, cls := .note, source := src, detail := .location (lookBucket u) e.slot 0 0 } e.slot 0, none)

/-- A unit's lookaside takes an entry; the word it is written to loses the errors it had. -/
def lookFill (s : State) (u : LookUnit) (port marker off : Nat) (d : BitVec 64) : State :=
  let slot := fillSlot (s.look u).entries u marker off d
  (s.modLook u fun l => { l with entries := fillEntry l.entries slot port marker off d }).wordWritten (lookBucket u) slot

/-! ### Decode (R46 to R48) -/

/-- The HPA that a decode started from. -/
def decodeHpa (s : State) (t : Txn) : Nat := (s.port t.port).hdmBase.getD 0 + t.marker * 2 ^ 46 + t.offset

/-- A decode fault: counted for the context, logged once per context and interval (R48). The request goes on to be answered. -/
def decodeFault (s : State) (t : Txn) (code : Nat) : State × Txn :=
  let c := t.req.ctx
  let due := match (s.acct c).loggedAt with
    | none => true
    | some at_ => decide (at_ + s.reg 0x2020 3 * 1000 ≤ s.now)
  let s := s.modAcct c fun a => { a with
    faults := sat32 (a.faults + 1), lastEvent := code, loggedAt := if due then some s.now else a.loggedAt }
  let s := if due then s.logEvent { code := code, cls := .contained, port := some t.port, ownInterval := true
                                    detail := .host (s.decodeHpa t) c 0 } else s
  (s, { t with fault := code, decoded := true })

end State

/-- Whether a PERM field admits an operation: bit 0 READ, bit 1 WRITE, bit 2 ATOMIC. -/
def AccessOp.allowed (op : AccessOp) (perm : Nat) : Bool :=
  match op with
  | .read => perm.testBit 0
  | .write => perm.testBit 1
  | .atomic => perm.testBit 2
  | .search => true

/-- The request that a system-chart datum decodes to. -/
def decoded (t : Txn) (d : BitVec 64) : Req :=
  let hi := ((t.offset >>> 21) + sdDelta d) % 2 ^ 25
  { t.req with
    dpa := hi % 2 ^ 24 * 2 ^ 21 + t.offset % 2 ^ 21
    region := sdRegion d, svc := sdSvc d, cached := sdPolicy d == 0, kind := sdKind d, targetDev := sdTargetDev d }

namespace State

/-- The end of a decode that has its datum: FROZEN and PERM, then the DPA. -/
def finishDecode (s : State) (t : Txn) (d : BitVec 64) : State × Txn :=
  if sdFrozen d then s.decodeFault t 0x8102
  else if !(t.access.allowed (sdPerm d) && t.access.allowed (ctxPerm (s.ctxWord t.req.ctx))) then s.decodeFault t 0x8103
  else (s, { t with req := decoded t d, decoded := true })

/-- Put a transaction among those that the device holds. -/
def holdTxn (s : State) (t : Txn) : State := { s with tenant := { s.tenant with txns := s.tenant.txns ++ [t] } }

def modTxn (s : State) (id : Nat) (f : Txn → Txn) : State :=
  { s with tenant := { s.tenant with txns := mapIf (·.req.id == id) f s.tenant.txns } }

def txn (s : State) (id : Nat) : Option Txn := s.tenant.txns.find? (·.req.id == id)

/-- Ask the search engine for a system-chart row, or wait on the miss that is out for the same marker and 2 MiB granule; beyond 32 misses the request waits until one completes (R44). -/
def lookMiss (s : State) (u : LookUnit) (t : Txn) : State :=
  let unit := t.offset >>> 21
  let same (m : LaMiss) : Bool := m.port == t.port && m.marker == t.marker && m.unit == unit
  if (s.look u).misses.any same then
    s.modLook u fun l => { l with misses := mapIf same (fun m => { m with txns := m.txns ++ [t.req.id] }) l.misses }
  else if 32 ≤ (s.look u).misses.length then s.modLook u fun l => { l with held := l.held ++ [t.req.id] }
  else
    let s := match u with
      | .quad q => s.count (1024 + 2 * q + 1)
      | .qp _ => s
    let (id, s) := s.fresh
    let m : LaMiss := { search := id, port := t.port, marker := t.marker, unit := unit
                        purges := (s.look u).purges, txns := [t.req.id] }
    let s := s.modLook u fun l => { l with misses := l.misses ++ [m] }
    let r : SearchReq := { id := id, chart := 0, key := BitVec.ofNat 512 (sysKey t.port t.marker unit), cls := .region
                           source := .lookup u, arrived := s.now }
    { s with search := { s.search with waiting := s.search.waiting ++ [r] } }

/-! ### Answers without a home (R47, R123) -/

/-- Answer a request that goes nowhere: a host read with poisoned zeros, other host requests with their completion, a queue with the event. -/
def answerNowhere (s : State) (r : Req) (code : Nat) : State :=
  match r.origin with
  | .queue q pos part => s.toQueue { queue := q, pos := pos, part := part, fault := code }
  | _ => s.respond r (if r.cls.isRead then some (poisonedSector 0) else none) .cmp

end State

/-! ### Forwarding (R30, R120, R123, R351, R352) -/

/-- The class that a request takes across a reach link, and none for one that is completed without effect (R120). A WB_E, which no cross-flight host can owe, travels as the other write-backs. -/
def ReqClass.acrossFlights : ReqClass → Option ReqClass
  | .rdS | .rdAny | .rdOwn | .rdNc => some .rdNc
  | .wrNc | .wbI | .wbS | .wbE => some .wrNc
  | .atomic => some .atomic
  | .upg | .invNc | .clnEvict => none

/-- The OP of a forwarded request: a queue's OPCODE, else its class (R352). -/
def forwardOp (r : Req) : Nat :=
  match r.origin, r.cls with
  | .queue _ _ _, _ => r.opcode
  | .io _ _ _, .rdNc => opIoRead
  | .io _ _ _, _ => opIoWrite
  | _, c => opClass c

/-- The operands of an atomic as the further units of a REQ body. -/
def opBytes : AtomicOp → List Byte
  | .cas c n => leBytes c.toNat 16 ++ leBytes n.toNat 16
  | .swap n => leBytes n.toNat 16
  | .fadd a => leBytes a.toNat 16

/-- The further word of a queue's operation: LENGTH in [15:0] and PAIR in [16] (R352). -/
def queueWord (r : Req) : List Byte :=
  match r.origin with
  | .queue _ _ _ => beBytes (r.len + bit r.pair * 2 ^ 16) 8
  | _ => []

/-- What a fence waits for of a request that goes to a peer home: a store or atomic of a queue (R157). -/
def peerStores (r : Req) (tag : Nat) : List PeerStore :=
  match r.origin with
  | .queue q _ _ => if r.cls.isRead then [] else [{ peer := r.targetDev, tag := tag, queue := q, bulk := r.bulk }]
  | _ => []

namespace State

/-- Why a device cannot be reached (R123, Table: Absent-part reasons). -/
def unreachable (s : State) (dev parity : Nat) : Option Nat :=
  if !s.isActiveMember dev && !s.isQuarantined dev then some 1
  else if s.isQuarantined dev then some 2
  else if (s.pathTo dev parity).isNone then some 3
  else none

/-- The answer for a peer target that cannot be reached: event 300A and the answers of R123. -/
def answerUnreachable (s : State) (r : Req) (port reason : Nat) : State :=
  (s.logEvent { code := 0x300A, cls := .contained, port := some port, detail := .peer r.targetDev 0 reason 0 0 }).answerNowhere r 0x300A

/-- Forward a request to its home on a peer. -/
def forwardRequest (s : State) (r : Req) (port marker : Nat) : State :=
  let par := dpaParity r.dpa
  match s.unreachable r.targetDev par with
  | some reason => s.answerUnreachable r port reason
  | none =>
    match (if r.targetDev / 32 = s.flight then some r.cls else r.cls.acrossFlights) with
    | none => s.respond r none .cmp
    | some cls =>
      let r := { r with cls := cls }
      let (tag, s) := s.freshTag
      let f : Forwarded := { peer := r.targetDev, tag := tag, txn := r }
      let s := { s with link := { s.link with forwarded := s.link.forwarded ++ [f], stores := s.link.stores ++ peerStores r tag } }
      let body := reqBody (r.dpa + r.off) marker r.svc ++ queueWord r
      if cls.isWrite then
        s.sendPeer r.targetDev vcRwd (forwardOp r) tag r.w.poison port par
          (body ++ sectorBytes r.w.data ++ if fullMask r.w.mask then [] else beBytes r.w.mask.toNat 8)
      else
        s.sendPeer r.targetDev vcReq (forwardOp r) tag false port par
          (body ++ (match r.op with
            | some op => opBytes op
            | none => []))

/-- Whether a queue's command cannot run at the target that its decode shows: an atomic, or an entry with PAIR, in a CANAL_PEER region (UNSUPPORTED_TARGET, R159). -/
def unsupportedTarget (t : Txn) : Bool := t.req.kind == 3 && (t.access == .atomic || t.req.pair)

/-- A decoded request goes to its slice, or to its peer. -/
def toHome (s : State) (t : Txn) : State :=
  if t.req.kind < 2 then
    let (s, r) := s.firstPart t.req
    s.enterSlice r
  else s.forwardRequest t.req t.port t.marker

/-- A decoded request leaves the quad or queue processor: answered at once after a decode fault, to the search engine, to its slice, or to its peer (R46, R47). -/
def goHome (s : State) (t : Txn) : State :=
  if t.fault ≠ 0 then s.answerNowhere t.req t.fault
  else match t.searchKey, t.req.origin with
  | some (chart, key), .queue q pos part =>
    let r : SearchReq := { id := t.req.id, chart := chart, key := key, cls := .localSearch, source := .queue q pos part
                           arrived := s.now }
    { s with search := { s.search with waiting := s.search.waiting ++ [r] } }
  | some _, _ => s
  | none, .queue q pos part =>
    if unsupportedTarget t then s.toQueue { queue := q, pos := pos, part := part, fault := 1 }
    else match t.forwarded with
    | some d => s.toQueue { queue := q, pos := pos, part := part, data := d }
    | none => s.toHome t
  | none, _ => s.toHome t

/-! ### The regulator (R306 to R312) -/

/-- The class of a request of a context as it stands (R306). -/
def classify (s : State) (c : Nat) : SlotClass :=
  let w := s.ctxWord c
  let a := s.acct c
  if !ctxValid w then .demoted
  else if a.guaranteed < ctxGuarantee w then .guaranteed
  else if a.held < ctxBudget w then .normal (ctxPriority w)
  else .demoted

/-- Whether a class has a free slot, when `ahead` requests that wait have a claim to free slots before it, `aheadShared` of them to shared ones (R306 to R309). -/
def slotFree (s : State) (cl : SlotClass) (ahead : Nat) (aheadShared : Nat := 0) : Bool :=
  decide (s.tenant.slotsG + s.tenant.slotsShared + ahead < 32768) &&
    match cl with
    | .guaranteed => true
    | _ => decide (s.tenant.slotsShared + aheadShared < s.sharedPool)

/-- Whether a request that reaches the regulator finds a free slot of its class: what waits goes first, GUARANTEED requests behind GUARANTEED ones only (R309). -/
def newcomerFree (s : State) (cl : SlotClass) : Bool :=
  let g := (s.tenant.waiting.filter fun id => (s.txn id).any (·.cls == .guaranteed)).length
  match cl with
  | .guaranteed => s.slotFree cl g
  | _ => s.slotFree cl s.tenant.waiting.length (s.tenant.waiting.length - g)

/-- The lowest slot number that nobody holds. -/
def freeSlotNo (s : State) : Nat :=
  let held := s.tenant.txns.filterMap fun t => if t.req.slot.isSome then some t.slotNo else none
  ((List.range (held.length + 1)).find? fun n => !held.contains n).getD 0

/-- Whether the regulator has made its 64 admissions of this cycle (R310). -/
def cycleFull (s : State) : Bool := s.tenant.admitAt == s.now && decide (64 ≤ s.tenant.admitted)

/-- What the fields of a request's context say of it at its admission: VALID, FROZEN and PERM as they are then (R34, R46). The region's part of the decode stands. -/
def contextGate (s : State) (t : Txn) : State × Txn :=
  if t.fault ≠ 0 then (s, t)
  else if !s.ctxOpen t.req.ctx then s.decodeFault t 0x8104
  else if t.access.allowed (ctxPerm (s.ctxWord t.req.ctx)) then (s, t)
  else s.decodeFault t 0x8103

/-- Admit a transaction: it takes a slot of its class and leaves for its home (R305, R306, R310). -/
def admitTxn (s : State) (t : Txn) (waited aged : Bool) : State :=
  let (s, t) := s.contextGate t
  let c := t.req.ctx
  let n := s.freeSlotNo
  let g := t.cls == .guaranteed
  let s := s.modAcct c fun a => { a with
    held := a.held + 1
    guaranteed := if g then a.guaranteed + 1 else a.guaranteed
    peak := max a.peak (a.held + 1)
    demoted := if t.cls == .demoted then a.demoted + 1 else a.demoted }
  let s := { s with tenant := { s.tenant with
      slotsG := if g then s.tenant.slotsG + 1 else s.tenant.slotsG
      slotsShared := if g then s.tenant.slotsShared else s.tenant.slotsShared + 1
      admitAt := s.now
      admitted := if s.tenant.admitAt = s.now then s.tenant.admitted + 1 else 1 } }
  let s := s.count (1600 + match t.cls with
    | .normal l => l
    | .demoted => 8
    | .guaranteed => 9)
  let s := if waited then s.count 1610 else s
  let s := if aged then s.count 1611 else s
  let s := (s.regWriteWord (occWord c)).regWriteWord (slotWord n)
  let t := { t with req := { t.req with slot := some t.cls }, slotNo := n }
  (s.modTxn t.req.id fun _ => t).goHome t

/-- The requests of a unit that await admission, those that still wait for their decode among them (R311). -/
def awaiting (s : State) (u : LookUnit) : Nat :=
  (s.tenant.txns.filter fun t => t.unit == u && t.req.slot.isNone && !t.req.cls.isBack).length

/-- Event 8005 once per fill of a unit's admission buffer (R311). -/
def noteAwaiting (s : State) (u : LookUnit) : State :=
  let full := decide (64 ≤ s.awaiting u)
  let logged := (s.look u).fullLogged
  if full == logged then s
  else
    let s := s.modLook u fun l => { l with fullLogged := full }
    if full then
      let (b, i) := match u with
        | .quad q => (192, q)
        | .qp n => (320, n)
      s.raise 0x8005 .note (.location b i 0 0)
    else s

/-- A request that reaches the regulator is classified, and is admitted at once or waits (R306, R309, R313). -/
def seekSlot (s : State) (u : LookUnit) (t : Txn) : State :=
  let cl := s.classify t.req.ctx
  let lat := ctxLatBound (s.ctxWord t.req.ctx)
  let t := { t with
    cls := cl, arrived := s.now
    deadline := if cl == .guaranteed && lat != 0 then s.now + lat * 10 else 0
    level := match cl with
      | .normal l => l
      | _ => 0 }
  let s := s.modTxn t.req.id fun _ => t
  if s.newcomerFree cl then
    (s.admitTxn t false false).noteAwaiting u
  else
    ({ s with tenant := { s.tenant with waiting := s.tenant.waiting ++ [t.req.id] } } : State).noteAwaiting u

/-- The regulator reads the words that an admission writes: the occupancy word of the context and the word of the slot. Tells whether the admission can go on (R314). -/
def admissionWords (s : State) (c : Nat) : State × Bool :=
  let n := s.freeSlotNo
  let (s, ok0) := s.regCheckWord (occWord c)
  let (s, ok1) := s.regCheckWord (slotWord n)
  (s, ok0 && ok1 && !s.regWaits c n)

/-- The oldest request at a unit's regulator interface reaches the regulator, in a cycle with room and with its words readable (R310, R314). -/
def admitOldest (s : State) (u : LookUnit) : State :=
  match (s.look u).toRegulator with
  | [] => s
  | id :: rest =>
    let leave (s : State) : State := s.modLook u fun l => { l with toRegulator := rest }
    match s.txn id with
    | none => leave s
    | some t =>
      if s.cycleFull then s
      else
        let (s, ok) := s.admissionWords t.req.ctx
        if ok then (leave s).seekSlot u t else s

/-- A decoded transaction comes to its unit's regulator interface, and is admitted at once when nothing is ahead of it. -/
def toRegulator (s : State) (u : LookUnit) (t : Txn) : State :=
  let first := (s.look u).toRegulator.isEmpty
  let s := (s.modLook u fun l => { l with toRegulator := l.toRegulator ++ [t.req.id] }).noteAwaiting u
  if first then s.admitOldest u else s

/-- A waiting request with the class, level and deadline that its context's fields give it (R306, R309, R313). -/
def withClass (s : State) (t : Txn) (cl : SlotClass) : Txn :=
  let lat := ctxLatBound (s.ctxWord t.req.ctx)
  { t with
    cls := cl
    deadline := if cl == .guaranteed && lat != 0 then t.arrived + lat * 10 else 0
    level := match cl with
      | .normal l => l
      | _ => 0 }

/-- A context is written: its requests that wait for a slot are admitted under the new values, with the slots that it holds then (R34, R308). -/
def reclassify (s : State) (c : Nat) : State :=
  let mine (t : Txn) : Bool := t.req.ctx == c && s.tenant.waiting.contains t.req.id
  { s with tenant := { s.tenant with
      txns := mapIf mine (fun t => { s.withClass t (s.classify c) with stale := true }) s.tenant.txns } }

/-- Waiting requests in the order in which a slot is offered (R309). -/
def offerOrder (s : State) : List (Txn × Bool) :=
  let ts := (s.tenant.waiting.filterMap s.txn).map fun t => if t.stale then s.withClass t (s.classify t.req.ctx) else t
  let old (t : Txn) : Bool := decide (t.arrived + s.reg 0x4400 6 * 1000 ≤ s.now)
  let g (t : Txn) : Bool := t.cls == .guaranteed
  (ts.filter g).map (·, false) ++ (ts.filter fun t => !g t && old t).map (·, true) ++
    ([7, 6, 5, 4, 3, 2, 1, 0].map fun l => (ts.filter fun t => !g t && !old t && t.level == l).map (·, false)).flatten

/-- Offer a freed slot (R309). -/
def offerSlot (s : State) : State :=
  if s.cycleFull then s
  else match s.offerOrder.find? fun p => s.slotFree p.1.cls 0 && !s.regWaits p.1.req.ctx s.freeSlotNo with
    | none => { s with tenant := { s.tenant with offers := s.tenant.offers - 1 } }
    | some (t, aged) =>
      let (s, ok) := s.admissionWords t.req.ctx
      if ok then
        let s := { s with tenant := { s.tenant with
          offers := s.tenant.offers - 1, waiting := s.tenant.waiting.filter (· != t.req.id) } }
        (s.admitTxn t true aged).noteAwaiting t.unit
      else s

/-- A deadline of R313 has passed with its transaction outstanding. -/
def noteGuaranteeMiss (s : State) (t : Txn) : State :=
  let s := s.modTxn t.req.id fun t => { t with missed := true }
  let c := t.req.ctx
  let s := (s.modAcct c fun a => { a with gmisses := sat32 (a.gmisses + 1) }).count 1612
  (s.deadlineMiss 5).raise 0x8001 .contained (.host 0 c 0) (some (ctxPort c (s.ctxWord c)))

/-- GUARANTEE_MISS of a transaction: once, at or after its deadline. -/
def guaranteeMissed (s : State) (id : Nat) : State :=
  match s.txn id with
  | none => s
  | some t => if t.deadline = 0 || s.now < t.deadline || t.missed || t.req.answered then s else s.noteGuaranteeMiss t

/-! ### Requests that enter at a port (R46, R105, R117) -/

/-- The quads of a port, and the one that decodes an address (R43). -/
def decodeQuad (s : State) (port hpa : Nat) : Nat :=
  pcFirstQuad (s.port port).cfg + bits hpa 21 2 % pcQuads (s.port port).cfg

/-- Whether the quads hand out CXL.mem credits: not in the start-up window, a warm reset or a power failure; CXL.io serves in the window too (R419, R422, R428). -/
def creditsOut (s : State) (io : Bool) : Bool := s.power.device == .running || (io && s.power.device == .window)

/-- Whether a port takes memory requests to an address: it is an UP host port with credits, and the address lies in its committed HDM range; the IDE condition withholds the credits of CXL.mem alone (R16, R337). -/
def portServes (s : State) (port hpa : Nat) (io : Bool) : Bool :=
  let p := s.port port
  s.creditsOut io && p.st == .up && Table.get 0 s.link.quads (pcFirstQuad p.cfg) == 1 &&
    (io || !pcIdeRequired p.cfg || p.ide == 1) && p.hdmBase == some (hpaRange hpa * 2 ^ 52)

/-- Whether a message of a port waits in a slice's input: a write (M2S RwD), or another request (M2S Req) (R62, R68, R102). -/
def inputHolds (s : State) (port : Nat) (write : Bool) : Bool :=
  s.slices.any fun (p : Nat × Slice) => p.2.input.any fun r => r.cls.isWrite == write && match r.origin with
    | .host q _ _ => q == port
    | _ => false

/-- Whether the quad has returned credits for one more message. M2S Req credits are withheld while a 33rd distinct miss waits (R44) or a slice holds back a Req of the port (R62, R102), M2S RwD credits while a slice holds back a write of it (R68), and both while the admission buffer is full, which write-backs and clean evictions pass (R311). -/
def quadTakes (s : State) (u : LookUnit) (port : Nat) (cls : ReqClass) (io : Bool) : Bool :=
  (io || cls.isWrite || ((s.look u).held.isEmpty && (s.look u).ingress.isEmpty)) &&
    (io || !s.inputHolds port cls.isWrite) && (cls.isBack || decide (s.awaiting u < 64))

/-- Whether a Req message can arrive on a credit that is returned for a BISnp outstanding to the port through the quad, up to 32 at a time (R103). -/
def ingressRoom (s : State) (u : LookUnit) (port : Nat) : Bool :=
  let out := (s.home.bisnps.filter fun b => b.port == port && b.answer == 9 && LookUnit.quad (s.decodeQuad port b.hpa) == u).length
  decide ((s.look u).ingress.length < min 32 out)

/-- A transaction has its decode: write-backs and clean evictions take no slot and go on, the others come to the regulator (R305). -/
def afterDecode (s : State) (u : LookUnit) (t : Txn) : State :=
  let s := s.modTxn t.req.id fun _ => t
  if t.req.cls.isBack then s.goHome t else s.toRegulator u t

/-- Decode a transaction at its unit, or have it wait for the system chart (R46). -/
def decodeTxn (s : State) (u : LookUnit) (t : Txn) : State :=
  if !s.ctxOpen t.req.ctx then
    let (s, t) := s.decodeFault t 0x8104
    s.afterDecode u t
  else
    let (s, d) := s.lookProbe u t.port t.marker t.offset
    match d with
    | some d =>
      let (s, t) := s.finishDecode t d
      s.afterDecode u t
    | none => s.lookMiss u t

/-- Who a request of a port comes from (R16). -/
def hostOrigin (port hpa tag : Nat) (io : Bool) : Origin :=
  if io then .io port (hpaMarker hpa) tag else .host port (hpaMarker hpa) tag

/-- A request that its quad takes: it is counted, held as a transaction and decoded (R43, R46, R316). -/
def takeRequest (s : State) (port hpa tag : Nat) (cls : ReqClass) (w : WriteData) (io : Bool) : State :=
  let u := LookUnit.quad (s.decodeQuad port hpa)
  let m := hpaMarker hpa
  let s := if io then s else s.count (1024 + 2 * s.decodeQuad port hpa)
  let (id, s) := s.fresh
  let t : Txn := {
    req := { id := id, origin := hostOrigin port hpa tag io, cls := cls, ctx := port * 64 + m, w := w }
    unit := u, access := if cls.isWrite then .write else .read
    port := port, marker := m, offset := hpaOffset hpa }
  ((s.holdTxn t).noteAwaiting u).decodeTxn u t

/-- A Req message waits in the ingress store of its quad (R103). -/
def holdIngress (s : State) (u : LookUnit) (port hpa tag : Nat) (cls : ReqClass) : State :=
  s.modLook u fun l => { l with ingress := l.ingress ++ [{ port := port, hpa := hpa, tag := tag, cls := cls }] }

/-- The oldest message of a quad's ingress store is taken once the quad returns credits again (R103). -/
def drainIngress (s : State) (u : LookUnit) : State :=
  match (s.look u).ingress with
  | [] => s
  | m :: rest =>
    let left := s.modLook u fun l => { l with ingress := rest }
    if s.isFatal then
      left.answerStopped { origin := hostOrigin m.port m.hpa m.tag false, cls := m.cls, ctx := m.port * 64 + hpaMarker m.hpa }
    else if (s.port m.port).st != .up then left
    else if s.portServes m.port m.hpa false && (s.modLook u fun l => { l with ingress := [] }).quadTakes u m.port m.cls false then
      left.takeRequest m.port m.hpa m.tag m.cls ⟨0, 0, false⟩ false
    else s

/-- A malformed M2S message, whose reserved bits are not 0: event 3016; a read is answered with MemData-NXM, another message completes without effect (R105, R128). -/
def malformedRequest (s : State) (port hpa tag : Nat) (cls : ReqClass) : State :=
  let s := s.violation 0x3016 s.position port 0
  if s.portSilent port then s
  else s.emit (.s2m port (tag % 65536) none false cls.isRead (if cls.isRead then none else some .cmp) (s.devLoad (port * 64 + hpaMarker hpa)))

/-- A memory request of a host enters at its port. -/
def hostRequest (s : State) (port hpa tag : Nat) (cls : ReqClass) (w : WriteData) (io : Bool) : State :=
  let u := LookUnit.quad (s.decodeQuad port hpa)
  if s.isFatal then s.answerStopped { origin := hostOrigin port hpa tag io, cls := cls, ctx := port * 64 + hpaMarker hpa }
  else if !s.portServes port hpa io then s
  else if !io && decide (65536 ≤ tag) then s.malformedRequest port hpa tag cls
  else if s.quadTakes u port cls io then s.takeRequest port hpa tag cls w io
  else if !io && !cls.isWrite && s.ingressRoom u port then s.holdIngress u port hpa tag cls
  else s

/-- A system-chart result returns to its unit: it decodes the requests that waited for it, and fills the lookaside unless a purge came between (R44 to R46). -/
def lookReturned (s : State) (u : LookUnit) (m : LaMiss) : State :=
  let r := m.result.getD 0
  let off := m.unit * 2 ^ 21
  let s := s.modLook u fun l => { l with misses := l.misses.filter (·.search != m.search) }
  let s := if rrMatch r && !rrError r && m.purges == (s.look u).purges && s.reg 0x2020 1 == 1
    then s.lookFill u m.port m.marker off (rrDatum r) else s
  let s := m.txns.foldl (fun s id =>
    match s.txn id with
    | none => s
    | some t =>
      let (s, t) :=
        if rrError r then s.decodeFault t 0x8105
        else if !rrMatch r then s.decodeFault t 0x8101
        else s.finishDecode t (rrDatum r)
      let s := s.modTxn id fun _ => t
      if t.req.cls.isBack then s.goHome t
      else (s.modLook u fun l => { l with toRegulator := l.toRegulator ++ [id] }).noteAwaiting u) s
  let held := (s.look u).held
  held.foldl (fun s id => match s.txn id with
    | none => s
    | some t => s.decodeTxn u t) (s.modLook u fun l => { l with held := [] })

/-- LOOKASIDE_MISS_RESULT of the oldest result that has returned to a unit. -/
def lookResult (s : State) (u : LookUnit) : State :=
  match (s.look u).misses.find? (·.result.isSome) with
  | none => s
  | some m => s.lookReturned u m

end State

/-! ### The rows -/

/-- RD_S: a host MemRd with MetaValue S (R109). -/
def execRdS (port hpa tag : Nat) (s : State) : Host.Outcome State Fault Refusal :=
  run (.rdS port hpa tag) s fun s => s.hostRequest port hpa tag .rdS ⟨0, 0, false⟩ false

/-- RD_ANY: a host MemRdData (R109). -/
def execRdAny (port hpa tag : Nat) (s : State) : Host.Outcome State Fault Refusal :=
  run (.rdAny port hpa tag) s fun s => s.hostRequest port hpa tag .rdAny ⟨0, 0, false⟩ false

/-- RD_OWN: a host MemRd with MetaValue A (R109). -/
def execRdOwn (port hpa tag : Nat) (s : State) : Host.Outcome State Fault Refusal :=
  run (.rdOwn port hpa tag) s fun s => s.hostRequest port hpa tag .rdOwn ⟨0, 0, false⟩ false

/-- UPG: a host MemInv with MetaValue A (R109). -/
def execUpg (port hpa tag : Nat) (s : State) : Host.Outcome State Fault Refusal :=
  run (.upg port hpa tag) s fun s => s.hostRequest port hpa tag .upg ⟨0, 0, false⟩ false

/-- RD_NC: a host uncached read (R109). -/
def execRdNc (port hpa tag : Nat) (s : State) : Host.Outcome State Fault Refusal :=
  run (.rdNc port hpa tag) s fun s => s.hostRequest port hpa tag .rdNc ⟨0, 0, false⟩ false

/-- INV_NC: a host MemInv or MemInvNT with MetaValue I (R109). -/
def execInvNc (port hpa tag : Nat) (s : State) : Host.Outcome State Fault Refusal :=
  run (.invNc port hpa tag) s fun s => s.hostRequest port hpa tag .invNc ⟨0, 0, false⟩ false

/-- WR_NC: a host MemWr or MemWrPtl with MetaField No-Op (R109). -/
def execWrNc (port hpa tag : Nat) (w : WriteData) (s : State) : Host.Outcome State Fault Refusal :=
  run (.wrNc port hpa tag w) s fun s => s.hostRequest port hpa tag .wrNc w false

/-- WB_I: a host write-back that keeps no copy (R110). -/
def execWbI (port hpa tag : Nat) (w : WriteData) (s : State) : Host.Outcome State Fault Refusal :=
  run (.wbI port hpa tag w) s fun s => s.hostRequest port hpa tag .wbI w false

/-- WB_S: a host write-back that keeps a shared copy (R110). -/
def execWbS (port hpa tag : Nat) (w : WriteData) (s : State) : Host.Outcome State Fault Refusal :=
  run (.wbS port hpa tag w) s fun s => s.hostRequest port hpa tag .wbS w false

/-- WB_E: a host write-back that keeps the sector exclusive (R110). -/
def execWbE (port hpa tag : Nat) (w : WriteData) (s : State) : Host.Outcome State Fault Refusal :=
  run (.wbE port hpa tag w) s fun s => s.hostRequest port hpa tag .wbE w false

/-- CLN_EVICT: a host MemClnEvct (R110). -/
def execClnEvict (port hpa tag : Nat) (s : State) : Host.Outcome State Fault Refusal :=
  run (.clnEvict port hpa tag) s fun s => s.hostRequest port hpa tag .clnEvict ⟨0, 0, false⟩ false

/-- SPEC: a host MemSpecRd is received and dropped without a response (R105). -/
def execSpec (port hpa tag : Nat) (s : State) : Host.Outcome State Fault Refusal :=
  run (.spec port hpa tag) s fun s =>
    if s.isFatal || !s.portServes port hpa false then s
    else if 65536 ≤ tag then s.violation 0x3016 s.position port 0
    else s.count (1024 + 2 * s.decodeQuad port hpa)

/-- CXL_IO_MEMORY_REQUEST: a CXL.io read, served as RD_NC, or write, served as an invalidating write (R117). -/
def execCxlIoMemoryRequest (port hpa tag : Nat) (w : Option WriteData) (s : State) : Host.Outcome State Fault Refusal :=
  run (.cxlIoMemoryRequest port hpa tag w) s fun s =>
    match w with
    | none => s.hostRequest port hpa tag .rdNc ⟨0, 0, false⟩ true
    | some w => s.hostRequest port hpa tag .wrNc w true

/-- LOOKASIDE_MISS_RESULT: the oldest returned system-chart result of a unit (R44). -/
def execLookasideMissResult (unit : LookUnit) (s : State) : Host.Outcome State Fault Refusal :=
  run (.lookasideMissResult unit) s fun s => s.lookResult unit

/-- SLOT_OFFER: a freed slot is offered to the waiting requests (R309). -/
def execSlotOffer (s : State) : Host.Outcome State Fault Refusal := run .slotOffer s State.offerSlot

/-- GUARANTEE_MISS: a GUARANTEED transaction is outstanding past its deadline (R313). -/
def execGuaranteeMiss (txn : Nat) (s : State) : Host.Outcome State Fault Refusal :=
  run (.guaranteeMiss txn) s fun s => s.guaranteeMissed txn

/-- REGULATOR_WORD_RESTORE: an uncorrectable word is restored from its copy, and the releases that waited for it go on (R314). -/
def execRegulatorWordRestore (word : Nat) (s : State) : Host.Outcome State Fault Refusal :=
  run (.regulatorWordRestore word) s fun s =>
    if !s.tenant.regRestore.contains word then s
    else
      let held := s.tenant.heldReleases
      let s := { s.setDamage 369 word 0 with tenant := { s.tenant with
          regRestore := s.tenant.regRestore.filter (· != word), heldReleases := [] } }
      held.foldl (fun s id => s.releaseSlot id) s

end Sys2Proof.Machine
end

