-- ==== Sys2Proof/Machine/SliceRows.lean ====
section
/-! DEFINITION. The rows of the cache slices: fills, waiting reads and writes, prefetches, merge entries, losses, drydock, and the cache function with mooring (R56 to R86). -/

namespace Sys2Proof.Machine
namespace State

/-! ### Fills (R56, R66, R70, R73) -/

/-- One request of a register gets its data: an atomic is performed, a read is delivered. -/
def serveFilled (s : State) (k : Nat) (r : Req) (d : SectorData) : State :=
  if r.cls == .atomic then
    if !s.writeRoom k r.dpa then (s.holdAtomic k r.dpa).modTracker r.dpa fun t => { t with stage := .writeBuffer }
    else match s.atomicOn k r d with
      | (s, .done old sw p) => ((s.dropHold k r.dpa).answerAtomic r old sw p).finishAtomic r
      | (s, _) => s
  else s.deliver r d

/-- Retire write-buffer entries as LOST, counting them, and queue stores and bulk sectors at their queue (R70, R72, R161). -/
def loseEntries (s : State) (k : Nat) (ids : List Nat) : State :=
  let lost := (s.slice k).writeBuf.filter fun e => ids.contains e.id
  let s := s.modSlice k fun x => { x with writeBuf := x.writeBuf.filter fun e => !ids.contains e.id }
  lost.foldl (fun s e =>
    let s := s.bump32 0x2200 7
    match e.origin with
    | .queue q _ _ => s.loseStore q e.bulk
    | o => if e.report then s.reportStore k o true else s) s

/-- The pool read of a merge returns: the merged bytes over it go out as one full sector; over a sector that cannot be verified they go out poisoned and their entries are lost with event 2009 (R70). -/
def finishMergeRead (s : State) (k : Nat) (m : MissReg) (d : SectorData) : State :=
  match (s.slice k).mergeBuf.find? fun e => sectorOf e.dpa == sectorOf m.dpa && e.reading with
  | none => s
  | some e =>
    let bad := d.isPoisoned
    let full : WriteData := { data := mergeBytes d.data e.w.data e.w.mask, mask := BitVec.allOnes 64, poison := bad || e.w.poison }
    let s := if bad then (s.loseEntries k e.entries).raise 0x2009 .contained (sliceDetail e.dpa 0 e.region 0 0) else s
    let s := s.modSlice k fun x => { x with
      mergeBuf := mapIf (fun y => y.dpa == e.dpa && y.reading)
        (fun y => { y with w := full, reading := false, entries := if bad then [] else y.entries }) x.mergeBuf }
    (s.finishMerge k e.dpa).rejoinMerges k

/-- Atomics that wait for an eligible way of a set choose again (R73). -/
def retryWays (s : State) (k set : Nat) : State :=
  ((s.slice k).missRegs.filter fun m => m.stage == .waitWay && cacheSet m.dpa == set).foldl (fun s m =>
    if (s.chooseVictim k set).isSome then s.startFill k m none else s) s

/-- The fill of a register: each sector that has returned is installed or discarded by its mark, and the demand and merged requests are answered; the register is released with its last sector. -/
def fillReturned (s : State) (k : Nat) (m : MissReg) : State :=
  let s := match m.demandData with
    | none => s
    | some d =>
      let (s, d) := s.payload k (sliceBuffer 2) d
      let s := s.modReg k m.id fun m => { m with demandDone := true, demandData := none }
      if m.use == MissUse.merge then s.finishMergeRead k m d
      else
        let s := s.installSector k m.dpa m.way m.demandMark d
        let s := if m.use == MissUse.demand then s.serveFilled k m.req d else s
        m.merged.foldl (fun s r => s.serveFilled k r d) s
  let s := match m.prefetchData with
    | none => s
    | some d =>
      let (s, d) := s.payload k (sliceBuffer 2) d
      let s := s.modReg k m.id fun m => { m with prefetchDone := true, prefetchData := none }
      let s := s.installSector k (nextSector m.dpa) m.way m.prefetchMark d
      m.mergedNext.foldl (fun s r => s.serveFilled k r d) s
  let ended (x : MissReg) : Bool := x.id == m.id && x.demandDone && (!x.prefetch || x.prefetchDone)
  (s.modSlice k fun x => { x with missRegs := x.missRegs.filter fun x => !ended x }).retryWays k (cacheSet m.dpa)

/-- FILL of a register that is in use. -/
def fillRegister (s : State) (k id : Nat) : State :=
  match (s.slice k).missRegs.find? (·.id == id) with
  | none => s
  | some m => s.fillReturned k m

/-! ### Waiting reads and writes (R62, R63, R68) -/

/-- The oldest read in the miss-wait queue repeats its lookup, when a register is free for it. -/
def serveMissWait (s : State) (k : Nat) : State :=
  match (s.slice k).missWait with
  | [] => s
  | r :: rest =>
    let stuck := match s.mergeable k r.dpa with
      | some m => m.full
      | none => decide (64 ≤ (s.slice k).missRegs.length)
    if stuck then s
    else
      let s := (s.modSlice k fun x => { x with missWait := rest }).fetch k r
      match (s.slice k).trackers.find? fun t => t.stage == .missFull with
      | some t => (s.modTracker t.dpa fun t => { t with stage := .ready }).carryOn t.dpa
      | none => s

/-- A register that waited for the write buffer issues its pool read once no entry of its sector is left. -/
def issueWaited (s : State) (k id : Nat) : State :=
  match (s.slice k).missRegs.find? fun m => m.id == id && m.stage == .waitWriteBuffer with
  | none => s
  | some m =>
    if s.wbHolds k m.dpa then s
    else
      let (s, way) := if s.cacheOn then s.lookupTag k m.dpa else (s, none)
      if m.req.cls == .atomic && s.cacheOn && way.isNone && (s.chooseVictim k (cacheSet m.dpa)).isNone then
        s.modReg k m.id fun m => { m with stage := .waitWay }
      else s.startFill k m way

/-- A prefetch handed over by another slice is allocated with PFO = 1, or dropped (R64). -/
def takeHandoff (s : State) (dpa region svc : Nat) : State :=
  let k := homeSlice dpa
  let s := { s with cache := { s.cache with handoffs := s.cache.handoffs.erase (dpa, region, svc) } }
  if !s.cacheOn then s.count (16 * k + 5)
  else
    let (s, way) := s.lookupTag k dpa
    let busy := match way with
      | some w => s.sectorBusy k dpa w
      | none => (s.chooseVictim k (cacheSet dpa)).isNone
    if busy || s.reg 0x2200 5 != 1 || s.wbHolds k dpa || decide (64 ≤ (s.slice k).missRegs.length) then s.count (16 * k + 5)
    else
      (s.count (16 * k + 3)).takeRegister k { origin := .prefetch, dpa := dpa, region := region, svc := svc } .prefetch way

/-- CROSS_BLOCK_PREFETCH of a prefetch that another slice has handed over. -/
def crossPrefetch (s : State) (dpa region svc : Nat) : State :=
  if !s.cache.handoffs.contains (dpa, region, svc) then s
  else s.takeHandoff dpa region svc

/-- A write that waited for room enters the write buffer: a transaction that holds its sector first, then the oldest write in the slice input that nothing blocks (R68, R103). -/
def admitWrite (s : State) (k : Nat) : State :=
  if !s.wbRoom k then s
  else match (s.slice k).trackers.find? fun t => t.stage == .writeBuffer with
    | some t => (s.modTracker t.dpa fun t => { t with stage := .ready }).carryOn t.dpa
    | none =>
      let ready (r : Req) : Bool := (r.cls.isWrite || r.cls.isBack) && (match s.trackerOf r.dpa, s.requester r with
        | none, _ => true
        | some t, some h => r.cls.isBack && snoopsHolder t h
        | some _, none => false)
      match (s.slice k).input.find? ready with
      | none => s
      | some r =>
        let s := s.modSlice k fun x => { x with input := x.input.erase r }
        match s.trackerOf r.dpa with
        | some t => (s.absorbBack k t r).carryOn r.dpa
        | none => s.startRequest r

/-! ### Merge entries and losses (R69 to R72) -/

def expireMerge (s : State) (k dpa : Nat) : State :=
  if (s.slice k).mergeBuf.any fun e => e.dpa == sectorOf dpa && !e.closed && s.mergeExpired e then s.closeMerge k dpa else s

/-- A pool write to a sector is lost: its entries retire as LOST, a resident sector becomes INVALID and the home poisons the sector (R72). -/
def loseWrite (s : State) (dpa region : Nat) (ids : List Nat) : State :=
  let k := homeSlice dpa
  let s := s.loseEntries k ids
  let s := s.raise 0x2008 .contained (sliceDetail (sectorOf dpa) 0 region 0 0)
  (s.invalidateSector k dpa).poisonSector dpa region

/-- A pool write of data has ended: its entries retire, or are lost (R68, R72); a poison write reports to the home (R125). -/
def endPoolWrite (s : State) (o : PoolOp) (ok : Bool) : State :=
  let k := homeSlice o.dpa
  let retired (s : State) : State :=
    let mine := (s.slice k).writeBuf.filter fun e => o.entries.contains e.id
    (mine.filter (·.report)).foldl (fun s e => s.reportStore k e.origin false)
      (s.modSlice k fun x => { x with writeBuf := x.writeBuf.filter fun e => !o.entries.contains e.id })
  if o.poisonWrite then
    let s := retired s
    { s with home := { s.home with poisonDone := s.home.poisonDone ++ [(sectorOf o.dpa, ok)] } }
  else if ok then retired s
  else s.loseWrite o.dpa o.region o.entries

/-! ### Drydock (R78, R80) -/

/-- Whether the next multiple of a leak interval has passed, in ns. -/
def leakDue (s : State) (cls intervalMs : Nat) : Bool :=
  decide (Table.get 0 s.ras.leakStart cls + (Table.get 0 s.ras.leakDone cls + 1) * intervalMs * 1000000 ≤ s.now)

/-- A multiple of a leak interval is done. -/
def leakStep (s : State) (cls : Nat) : State :=
  { s with ras := { s.ras with leakDone := Table.modify 0 s.ras.leakDone cls (· + 1) } }

def drydockLeak (s : State) : State :=
  if !s.leakDue 15 (s.reg 0x2230 2) then s
  else { s.leakStep 15 with cache := { s.cache with drydock := Table.mapVals 0 (· - 1) s.cache.drydock } }

/-! ### The cache function (R82 to R86) -/

/-- Write every tag with BV = 0 and correct parity (R82). -/
def clearTags (s : State) : State :=
  { s with
    cache := { s.cache with tags := [] }
    ras := { s.ras with damage := s.ras.damage.filter fun p => !(decide (64 ≤ p.1 / 2 ^ 32) && decide (p.1 / 2 ^ 32 < 128)) } }

/-- Every merge entry closes (R84). -/
def closeAllMerges (s : State) : State :=
  (s.slices.map (·.1)).foldl (fun s k =>
    ((s.slice k).mergeBuf.filter fun e => !e.closed).foldl (fun s e => s.closeMerge k e.dpa) s) s

/-- CACHE_ENABLE by the cache's state (R85). -/
def cacheEnable (s : State) (ticket : Nat) : State :=
  match s.cache.st with
  | .enabled => s.endCmd ticket 0
  | .draining | .invalidating =>
    if s.cache.deferredEnable then s.endCmd ticket 0x2210
    else ({ s with cache := { s.cache with deferredEnable := true } } : State).endCmd ticket 2
  | .stale => s.endCmd ticket 0x2211
  | .clean => ({ s with cache := { s.cache with st := .enabled } } : State).endCmd ticket 0

/-- CACHE_DISABLE by the cache's state (R84, R85). -/
def cacheDisable (s : State) (ticket : Nat) : State :=
  match s.cache.st with
  | .enabled =>
    let ids := (s.slices.map fun (p : Nat × Slice) => p.2.writeBuf.map (·.id)).flatten
    (({ s with cache := { s.cache with st := .draining, drainIds := ids } } : State).closeAllMerges).endCmd ticket 1
  | .draining | .invalidating => ({ s with cache := { s.cache with deferredEnable := false } } : State).endCmd ticket 1
  | .stale | .clean => s.endCmd ticket 0

/-- CACHE_INVALIDATE by the cache's state (R85). -/
def cacheInvalidate (s : State) (ticket : Nat) : State :=
  match s.cache.st with
  | .enabled => s.endCmd ticket 0x2210
  | .draining => ({ s with cache := { s.cache with pendingInvalidate := true } } : State).endCmd ticket 3
  | .invalidating => s.endCmd ticket 3
  | .stale | .clean => { s with cache := { s.cache with invalidate := some ticket } }

/-- DRAINING ends (R84, R86). -/
def drainDone (s : State) : State :=
  let ids := (s.slices.map fun (p : Nat × Slice) => p.2.writeBuf.map (·.id)).flatten
  let installs := s.slices.any fun (p : Nat × Slice) => p.2.missRegs.any fun m => m.way.isSome
  if s.cache.st != .draining || s.cache.drainIds.any ids.contains || installs then s
  else if s.cache.pendingInvalidate then
    { s with cache := { s.cache with st := .invalidating, pendingInvalidate := false, drainIds := [] } }
  else
    let late := s.cache.deferredEnable
    let s := { s with cache := { s.cache with st := .stale, deferredEnable := false, drainIds := [] } }
    if late then s.raise 0x200A .note else s

/-- The invalidate pass ends (R85, R86). -/
def passDone (s : State) : State :=
  match s.cache.st, s.cache.invalidate with
  | .invalidating, _ =>
    let s := s.clearTags
    { s with cache := { s.cache with st := if s.cache.deferredEnable then .enabled else .clean, deferredEnable := false } }
  | .stale, some t | .clean, some t =>
    let s := s.clearTags
    ({ s with cache := { s.cache with st := .clean, invalidate := none } } : State).endCmd t 0
  | _, _ => s

/-! ### Mooring and undrydocking (R77, R80) -/

/-- The ways that change between two moored way counts. -/
def changingWays (a b : Nat) : List Nat := (List.range 16).filter fun w => decide (16 - max a b ≤ w) && decide (w < 16 - min a b)

/-- Set the mode of ways in every slice. -/
def setModes (s : State) (ways : List Nat) (m : WayMode) : State :=
  (List.range 64).foldl (fun s k => ways.foldl (fun s w => s.setWayMode k w m) s) s

/-- Zero ways of the slices that a test names: their data, tags and the errors of the words written. -/
def zeroWays (s : State) (p : Nat → Nat → Bool) : State :=
  { s with
    cache := { s.cache with
      data := s.cache.data.filter fun d => !p (d.1 / 16 / 16 / 4096) (d.1 / 16 % 16)
      tags := s.cache.tags.filter fun d => !p (d.1 / 16 / 4096) (d.1 % 16) }
    ras := { s.ras with damage := s.ras.damage.filter fun d =>
      !(decide (d.1 / 2 ^ 32 < 64) && p (d.1 / 2 ^ 32) (d.1 % 2 ^ 32 / 64 % 16)) } }

/-- Whether an ACTIVE LOCAL_MOORED region reaches the capacity of `w` ways or above. -/
def mooredInUse (s : State) (w : Nat) : Bool :=
  s.tenant.regions.any fun (p : Nat × Region) => p.2.st == .active && rdKind p.2.desc1 == 1 &&
    decide (2 ^ 44 + w * 2 ^ 28 < (rdDpaBase p.2.desc0 + rdUnits p.2.desc0) * 2 ^ 21)

/-- CACHE_MOOR's checks, and the changing ways enter TRANSITION (R77, R87). -/
def cacheMoor (s : State) (ticket w' : Nat) : State :=
  let w := s.cache.moored
  let ways := changingWays w w'
  if 14 < w' then s.endCmd ticket 0x2212
  else if s.cache.st == .draining || s.cache.st == .invalidating then s.endCmd ticket 0x2210
  else if w < w' && (List.range 64).any fun k =>
      (ways.any fun x => s.wayMode k x == .drydocked) ||
        decide (((List.range (16 - w')).filter fun x => s.wayMode k x == .cache).length < 2) then s.endCmd ticket 0x2213
  else if w' < w && s.mooredInUse w' then s.endCmd ticket 0x2214
  else if w' = w then s.endCmd ticket 0
  else
    let s := s.setModes ways .transition
    { s with cache := { s.cache with mooring := some (ticket, w'), zeroing := decide (w' < w) } }

/-- No sector of the changing ways is FILLING: their blocks are invalidated and the zeroing starts. -/
def moorFillsDone (s : State) : State :=
  match s.cache.mooring with
  | none => s
  | some (_, w') =>
    let ways := changingWays s.cache.moored w'
    if s.cache.zeroing || s.cache.tags.any fun t => ways.contains (t.1 % 16) && t.2.sf != 0 then s
    else { s with cache := { s.cache with
        zeroing := true, tags := s.cache.tags.filter fun t => !ways.contains (t.1 % 16) } }

/-- CACHE_UNDRYDOCK's checks; the way is then zeroed (R80, R87). -/
def cacheUndrydock (s : State) (ticket slice way : Nat) : State :=
  if 63 < slice || 15 < way || s.wayMode slice way != .drydocked then s.endCmd ticket 0x2212
  else if s.cache.st == .draining || s.cache.st == .invalidating then s.endCmd ticket 0x2210
  else { s with cache := { s.cache with undrydock := some (ticket, slice, way) } }

/-- The zeroing of ways ends (R77, steps 4 and 5; R80). -/
def zeroingDone (s : State) : State :=
  match s.cache.mooring, s.cache.undrydock with
  | some (t, w'), _ =>
    if !s.cache.zeroing then s
    else
      let w := s.cache.moored
      let ways := changingWays w w'
      let s := (s.zeroWays fun _ x => ways.contains x).setModes ways (if w < w' then .moored else .cache)
      ({ s with cache := { s.cache with moored := w', mooring := none, zeroing := false } } : State).endCmd t 0
  | none, some (t, k, w) =>
    let s := s.modSlice k fun x => { x with missRegs := mapIf (·.way == some w) (fun r => { r with way := none }) x.missRegs }
    let s := (s.zeroWays fun x y => x == k && y == w).setWayMode k w .cache
    ({ s with cache := { s.cache with
        undrydock := none, drydock := Table.set 0 s.cache.drydock (k * 16 + w) 0 } } : State).endCmd t 0
  | none, none => s

end State

/-! ### The rows -/

/-- FILL: the fill of a miss register arrives at its slice (R56). -/
def execFill (slice reg : Nat) (s : State) : Host.Outcome State Fault Refusal :=
  run (.fill slice reg) s fun s => s.fillRegister slice reg

/-- MISS_WAIT_SERVE: the oldest waiting read repeats its lookup (R62). -/
def execMissWaitServe (slice : Nat) (s : State) : Host.Outcome State Fault Refusal :=
  run (.missWaitServe slice) s fun s => s.serveMissWait slice

/-- WRITE_BUFFER_WAIT_READ_ISSUE: a read that waited for the write buffer issues its pool read (R63). -/
def execWriteBufferWaitReadIssue (slice reg : Nat) (s : State) : Host.Outcome State Fault Refusal :=
  run (.writeBufferWaitReadIssue slice reg) s fun s => s.issueWaited slice reg

/-- CROSS_BLOCK_PREFETCH: a prefetch of sector 0 of the next block (R64). -/
def execCrossBlockPrefetch (dpa region svc : Nat) (s : State) : Host.Outcome State Fault Refusal :=
  run (.crossBlockPrefetch dpa region svc) s fun s => s.crossPrefetch dpa region svc

/-- WRITE_BUFFER_ADMIT: a write that waited for room enters the write buffer (R68). -/
def execWriteBufferAdmit (slice : Nat) (s : State) : Host.Outcome State Fault Refusal :=
  run (.writeBufferAdmit slice) s fun s => s.admitWrite slice

/-- MERGE_WINDOW_EXPIRY: a merge entry has been open for MERGE_WINDOW (R69). -/
def execMergeWindowExpiry (slice dpa : Nat) (s : State) : Host.Outcome State Fault Refusal :=
  run (.mergeWindowExpiry slice dpa) s fun s => s.expireMerge slice dpa

/-- PENDING_POOL_WRITE_ISSUE: the next write to a sector leaves once the earlier one has completed (R71). -/
def execPendingPoolWriteIssue (slice dpa : Nat) (s : State) : Host.Outcome State Fault Refusal :=
  run (.pendingPoolWriteIssue slice dpa) s fun s => s.sendNext slice dpa

/-- DRYDOCK_LEAK: a multiple of DRYDOCK_LEAK_INTERVAL passes (R78). -/
def execDrydockLeak (s : State) : Host.Outcome State Fault Refusal := run .drydockLeak s State.drydockLeak

/-- CACHE_DRAIN_DONE: DRAINING ends (R86). -/
def execCacheDrainDone (s : State) : Host.Outcome State Fault Refusal := run .cacheDrainDone s State.drainDone

/-- INVALIDATE_PASS_DONE: the tag pass ends (R86). -/
def execInvalidatePassDone (s : State) : Host.Outcome State Fault Refusal := run .invalidatePassDone s State.passDone

/-- MOOR_FILLS_DONE: no sector of the changing ways is FILLING (R77). -/
def execMoorFillsDone (s : State) : Host.Outcome State Fault Refusal := run .moorFillsDone s State.moorFillsDone

/-- WAY_ZEROING_DONE: the zeroing of ways ends (R77, R80). -/
def execWayZeroingDone (s : State) : Host.Outcome State Fault Refusal := run .wayZeroingDone s State.zeroingDone

end Sys2Proof.Machine
end

