-- ==== Sys2Proof/Machine/HomeRows.lean ====
section
/-! DEFINITION. The rows of the home: acknowledgements, waiting requests, dwell, snoop answers and their translation, the conflict handshake, poison, retired intervals, set recall, and requests of peers (R97 to R127). -/

namespace Sys2Proof.Machine
namespace State

/-! ### Waiting requests (R101, R102, R114) -/

/-- The requester's acknowledgement ends a granting transaction (R101). -/
def ackGrant (s : State) (dpa : Nat) : State :=
  match s.trackerOf dpa with
  | some t => if t.stage == .ack then s.endTransaction dpa else s
  | none => s

/-- A request waits for a directory way, no eviction runs for it, and a way can be had now (R114, R115). -/
def wayReady (s : State) (k : Nat) (t : Tracker) : Bool :=
  t.stage == .way && !((s.slice k).trackers.any fun x => x.evictFor == some t.dpa) &&
    match s.chooseDirWay k (dirSet t.dpa) with
    | .wait => false
    | .evict _ _ => decide ((s.slice k).trackers.length < 128)
    | _ => true

/-- Requests that wait at the slice input enter the blocked-line queue as it has room; a further fill of it logs event 3006 anew (R102). -/
def refillBlocked (s : State) (k : Nat) : State :=
  if 32 ≤ (s.slice k).blocked.length then s
  else
    let s := s.modSlice k fun x => { x with blockedLogged := false }
    let passes (r : Req) : Bool := r.cls.isBack && (s.trackerOf r.dpa).any fun t => (s.requester r).any (snoopsHolder t)
    let blocked (r : Req) : Bool := (s.trackerOf r.dpa).isSome || (s.slice k).blocked.any fun b => sectorOf b.dpa == sectorOf r.dpa
    let moves (r : Req) : Bool := !passes r && !s.readsStopped k r && (blocked r || !r.cls.isBack && !r.cls.isWrite)
    match (s.slice k).input.find? moves with
    | none => s
    | some r =>
      let s := s.modSlice k fun x => { x with input := x.input.erase r }
      if blocked r || s.trackersTaken k then s.blockRequest k r else s.startRequest r

/-- The next waiting request of a slice starts: one that waits for a directory way, a poisoning of the home's own, else the oldest of the blocked-line queue whose sector is free (R100, R102, R114). -/
def startBlocked (s : State) (k : Nat) : State :=
  match (s.slice k).trackers.find? (s.wayReady k) with
  | some t => (s.modTracker t.dpa fun t => { t with stage := .ready }).carryOn t.dpa
  | none =>
    let free (r : Req) : Bool := (s.trackerOf r.dpa).isNone && !s.readsStopped k r &&
      decide ((s.slice k).trackers.length < 128)
    let due (p : Nat × Nat) : Bool := homeSlice p.1 == k && (s.trackerOf p.1).isNone && decide ((s.slice k).trackers.length < 128)
    match s.home.poisonWait.find? due, (s.slice k).blocked.find? free with
    | some p, _ =>
      ({ s with home := { s.home with poisonWait := s.home.poisonWait.erase p } } : State).poisonSector p.1 p.2
    | none, none => s.refillBlocked k
    | none, some r => ((s.modSlice k fun x => { x with blocked := x.blocked.erase r }).startRequest r).refillBlocked k

/-- The dwell of the holder elapses: the snoops that waited for it leave (R104). -/
def dwellElapsed (s : State) (dpa : Nat) : State :=
  match s.trackerOf dpa with
  | none => s
  | some t =>
    match t.stage with
    | .dwell cause =>
      if s.dwellOver (s.dirEntryOf dpa) then
        let s := s.modTracker dpa fun t => { t with
          stage := .snoop cause, since := s.now, snoops := t.snoops.map fun n => { n with sent := true } }
        (t.snoops.foldl (fun s n => s.sendSnoop (homeSlice dpa) t.dpa n) s).carryOn dpa
      else s
    | _ => s

/-! ### Snoops of peers' homes and the reverse walker (R97, R351) -/

end State

/-- The answer code of a BIRsp on the SNR channel; 3 stands for one that is not allowed. -/
def worstAnswer (l : List BiSnp) : Nat := l.foldl (fun n b => max n b.answer) 0

/-- Port and marker that an answer on the SNR channel carries. -/
def snoopNames : SnoopWhom → Nat × Nat
  | .one p m => (p, m)
  | .all _ => (0, 0)
  | .portAll p m => (p, m)

namespace State

/-- A peer's snoop whose answers are all in is answered to its home (R97). -/
def answerPeerSnoop (s : State) (id : Nat) : State :=
  match s.home.peerSnoops.find? (·.id == id) with
  | none => s
  | some p =>
    let mine := s.home.bisnps.filter (·.group == id)
    if (mine.any (·.answer == 9)) || (s.home.walks.any (·.group == id)) then s
    else
      let s := { s with home := { s.home with
          bisnps := s.home.bisnps.filter (·.group != id)
          peerSnoops := s.home.peerSnoops.filter (·.id != id) } }
      s.sendPeer p.home vcSnr (worstAnswer mine) 0 false (snoopNames p.whom).1 (dpaParity p.dpa) (reqBody p.dpa (snoopNames p.whom).2 0)

/-- A snoop of a peer's home arrives (R97, R98, R351). -/
def peerSnoop (s : State) (home : Nat) (kind : SnoopKind) (whom : SnoopWhom) (dpa : Nat) : State :=
  let (id, s) := s.fresh
  let p : PeerSnoop := { id := id, home := home, dpa := sectorOf dpa, whom := whom }
  let s := { s with home := { s.home with peerSnoops := s.home.peerSnoops ++ [p] } }
  let s := match whom with
    | .one port m => s.snoopLocal port m (sectorOf dpa) home kind id
    | .all ex => s.snoopAllLocal (sectorOf dpa) home kind ex id
    | .portAll port m => s.snoopPortLocal (sectorOf dpa) home port m kind id
  s.answerPeerSnoop id

/-- The reverse walker ends: it fills the translation buffer when it found four offsets or fewer, and the BISnps leave (R97). A buffer that holds its 256 lines drops the oldest of them (DESIGN CHOICE: the manual names no victim). -/
def walkFound (s : State) (port marker : Nat) (w : SnoopWalk) : State :=
  let s := s.readRecordWord (mapRecord (w.dpa >>> 21))
  let units := (s.revHits w.home w.dpa port marker).map (revOffset w.dpa)
  let l : StbLine := { home := w.home, port := port, marker := marker, unit := w.dpa >>> 21, offsets := units.take 4
                       complete := true }
  let mine := s.home.stb.filter (·.port == port)
  let stb := if units.length ≤ 4 then
      (if 256 ≤ mine.length then s.home.stb.erase (mine.headD l) else s.home.stb) ++ [l]
    else s.home.stb
  let s := { s with home := { s.home with walks := s.home.walks.erase w, stb := stb } }
  let s := s.sendBisnps port marker w.dpa w.home w.kind w.group units
  if w.group = 0 then s.carryOn w.dpa else s.answerPeerSnoop w.group

/-- REVERSE_WALK_DONE of a walk that runs. -/
def walkDone (s : State) (port dpa marker : Nat) : State :=
  match s.home.walks.find? fun w => w.port == port && w.dpa == sectorOf dpa && w.marker == marker with
  | none => s
  | some w => s.walkFound port marker w

/-! ### Snoop answers (R106, R107, R128) -/

end State

/-- Whether an answer (0 BIRspI, 1 BIRspS, 2 BIRspE) is allowed for a snoop (Table: Snoops and answers). -/
def answerAllowed (kind : SnoopKind) (code : Nat) : Bool :=
  match kind with
  | .inv => code == 0
  | .data => decide (code ≤ 1)
  | .cur => decide (code ≤ 2)

/-- Whether a snoop's target is, or takes in, a holder. -/
def SnoopTarget.covers (t : SnoopTarget) (h : Holder) : Bool :=
  match t with
  | .holder x => x == h
  | .all p ex => p == h.pos && ex != some (h.port, h.marker)
  | .portAll p q m => p == h.pos && q == h.port && m != h.marker

namespace State

/-- A holder's answer is recorded with the transaction that snoops it; one that is not allowed is event 3011, removes the holder and poisons the sector (R106, R128). -/
def recordAnswer (s : State) (dpa : Nat) (h : Holder) (code : Nat) (remote : Bool) : State :=
  let bad := decide (2 < code)
  let s := s.modTracker dpa fun t => { t with
    snoops := mapIf (fun n => n.target.covers h || (remote && n.target.pos == h.pos && match n.target with
        | .holder _ => false
        | _ => true))
      (fun n => { n with
        keptShared := n.keptShared || code == 1
        keptExcl := n.keptExcl || code == 2
        waiting := if remote then 0 else n.waiting }) t.snoops
    poisoning := t.poisoning || bad }
  let s := if bad then (s.violation 0x3011 h.pos h.port dpa).removeHolder dpa (· == h) else s
  s.carryOn dpa

/-- A BIRsp arrives at a local port (R106). -/
def portAnswer (s : State) (p hpa code : Nat) (blk : Bool) : State :=
  let h := sectorOf hpa
  match s.home.bisnps.find? fun b => b.port == p && b.hpa == h && b.answer == 9 with
  | some b =>
    let code := if blk || !answerAllowed b.kind code then 3 else code
    if b.group = 0 then
      let s := { s with home := { s.home with bisnps := s.home.bisnps.erase b } }
      s.recordAnswer b.dpa { pos := s.position, port := p, marker := b.marker } code false
    else
      let s := { s with home := { s.home with
          bisnps := mapIf (· == b) (fun b => { b with answer := code }) s.home.bisnps } }
      s.answerPeerSnoop b.group
  | none =>
    match s.home.bisnps.find? fun b => b.port == p && b.answer == 9 && hpaOffset b.hpa == hpaOffset h && hpaRange b.hpa == hpaRange h with
    | some b =>
      let s := s.violation 0x3013 s.position p b.dpa
      if b.group = 0 then
        let s := { s with home := { s.home with bisnps := s.home.bisnps.erase b } }
        ((s.modTracker b.dpa fun t => { t with poisoning := true }).removeHolder b.dpa
          fun x => x.pos == s.position && x.port == p).carryOn b.dpa
      else
        let s := { s with home := { s.home with
            bisnps := mapIf (· == b) (fun b => { b with answer := 3 }) s.home.bisnps } }
        s.answerPeerSnoop b.group
    | none => s.violation 0x3010 s.position p 0

/-- An answer relayed by a flight peer arrives at the home (R351). -/
def peerAnswer (s : State) (pos port marker dpa code : Nat) (blk : Bool) : State :=
  let h : Holder := { pos := pos, port := port, marker := marker }
  let fits (n : Snoop) : Bool := n.waiting != 0 && n.target.pos == pos && match n.target with
    | .holder x => x == h
    | _ => true
  match (s.trackerOf dpa).bind fun t => t.snoops.find? fits with
  | none => s.violation 0x3010 pos port dpa
  | some n => s.recordAnswer dpa h (if blk || !answerAllowed n.kind code then 3 else code) true

/-- A snoop answer from a port or a peer (R106). -/
def snoopAnswer (s : State) (src : SnoopSource) (code : Nat) (blk : Bool) : State :=
  match src with
  | .port p hpa => s.portAnswer p hpa code blk
  | .peer pos p m dpa => s.peerAnswer pos p m dpa code blk

/-! ### Conflict handshake (R111) -/

/-- Whether a request of a host for a sector is waiting or running and its completion has not been sent: on the Req channel, or a write that has arrived. -/
def requestWaits (s : State) (dpa pos port : Nat) : Bool :=
  let k := s.slice (homeSlice dpa)
  let of_ (r : Req) : Bool := sectorOf r.dpa == sectorOf dpa && !r.answered && (!r.cls.isWrite || r.cls == .wrNc)
  let mine (r : Req) : Bool := of_ r && match s.requester r with
    | some h => h.pos == pos && h.port == port
    | none => false
  (k.trackers.any fun t => mine t.req) || k.blocked.any mine || k.input.any mine || k.missWait.any mine

/-- Whether the completion of a request of a host for a sector can still be on its way when a snoop that left at `since` reaches it. At this device a completion overtakes every snoop that leaves after it (12.8 ns against 15.4 ns: R26, R130); at a flight peer, where the two travel in different channels (R353), one that left at most 500 ns before counts. -/
def completionRuns (s : State) (dpa since : Nat) (h : Holder) : Bool :=
  s.home.sentCmps.any fun c => c.1 == sectorOf dpa && c.2.1 == h &&
    decide (since ≤ c.2.2 + if h.pos = s.position then 0 else 500)

/-- The home answers a BIConflict of a snooped host (Table: Answer to BIConflict). -/
def homeConflict (s : State) (dpa : Nat) (h : Holder) (o : Origin) : State :=
  let s := s.count (16 * homeSlice dpa + 13)
  let snooped := (s.trackerOf dpa).any fun t => snoopsHolder t h
  let completed := (s.trackerOf dpa).any fun t => s.completionRuns dpa t.since h
  if !snooped then (s.violation 0x3015 h.pos h.port dpa).ackConflict dpa o
  else if s.requestWaits dpa h.pos h.port || completed || (s.trackerOf dpa).any fun t => t.backs.contains h then s.ackConflict dpa o
  else s.modTracker dpa fun t => { t with conflicts := t.conflicts ++ [o] }

/-- A host's BIConflict arrives at its port: at this device's home, or on to the peer's (R103, R111). -/
def conflict (s : State) (p hpa : Nat) : State :=
  match s.home.bisnps.find? fun b => b.port == p && b.hpa == sectorOf hpa && b.answer == 9 with
  | none => (s.violation 0x3015 s.position p 0).ackConflict 0 (.conflict p hpa)
  | some b =>
    if b.group = 0 then
      s.homeConflict b.dpa { pos := s.position, port := p, marker := b.marker } (.conflict p hpa)
    else
      let (tag, s) := s.freshTag
      let f : Forwarded := { peer := b.home, tag := tag, txn := { origin := .conflict p hpa, dpa := b.dpa } }
      let s := { s with link := { s.link with forwarded := s.link.forwarded ++ [f] } }
      s.sendPeer b.home vcReq opBiConflict tag false p (dpaParity b.dpa) (reqBody b.dpa b.marker 0)

/-! ### Dead holders and poison (R124, R125) -/

/-- A holder is dead for a sector: event 3001, counted against its port, here or at its device (R124, R131). -/
def holderDead (s : State) (t : Tracker) (pos : Nat) (port : Option Nat) : State :=
  let own := pos = s.position
  let det : Detail := .memory t.dpa t.req.ctx t.req.region 0 0 0
  let s := (s.deadlineMiss 1).raise 0x3001 .contained det (if own then port else none)
  match port with
  | none => s
  | some p => if own then s.portStrike p true false else s.reportStrike pos p 0x3001

/-- The holders that have not answered by SNOOP_TIMEOUT are dead for the sector, which is poisoned (R124). -/
def holdersDead (s : State) (t : Tracker) (cause : SnoopCause) : State :=
  let late (n : Snoop) : Bool := n.waiting != 0 && !(n.target.pos == s.position && s.localOutstanding s.deviceNumber t.dpa == 0)
  let dead := t.snoops.filter late
  let ports (n : Snoop) : List (Nat × Option Nat) := match n.target with
    | .holder h => [(h.pos, some h.port)]
    | .portAll pos p _ => [(pos, some p)]
    | .all pos _ =>
      if pos = s.position then
        ((s.home.bisnps.filter fun b => b.group == 0 && b.dpa == t.dpa).map fun b => (pos, some b.port)).eraseDups
      else [(pos, none)]
  let strikes := ((dead.map ports).flatten).eraseDups
  let e := s.dirEntryOf t.dpa
  let s := strikes.foldl (fun s p => s.holderDead t p.1 p.2) s
  let s := { s with home := { s.home with
      bisnps := s.home.bisnps.filter fun b => !(b.group == 0 && b.dpa == t.dpa)
      walks := s.home.walks.filter fun w => !(w.group == 0 && w.dpa == t.dpa) } }
  let s := (t.snoops.filter fun n => !late n).foldl (fun s n => s.applyAnswer t.dpa n) s
  let s := s.removeHolder t.dpa fun h => dead.any fun n => n.target == .holder h
  let s := t.conflicts.foldl (fun s c => s.ackConflict t.dpa c) s
  let s := s.modTracker t.dpa fun t => { t with
    stage := .ready, snoops := [], conflicts := [], poisoning := true
    scopeDone := t.scopeDone || e.st == .b || cause == .sweep }
  s.carryOn t.dpa

/-- SNOOP_TIMEOUT has passed since the snoops left: the holders that have not answered are dead for the sector, which is poisoned (R124). -/
def snoopTimeout (s : State) (dpa : Nat) : State :=
  match s.trackerOf dpa with
  | none => s
  | some t =>
    match t.stage with
    | .snoop cause =>
      if s.snoopsDone t || decide (s.now < t.since + s.reg 0x2400 3 * 1000) then s
      else s.holdersDead t cause
    | _ => s

/-- The poison write of a sector has ended: PP becomes P, or stays with a retry due (R125). -/
def poisonWriteDone (s : State) (dpa : Nat) : State :=
  match s.home.poisonDone.find? (·.1 == sectorOf dpa) with
  | none => s
  | some (d, ok) =>
    let s := { s with home := { s.home with poisonDone := s.home.poisonDone.erase (d, ok) } }
    let e := s.dirEntryOf d
    if e.st != .pp then s
    else if ok then
      s.putDirEntry d none { e with st := .p }
    else
      let s := { s with home := { s.home with poisonRetry := s.home.poisonRetry ++ [(d, s.now)] } }
      if s.home.poisonLogged.contains d then s
      else ({ s with home := { s.home with poisonLogged := s.home.poisonLogged ++ [d] } } : State).raise
        0x3004 .contained (.memory d 0 0 0 0 0)

/-- POISON_RETRY_INTERVAL has passed since a poison write failed: it is written again (R125). -/
def retryPoison (s : State) (dpa : Nat) : State :=
  match s.home.poisonRetry.find? (·.1 == sectorOf dpa) with
  | none => s
  | some (d, at_) =>
    let k := homeSlice d
    if s.now < at_ + s.reg 0x2400 6 * 1000 || (s.trackerOf d).isSome || !s.wbRoom k then s
    else
      let s := { s with home := { s.home with poisonRetry := s.home.poisonRetry.erase (d, at_) } }
      if (s.dirEntryOf d).st != .pp then s
      else s.sliceWrite k { origin := .poison, cls := .wrNc, dpa := d } { data := Config.poisonData d, mask := BitVec.allOnes 64, poison := true }

/-! ### Retired intervals (R99) -/

/-- Holders of an entry that only RETIRED intervals of this device reach; for a B entry, the scope when a RETIRED interval covers the sector. -/
def retiredTargets (s : State) (dpa : Nat) (e : DirEntry) : List SnoopTarget :=
  match e.st with
  | .b =>
    if e.scope.getLsbD (s.position / 2) && s.home.revMap.any fun i => i.retired && s.homeOf i == s.deviceNumber &&
        decide (i.base ≤ dpa >>> 21) && decide (dpa >>> 21 < i.base + i.units) then [.all s.position none] else []
  | _ => (e.ptrs.filter fun h => h.pos == s.position &&
      let hits := s.revHits s.deviceNumber dpa h.port h.marker
      !hits.isEmpty && hits.all (·.retired)).map SnoopTarget.holder

/-- Start the retire walk's snoops of sectors that nothing blocks; the others wait. -/
def startSweeps (s : State) : State :=
  s.home.sweepSectors.foldl (fun s d =>
    let k := homeSlice d
    if (s.trackerOf d).isSome || decide (128 ≤ (s.slice k).trackers.length) then s
    else
      let s := { s with home := { s.home with sweepSectors := s.home.sweepSectors.erase d } }
      let targets := s.retiredTargets d (s.dirEntryOf d)
      if targets.isEmpty then s
      else
        let r : Req := { origin := .poison, cls := .invNc, dpa := d, answered := true }
        let s := s.modSlice k fun x => { x with trackers := x.trackers ++ [{ dpa := d, req := r }] }
        (s.beginSnoops k d .sweep .inv targets false).carryOn d) s

/-- The retire walk begins when RETIRED intervals are present and none runs (R99). -/
def startRetireWalk (s : State) : State :=
  let due := s.home.dir.filterMap fun (p : Nat × DirEntry) =>
    let d := dirSector (p.1 / 12 / 32768) (p.1 / 12 % 32768) p.2.tag
    if (s.retiredTargets d p.2).isEmpty then none else some d
  let s := { s with home := { s.home with
      retireWalk := true, sweepSectors := due
      revMap := mapIf (·.retired) (fun i => { i with inWalk := true }) s.home.revMap } }
  s.startSweeps

/-- RETIRE_SWEEP_START, while RETIRED intervals are present and no walk runs. -/
def retireStart (s : State) : State :=
  if s.home.retireWalk || !s.home.revMap.any (·.retired) then s
  else s.startRetireWalk

/-- The retire walk and its snoops end: the intervals retired before it began are dropped (R99). -/
def retireDone (s : State) : State :=
  if !s.home.retireWalk then s
  else
    let s := s.startSweeps
    let busy := s.slices.any fun (p : Nat × Slice) => p.2.trackers.any fun t => t.stage == .snoop .sweep && t.req.origin == .poison
    if busy || !s.home.sweepSectors.isEmpty then s
    else { s with home := { s.home with
        retireWalk := false, revMap := s.home.revMap.filter fun i => !i.inWalk } }

/-! ### Set recall (R127) -/

end State

/-- The first candidate of a set, from number `from_` on, that lies in an interval: candidate 2h + b is the sector with DPA[44:28] = h and DPA[6] = b. -/
def candidateIn (k set from_ : Nat) (i : RevInterval) : Option Nat :=
  let lo := i.base >>> 7
  let hi := (i.base + i.units - 1) >>> 7
  let start := max from_ (2 * lo)
  ((List.range 6).map (start + ·)).find? fun c =>
    decide (c / 2 ≤ hi) && decide (c < 2 ^ 18) &&
      (let d := dirSector k set c
       decide (i.base ≤ d >>> 21) && decide (d >>> 21 < i.base + i.units))

/-- The smaller of two optional numbers. -/
def minOpt : Option Nat → Option Nat → Option Nat
  | none, b => b
  | a, none => a
  | some a, some b => some (min a b)

namespace State

/-- The set-recall sweep snoops its next candidate, at most one sector per 100 ns; after the last and its snoops the set leaves SET_RECALL (R127). -/
def setRecallStep (s : State) (k set : Nat) : State :=
  let key := k * 32768 + set
  let v := Table.get 0 s.home.setRecall key
  if v = 0 || (decide (s.now < s.home.lastSetSnoop + 100) && s.home.lastSetSnoop != 0) then s
  else
    let own := s.home.revMap.filter fun i => s.homeOf i == s.deviceNumber
    match own.foldl (fun m i => minOpt m (candidateIn k set (v - 1) i)) none with
    | some c =>
      let d := dirSector k set c
      if (s.trackerOf d).isSome || decide (128 ≤ (s.slice k).trackers.length) then s
      else
        let s := { s with home := { s.home with
            setRecall := Table.set 0 s.home.setRecall key (c + 2), lastSetSnoop := s.now } }
        let r : Req := { origin := .poison, cls := .invNc, dpa := d, answered := true }
        let s := s.modSlice k fun x => { x with trackers := x.trackers ++ [{ dpa := d, req := r }] }
        (s.beginSnoops k d .sweep .inv (s.memberPositions.map fun p => .all p none) false).carryOn d
    | none =>
      let busy := (s.slice k).trackers.any fun t => dirSet t.dpa == set && t.stage == .snoop .sweep
      if busy then s
      else { s with home := { s.home with setRecall := Table.set 0 s.home.setRecall key 0 } }

/-! ### Requests of peers (R37, R90, R120, R121) -/

/-- Whether a region serves: it is ACTIVE, or ACTIVE and being committed anew (R37, R39). -/
def regionServes (s : State) (r : Nat) : Bool :=
  (s.region r).st == .active || s.tenant.regionRun.any fun j => j.region == r && j.before.isSome

/-- The ACTIVE local region that covers a DPA: the first by index. -/
def localRegion (s : State) (dpa : Nat) : Option (Nat × Region) :=
  s.tenant.regions.find? fun (p : Nat × Region) => s.regionServes p.1 && decide (rdKind p.2.desc1 < 2) &&
    decide (rdDpaBase p.2.desc0 ≤ dpa >>> 21) && decide (dpa >>> 21 < rdDpaBase p.2.desc0 + rdUnits p.2.desc0)

/-- A request forwarded by a peer arrives at its home. -/
def peerRequest (s : State) (r : Req) (dev port tag : Nat) : State :=
  let cross := dev / 32 != s.flight
  let r := { r with agent := r.agent || cross }
  let nowhere (s : State) : State := s.respond r (if r.cls.isRead then some (poisonedSector 0) else none) .cmp
  if s.isFatal then s
  else if !s.isActiveMember dev || s.isQuarantined dev then
    let s := nowhere (s.raise 0x3009 .contained (.peer dev 0 0 0 0))
    if r.opcode ≠ 0 && !r.cls.isRead then s.reportStore (homeSlice r.dpa) r.origin false else s
  else match s.localRegion r.dpa with
    | none =>
      let s := s.raise 0x8101 .contained (.memory r.dpa 0 0 0 0 0)
      if r.opcode = 0 then nowhere s
      else s.sendPeer dev vcRsp opRefused tag false port (dpaParity r.dpa) (beBytes 0x8101 8)
    | some (n, g) =>
      match (if cross then r.cls.acrossFlights else some r.cls) with
      | none => s.respond r none .cmp
      | some c =>
        let (id, s) := s.fresh
        let (s, r) := s.firstPart { r with
          id := id, cls := c, region := n, svc := rdSvc g.desc1, cached := rdPolicy g.desc1 == 0, kind := rdKind g.desc1 }
        s.enterSlice r

/-- The response to a forwarded request is delivered, and a grant is acknowledged to the home (R101, R351). `cmp` is 0 to 3 for Cmp, the swap of an atomic, Cmp-S and Cmp-E, 8 more for a queue's access performed as two (R159), or the event of a queue's refused operation (R37). -/
def takeResponse (s : State) (f : Forwarded) (data : Option Sector) (poison : Bool) (cmp : Nat) : State :=
  let s := s.endForwarded f
  let d := data.map fun d => ({ data := d, poison := if poison then 0xF else 0 } : SectorData)
  match f.txn.origin with
  | .conflict p hpa => s.ackConflict 0 (.conflict p hpa)
  | .queue q pos part =>
    let own (x : PeerStore) : Bool := x.peer == f.peer && x.tag == f.tag
    let s := { s with link := { s.link with
        stores := if 16 ≤ cmp then s.link.stores.filter fun x => !own x
          else mapIf own (fun x => { x with since := some s.now }) s.link.stores } }
    s.toQueue { queue := q, pos := pos, part := part, data := d.getD {}, poison := poison, swapped := cmp % 8 == 1
                fault := if 16 ≤ cmp then cmp else 0, split := cmp / 8 == 1 }
  | _ =>
    let s := s.respond f.txn d (match cmp with
      | 2 => .cmpS
      | 3 => .cmpE
      | _ => .cmp)
    if cmp = 2 || cmp = 3 then
      match f.txn.origin with
      | .host p m _ => s.sendPeer f.peer vcSnr opAck f.tag false p (dpaParity f.txn.dpa) (reqBody f.txn.dpa m 0)
      | _ => s
    else s

/-- Stores at peer homes whose fate is known, or is taken for a loss: none of them holds a fence any longer (R157, R161). -/
def settleStores (s : State) (p : PeerStore → Bool) (lost : Bool) : State :=
  let mine := s.link.stores.filter p
  let s := { s with link := { s.link with stores := s.link.stores.filter fun x => !p x } }
  if lost then mine.foldl (fun s x => s.loseStore x.queue x.bulk) s else s

/-- A home's report of a store of a queue of this device. -/
def storeRetired (s : State) (dev tag : Nat) (lost : Bool) : State :=
  s.settleStores (fun x => x.peer == dev && x.tag == tag) lost

/-- Stores that no report has come of by the bound of R161 count as lost: no fence hangs. -/
def expireStores (s : State) : State :=
  let bound := 2 * (s.reg 0x5100 1 * 1000) + s.reg 0x2200 6 * 4 / 5
  s.settleStores (fun x => x.since.any fun t => decide (t + bound ≤ s.now)) true

/-- FORWARDED_RESPONSE to a request that is out; a second response with its tag finds nothing and is discarded (R355). -/
def forwardedResponse (s : State) (peer tag : Nat) (data : Option Sector) (poison : Bool) (cmp : Nat) : State :=
  match s.link.forwarded.find? fun f => f.peer == peer && f.tag == tag with
  | none => s
  | some f => s.takeResponse f data poison cmp

end State

/-! ### The rows -/

/-- REQUESTER_ACK: the acknowledgement of an S or E grant (R101). -/
def execRequesterAck (dpa : Nat) (s : State) : Host.Outcome State Fault Refusal :=
  run (.requesterAck dpa) s fun s => s.ackGrant dpa

/-- BLOCKED_REQUEST_START: a waiting request starts (R102). -/
def execBlockedRequestStart (slice : Nat) (s : State) : Host.Outcome State Fault Refusal :=
  run (.blockedRequestStart slice) s fun s => s.startBlocked slice

/-- DWELL_ELAPSED: a recall that waited for dwell leaves (R104). -/
def execDwellElapsed (dpa : Nat) (s : State) : Host.Outcome State Fault Refusal :=
  run (.dwellElapsed dpa) s fun s => s.dwellElapsed dpa

/-- REVERSE_WALK_DONE: the reverse walker has the HPAs of a snoop (R97). -/
def execReverseWalkDone (port dpa marker : Nat) (s : State) : Host.Outcome State Fault Refusal :=
  run (.reverseWalkDone port dpa marker) s fun s => s.walkDone port dpa marker

/-- BIRSPI: the snooped holder keeps nothing (R106). -/
def execBirspi (source : SnoopSource) (blk : Bool) (s : State) : Host.Outcome State Fault Refusal :=
  run (.birspi source blk) s fun s => s.snoopAnswer source 0 blk

/-- BIRSPS: the snooped holder keeps a shared copy (R106). -/
def execBirsps (source : SnoopSource) (blk : Bool) (s : State) : Host.Outcome State Fault Refusal :=
  run (.birsps source blk) s fun s => s.snoopAnswer source 1 blk

/-- BIRSPE: the snooped holder keeps E (R106). -/
def execBirspe (source : SnoopSource) (blk : Bool) (s : State) : Host.Outcome State Fault Refusal :=
  run (.birspe source blk) s fun s => s.snoopAnswer source 2 blk

/-- BICONFLICT: a snooped host has a request of its own outstanding (R111). -/
def execBiconflict (port hpa : Nat) (s : State) : Host.Outcome State Fault Refusal :=
  run (.biconflict port hpa) s fun s => s.conflict port hpa

/-- SNOOP_TIMEOUT: a snoop is not answered in time (R124). -/
def execSnoopTimeout (dpa : Nat) (s : State) : Host.Outcome State Fault Refusal :=
  run (.snoopTimeout dpa) s fun s => s.snoopTimeout dpa

/-- POISON_WRITE_DONE: a poison write ends (R125). -/
def execPoisonWriteDone (dpa : Nat) (s : State) : Host.Outcome State Fault Refusal :=
  run (.poisonWriteDone dpa) s fun s => s.poisonWriteDone dpa

/-- POISON_RETRY: a failed poison write is retried (R125). -/
def execPoisonRetry (dpa : Nat) (s : State) : Host.Outcome State Fault Refusal :=
  run (.poisonRetry dpa) s fun s => s.retryPoison dpa

/-- RETIRE_SWEEP_START: the retire walk begins (R99). -/
def execRetireSweepStart (s : State) : Host.Outcome State Fault Refusal := run .retireSweepStart s State.retireStart

/-- RETIRE_SWEEP_DONE: the retire walk ends (R99). -/
def execRetireSweepDone (s : State) : Host.Outcome State Fault Refusal := run .retireSweepDone s State.retireDone

/-- SET_RECALL_SWEEP_STEP: the set-recall sweep snoops its next candidate (R127). -/
def execSetRecallSweepStep (slice set : Nat) (s : State) : Host.Outcome State Fault Refusal :=
  run (.setRecallSweepStep slice set) s fun s => s.setRecallStep slice set

/-- FORWARDED_SNOOP: a snoop of a flight peer's home arrives (R97). -/
def execForwardedSnoop (home : Nat) (kind : SnoopKind) (whom : SnoopWhom) (dpa : Nat) (s : State) : Host.Outcome State Fault Refusal :=
  run (.forwardedSnoop home kind whom dpa) s fun s => s.peerSnoop home kind whom dpa

/-- FORWARDED_RESPONSE: the response to a forwarded request returns (R351). -/
def execForwardedResponse (peer tag : Nat) (data : Option Sector) (poison : Bool) (cmp : Nat) (s : State) :
    Host.Outcome State Fault Refusal :=
  run (.forwardedResponse peer tag data poison cmp) s fun s => s.forwardedResponse peer tag data poison cmp

end Sys2Proof.Machine
end

