-- ==== Sys2Proof/Machine/Protect.lean ====
section
/-! DEFINITION. Memory protection: writes and responses at the protection pounds, page re-encryption, walks and node write-backs, the re-knit engine, and the protection and key commands (R225 to R270). -/

namespace Sys2Proof.Machine
namespace State

/-! ### Writes at the pound (R236, R242, R246, R252) -/

def opAt (s : State) (id : Nat) : Option PoolOp := s.prot.ops.find? (·.id == id)

/-- Whether a write must wait: a read of its address, or another write of it, is at the pool (R246). -/
def writeHeld (s : State) (o : PoolOp) : Bool :=
  s.prot.ops.any fun x => x.id != o.id && sectorOf x.dpa == sectorOf o.dpa && (x.stage == .out || x.stage == .walking || x.stage == .dropped) &&
    (!x.write || x.encrypted)

/-- A pool write ends: what it carried retires or is lost (R68, R72, R125). -/
def endWrite (s : State) (o : PoolOp) (ok : Bool) : State := (s.dropOp o.id).endPoolWrite o ok

/-- A write that has its ciphertext leaves for the pool, or waits for its address; with its port down it fails at once (R246, R342). -/
def launchWrite (s : State) (o : PoolOp) : State :=
  if s.writeHeld o then s.modOp o.id fun o => { o with stage := .held }
  else match s.poolAddr o.dpa with
    | none => s.endWrite o false
    | some (p, a) =>
      if !s.portUp p then s.endWrite o false
      else
        let s := s.modOp o.id fun o => { o with stage := .out, sent := s.now }
        match o.root with
        | none => s.emit (.poolWrite p a o.w.data o.w.mask o.w.poison)
        | some r => (s.emit (.poolWrite p a o.cipher (BitVec.allOnes 64) false)).writeTag (.op o.id) r (s.regSector r o.dpa) o.tag

/-- The plaintext that a write encrypts: zeros for a poisoned one (R236). -/
def writePlain (w : WriteData) : Sector := if w.poison then 0 else w.data

/-- Encrypt a sector at a version under a key slot: ciphertext and stored tag (R235, R236). -/
def sealSector (s : State) (r dpa slot major minor : Nat) (w : WriteData) : Sector × BitVec 64 :=
  let k := (s.keySlot slot).key
  let c := cryptSector k major minor dpa r (writePlain w)
  let t := dataTag k major minor dpa r c
  (c, if w.poison then t ^^^ poisonTweak k else t)

/-- A write takes a version under a key slot and goes on to the pool (R242). -/
def sealWrite (s : State) (o : PoolOp) (r slot major minor : Nat) : State :=
  let (c, t) := s.sealSector r o.dpa slot major minor o.w
  let s := s.count (1568 + 16 * (r % 2) + 10)
  let put (o : PoolOp) : PoolOp :=
    { o with cipher := c, tag := t, major := BitVec.ofNat 64 major, minor := minor, slot := some slot, encrypted := true, stage := .held }
  let s := s.modOp o.id put
  s.launchWrite (put o)

/-- Whether an access to a page is out or on its way with a version. -/
def pageBusy (s : State) (r page : Nat) : Bool :=
  s.prot.ops.any fun x => x.root == some r && s.regSector r x.dpa / 64 == page &&
    (x.stage == .out || x.stage == .walking || x.stage == .dropped || x.encrypted)

/-- The first sector of a page. -/
def pageDpa (s : State) (r page : Nat) : Nat := s.regBase r + page * 4096

/-- Page re-encryptions whose page has come to rest read its sectors and MAC sectors; sectors at (0, 0) are taken as zeros (R248, steps 1 and 2). -/
def startPages (s : State) : State :=
  s.prot.pages.foldl (fun s j =>
    if j.started || s.pageBusy j.root j.page then s
    else
      let leaf := (s.nodeBits j.root 1 j.page).getD 0
      let due := (List.range 64).filter fun c => !(cbMajor leaf = 0 && cbMinor leaf c = 0)
      let s := { s with prot := { s.prot with pages := mapIf (·.id == j.id) (fun j => { j with started := true }) s.prot.pages } }
      let s := due.foldl (fun s c => match s.poolAddr (s.pageDpa j.root j.page + 64 * c) with
        | some (p, a) => s.emit (.poolRead p a)
        | none => s) s
      (List.range 8).foldl (fun s m => if due.any (· / 8 == m)
        then s.metaSend { owner := .page j.id, root := j.root, addr := s.macSectorAddr j.root (j.page * 64 + 8 * m) } else s) s) s

/-- Pin or unpin a resident block. -/
def pinNode (s : State) (r l i : Nat) (on : Bool) : State :=
  match s.ccAt r l i with
  | some b => if b.pinned == on then s else s.ccPut r l i { b with pinned := on }
  | none => s

/-- Hold a page for its re-encryption, or for its conversion as a unit (R248, R262). -/
def holdPage (s : State) (r page trigger : Nat) (convert : Bool) : State :=
  let (id, s) := s.fresh
  let j : PageJob := { id := id, root := r, page := page, trigger := trigger, convert := convert }
  let s := s.pinNode r 1 page true
  ({ s with prot := { s.prot with pages := s.prot.pages ++ [j] } } : State).startPages

/-- A leaf is exhausted: the page becomes read-only, with event 600B once for the region (R250). -/
def exhaustLeaf (s : State) (r page dpa : Nat) : State :=
  let logged := (s.protRegion r).exhaustedLogged
  let s := ({ s with prot := { s.prot with spent := s.prot.spent ++ [(r, page)] } } : State).modProtRegion r fun x =>
    { x with exhausted := true, exhaustedLogged := true }
  if logged then s else s.raise 0x600B .regionFatal (.memory dpa 0 0 r 0 0)

/-- Raise a sector's version in its resident leaf and encrypt the write there; a minor of 127 holds the page, and an exhausted leaf loses the write (R242, R248, R250). -/
def raiseVersion (s : State) (o : PoolOp) (r slot : Nat) (leaf : Sector) : State :=
  let q := s.regSector r o.dpa
  if s.prot.spent.contains (r, q / 64) then s.endWrite o false
  else if cbMinor leaf (q % 64) = 127 then
    if cbMajor leaf = 2 ^ 64 - 1 then (s.exhaustLeaf r (q / 64) o.dpa).endWrite o false
    else (s.modOp o.id fun o => { o with stage := .held }).holdPage r (q / 64) o.id false
  else
    let v := cbMinor leaf (q % 64) + 1
    (s.setNode r 1 (q / 64) (cbSetMinor leaf (q % 64) v)).sealWrite o r slot (cbMajor leaf) v

/-- A write of a sector that is not stored: a poison write below damage or in a POISONED region completes as stored, any other is lost (R252). -/
def refuseWrite (s : State) (o : PoolOp) (r : Nat) : State :=
  let gone := (s.protRegion r).st == .poisoned || s.underDamage r (s.regSector r o.dpa)
  s.endWrite o (o.poisonWrite && gone)

/-- A write at the pound: for an unprotected region it goes on; for a protected one it takes its version and ciphertext (R242). -/
def poundWrite (s : State) (o : PoolOp) : State :=
  match o.root with
  | none =>
    let s := s.modOp o.id fun o => { o with encrypted := true }
    s.launchWrite { o with encrypted := true }
  | some r =>
    let q := s.regSector r o.dpa
    if (s.protRegion r).st != .active || s.underDamage r q then s.refuseWrite o r
    else if s.pageHeld r q then s.modOp o.id fun o => { o with stage := .held }
    else
      let (s, n) := s.ccRead r 1 (q / 64)
      match n with
      | none =>
        if (s.protRegion r).st != .active then s.refuseWrite o r
        else ((s.count (1568 + 16 * (r % 2) + 1)).modOp o.id fun o => { o with stage := .walking }).joinWalk r q (some o.id)
      | some leaf =>
        let s := s.count (1568 + 16 * (r % 2))
        let k := s.slotFor r o.dpa
        let (s, ok) := s.useKey (r % 2) k
        if (s.protRegion r).st != .active then s.refuseWrite o r
        else if !ok then s.modOp o.id fun o => { o with stage := .held }
        else s.raiseVersion o r k leaf

/-- Accesses that were held look again, the oldest first: a write with its ciphertext leaves, another access comes to the pound (R246, R248). RK writes wait for the needle. -/
def releaseHeld (s : State) (p : PoolOp → Bool) : State :=
  (s.prot.ops.filter fun o => o.stage == .held && p o).foldl (fun s o =>
    match s.opAt o.id with
    | none => s
    | some o =>
      if o.stage != .held then s
      else if o.write then
        if o.encrypted then s.launchWrite o
        else if o.rk || s.prot.pages.any (·.trigger == o.id) then s
        else s.poundWrite o
      else s.poundRead o) s.startPages

/-- The accesses to the sector of an access that has ended look again. -/
def afterOp (s : State) (dpa : Nat) : State := s.releaseHeld fun o => sectorOf o.dpa == sectorOf dpa

/-! ### PROT_INIT and PROT_RELEASE at work (R266, R267) -/

/-- Whether a pool access to a protected region's data range or metadata is outstanding. -/
def rootBusy (s : State) (r base size : Nat) : Bool :=
  (s.prot.ops.any fun o => decide (base ≤ o.dpa) && decide (o.dpa < base + size)) ||
    (s.prot.walks.any (·.root == r)) || (s.prot.pages.any (·.root == r)) || (s.prot.metas.any (·.root == r)) ||
      s.prot.cc.any fun (p : Nat × CcBlock) => ccRootOf p.1 == r && p.2.writing

/-- The pass over tags and directory for a range: its blocks are invalidated and its P and PP entries are freed (R266, steps 3 and 4). -/
def sweepRange (s : State) (base size : Nat) : State :=
  let inside (d : Nat) : Bool := decide (base ≤ d) && decide (d < base + size)
  let ways := s.cache.tags.filterMap fun (p : Nat × TagEntry) =>
    if p.2.bv && inside (blockDpa (p.1 / 16 / 4096) (p.1 / 16 % 4096) p.2.tag) then some p.1 else none
  let s := ways.foldl (fun s k => s.dropBlock (k / 16 / 4096) (k / 16 % 4096) (k % 16)) s
  let entries := s.home.dir.filterMap fun (p : Nat × DirEntry) =>
    if (p.2.st == .p || p.2.st == .pp) && inside (dirSector (p.1 / 12 / 32768) (p.1 / 12 % 32768) p.2.tag) then some p.1 else none
  let s := entries.foldl (fun s k => s.setDir (k / 12 / 32768) (k / 12 % 32768) (k % 12) {}) s
  { s with home := { s.home with
      poisonRetry := s.home.poisonRetry.filter fun (x : Nat × Nat) => !inside x.1
      poisonDone := s.home.poisonDone.filter fun (x : Nat × Bool) => !inside x.1 } }

/-- The slot's use ends (R254). -/
def retireSlot (s : State) (slot : Nat) : State := s.modKeySlot slot fun k => { k with st := .retired, root := none }

/-- The slot that a region holds, when it holds one. -/
def heldSlot (s : State) (r : Nat) : Option Nat :=
  let x := s.protRegion r
  if x.st == .active || x.st == .dormant || x.st == .poisoned then some (pdKeySlot x.desc1) else none

/-- Clear what the pounds keep of a root's tree: its counter-cache blocks, damaged subtrees and exhausted leaves (R266, steps 2 and 5). -/
def clearTree (s : State) (r : Nat) : State :=
  { s with prot := { s.prot with
      cc := s.prot.cc.filter fun (p : Nat × CcBlock) => ccRootOf p.1 != r
      metas := s.prot.metas.filter fun m => m.root != r
      damaged := s.prot.damaged.filter fun (x : Nat × Nat × Nat) => x.1 != r
      spent := s.prot.spent.filter fun (x : Nat × Nat) => x.1 != r } }

/-- Steps 2 to 5 of PROT_INIT. -/
def initRoot (s : State) (r : Nat) : State :=
  let x := s.protRegion r
  let old := s.heldSlot r
  let s := (s.clearTree r).sweepRange (pdBase x.staged1) (pdSize x.staged1)
  let s := match old with
    | some k => s.retireSlot k
    | none => s
  let s := s.modKeySlot (pdKeySlot x.staged1) fun k => { k with st := .bound, root := some r }
  (s.modProtRegion r fun x => { x with
    desc1 := x.staged1, desc0 := x.staged0, st := .active, rootNode := 0, epoch := x.epoch + 1
    reknitting := false, exhausted := false, damaged := false, exhaustedLogged := false }).wordsWritten (354 + r % 2) (r * 4) 4

/-- Steps 1 to 4 of PROT_INIT, then the root is cleared and the slot retired; TREE_EPOCH is kept (R267). -/
def releaseRoot (s : State) (r : Nat) : State :=
  let x := s.protRegion r
  let old := s.heldSlot r
  let s := (s.clearTree r).sweepRange (pdBase x.desc1) (pdSize x.desc1)
  let s := match old with
    | some k => s.retireSlot k
    | none => s
  s.modProtRegion r fun x => { epoch := x.epoch }

/-- A PROT_INIT or PROT_RELEASE goes on once no pool access of its region is outstanding (R266, step 1). -/
def jobStep (s : State) : State :=
  match s.prot.job with
  | none => s
  | some (t, r, init) =>
    let x := s.protRegion r
    let d := if init then x.staged1 else x.desc1
    if s.rootBusy r (pdBase d) (pdSize d) then s
    else
      let s := { s with prot := { s.prot with job := none } }
      (if init then s.initRoot r else s.releaseRoot r).endCmd t 0

/-- POOL_WRITE_ENCRYPT of a write that is on its way to the pound. -/
def encryptWrite (s : State) (id : Nat) : State :=
  match s.opAt id with
  | some o => if o.write && !o.rk && o.stage == .toPound then (s.poundWrite o).jobStep else s
  | none => s

/-- The pool completes a write (R68, R246); its tag has left too. -/
def writeCompleted (s : State) (id : Nat) (ok : Bool) : State :=
  match s.opAt id with
  | some o => if o.write && o.stage == .out && !s.metaWaits (.op id) then ((s.endWrite o ok).afterOp o.dpa).jobStep else s
  | none => s

/-! ### Read responses (R237, R251) -/

/-- The MAC sector of a read: the resident one, or the one read beside it, which is then installed unless an 8-byte write to it is outstanding (R246) or no way is free. -/
def macSectorOf (s : State) (r n : Nat) (fetched : Sector) : State × Sector :=
  let (s, m) := s.ccRead r 0 (n / 8)
  match m with
  | some m => (s, m)
  | none =>
    let writing := s.prot.metas.any fun x => x.write && x.root == r && x.addr == s.macSectorAddr r n
    if writing then (s, fetched)
    else
      let (s, ok) := s.ccInstall r 0 (n / 8) fetched false
      (if ok then s.count (1568 + 16 * (r % 2) + 9) else s, fetched)

/-- Whether a sector verifies at a version under a slot: plaintext, or a poison mark, or neither (Table: Data read check). -/
def openSector (s : State) (r dpa slot major minor : Nat) (a : PoolAnswer) (m : Sector) : Option SectorData :=
  let k := (s.keySlot slot).key
  let t := dataTag k major minor dpa r a.data
  let stored := macAt m (s.regSector r dpa % 8)
  if a.status != .ok then none
  else if stored = t then some { data := cryptSector k major minor dpa r a.data }
  else if stored = t ^^^ poisonTweak k then some (poisonFor dpa)
  else none

/-- An integrity failure (R237): event 6001, counted for its region. -/
def integrityFail (s : State) (o : PoolOp) (r : Nat) : State :=
  (s.modProtRegion r fun x => { x with integrityFails := sat32 (x.integrityFails + 1) }).raise 0x6001 .contained
    (.memory o.dpa 0 o.region r 0 0)

/-- The answer to a read whose version is known (R237). -/
def finishRead (s : State) (o : PoolOp) (a : PoolAnswer) : State :=
  if a.status == .failed then s.failRead o
  else match o.root with
    | none =>
      (s.dropOp o.id).returnRead o.use
        { data := a.data, poison := if a.status == .poisoned then 0xF else 0 }
    | some r =>
      let (s, m) := s.macSectorOf r (s.regSector r o.dpa) a.mac
      let slot := o.slot.getD 0
      let s := s.count (1568 + 16 * (r % 2) + 11)
      match s.openSector r o.dpa slot o.major.toNat o.minor a m with
      | some d => (s.dropOp o.id).returnRead o.use d
      | none => ((s.integrityFail o r).dropOp o.id).returnRead o.use (poisonFor o.dpa)

/-- A read is answered before the pool's response has come: until then it stands in the order of its address (R246). -/
def discardRead (s : State) (o : PoolOp) (d : SectorData) : State :=
  let s := s.returnRead o.use d
  (if o.answer.isSome then s.dropOp o.id else s.modOp o.id fun o => { o with stage := .dropped }).afterOp o.dpa

/-- The pool answers a read (R237); while its leaf is walked the answer waits (R241). -/
def readResponse (s : State) (id : Nat) (a : PoolAnswer) : State :=
  match s.opAt id with
  | none => s
  | some o =>
    if o.write || s.metaWaits (.op id) then s
    else match o.stage with
      | .dropped => ((s.dropOp id).afterOp o.dpa).jobStep
      | .out => ((s.finishRead o a).afterOp o.dpa).jobStep
      | .walking =>
        if o.answer.isSome then s
        else if a.status == .failed then ((s.failRead o).afterOp o.dpa).jobStep
        else s.modOp id fun o => { o with answer := some a }
      | _ => s

/-! ### Page re-encryption (R248, R262) -/

/-- The value of a page's sector as step 3 finds it: zeros for (0, 0), the verified value, or poison with event 600A. The sector that the triggering write replaces is verified like the others; step 5 writes the triggering write there, whatever was found. -/
def pageSector (s : State) (r page c : Nat) (leaf : Sector) (a : PoolAnswer) : State × SectorData :=
  let dpa := s.pageDpa r page + 64 * c
  if cbMajor leaf = 0 && cbMinor leaf c = 0 then (s, {})
  else
    let m := match s.ccAt r 0 (page * 8 + c / 8) with
      | some b => b.bits
      | none => a.mac
    match s.openSector r dpa (s.slotFor r dpa) (cbMajor leaf) (cbMinor leaf c) a m with
    | some d => (s, d)
    | none => (s.raise 0x600A .contained (.memory dpa 0 0 r 0 0), { poison := 0xF })

/-- Write one sector of a page at its new version: the triggering write itself, or a write of the pound's own (R248, step 5). -/
def pageWrite (s : State) (j : PageJob) (c slot major minor : Nat) (d : SectorData) : State :=
  let dpa := s.pageDpa j.root j.page + 64 * c
  match s.prot.ops.find? fun o => o.id == j.trigger && sectorOf o.dpa == dpa with
  | some o => s.sealWrite o j.root slot major minor
  | none =>
    let (id, s) := s.fresh
    let o : PoolOp := { id := id, write := true, dpa := dpa, root := some j.root
                        w := { data := d.data, mask := BitVec.allOnes 64, poison := d.isPoisoned } }
    ({ s with prot := { s.prot with ops := s.prot.ops ++ [o] } } : State).sealWrite o j.root slot major minor

/-- The needle comes to a sector: the watch and the time of its last advance follow (R257, R264). -/
def setNeedle (s : State) (r dpa : Nat) : State :=
  let s := s.modProtRegion r fun x => { x with needle := dpa }
  { s with prot := { s.prot with
      needleAt := s.now, stallLogged := false, rkNext := max s.prot.rkNext dpa
      watch := s.prot.watch.filter fun w => decide (dpa ≤ w.dpa) } }

/-- The needle has reached the end of its region: the new key takes over, and the descriptors of every host region bound to the root name it, as committed and as staged (R263). -/
def endReknit (s : State) (r : Nat) : State :=
  let x := s.protRegion r
  if x.needle < pdBase x.desc1 + pdSize x.desc1 then s
  else
    let s := s.modProtRegion r fun x => { x with
      desc1 := setFld x.desc1 107 12 x.newSlot, staged1 := setFld x.staged1 107 12 x.newSlot, reknitting := false, exhausted := false }
    let s := s.retireSlot (pdKeySlot x.desc1)
    let names (w : Word128) : Bool := rdProtect w && rdRoot w == r
    let word (w : Word128) : Word128 := if names w then setFld w 91 12 x.newSlot else w
    let move (g : Region) : Region :=
      if (g.st == .active || g.st == .committing) && names g.desc1 then { g with desc1 := word g.desc1, staged1 := word g.staged1 } else g
    let s : State := { s with
      tenant := { s.tenant with regions := Table.mapVals {} move s.tenant.regions }
      prot := { s.prot with reknitRoot := none, watch := [], rkNext := 0 } }
    s.raise 0x600E .note (.memory 0 0 0 r 0 0)

/-- The leaf of a held page was lost to an error of the counter cache: the page is released, and the accesses that it held look again (R251). -/
def abandonPage (s : State) (j : PageJob) : State :=
  let s := { s with prot := { s.prot with pages := s.prot.pages.filter (·.id != j.id) } }
  (s.releaseHeld fun o => o.root == some j.root && s.regSector j.root o.dpa / 64 == j.page).jobStep

/-- The time per converted sector at REKNIT_RATE, in 1/100 ns. -/
def rkUnit (s : State) : Nat := (6400 + s.reg 0x4030 1 - 1) / s.reg 0x4030 1

/-- The engine converts `n` sectors: the next one keeps REKNIT_RATE (R261). -/
def paceBy (s : State) (n : Nat) : State :=
  { s with prot := { s.prot with rkPace := max s.prot.rkPace (s.now * 100) + n * s.rkUnit } }

/-- The page reads return: every sector is verified at its old version and written at the new one (R248, steps 3 to 5; R262). -/
def pageReturned (s : State) (j : PageJob) (answers : List PoolAnswer) : State :=
  let r := j.root
  let (s, node) := (s.metaDone (.page j.id)).nodeRead r 1 j.page
  match node with
  | none => s.abandonPage j
  | some leaf =>
  let (s, ds) := (answers.zipIdx).foldl (init := (s, ([] : List SectorData))) fun (s, ds) (a, c) =>
    let (s, d) := s.pageSector r j.page c leaf a
    (s, ds ++ [d])
  let major := if j.convert then 0 else cbMajor leaf + 1
  let minor := bit j.convert
  let s := (s.setNode r 1 j.page (cbUniform major minor)).pinNode r 1 j.page false
  let s := { s with prot := { s.prot with
      pages := s.prot.pages.filter (·.id != j.id)
      spent := s.prot.spent.filter (· != (r, j.page)) } }
  let s := (ds.zipIdx).foldl (fun s (d, c) =>
    let slot := if j.convert then (s.protRegion r).newSlot else s.slotFor r (s.pageDpa r j.page + 64 * c)
    s.pageWrite j c slot major minor d) s
  let s := if j.convert then ((s.paceBy 64).setNeedle r (s.pageDpa r j.page + 4096)).endReknit r
    else (s.modProtRegion r fun x => { x with minorOverflows := (x.minorOverflows + 1) % 2 ^ 64 }).raise 0x6008 .note
      (.memory (s.pageDpa r j.page) 0 0 r 0 0)
  (s.releaseHeld fun o => o.root == some r && s.regSector r o.dpa / 64 == j.page).jobStep

/-- PAGE_REENCRYPT_READS_DONE of a page whose reads are out. -/
def pageDone (s : State) (id : Nat) (answers : List PoolAnswer) : State :=
  match s.prot.pages.find? fun j => j.id == id && j.started with
  | none => s
  | some j => if s.metaWaits (.page id) then s else s.pageReturned j answers

/-! ### Walks (R241, R251) -/

/-- Whether a node's 64 bytes carry the tag of a version. -/
def nodeOk (s : State) (r l i major minor : Nat) (a : PoolAnswer) : Bool :=
  let n := nodeMacIndex (s.regSize r) l i
  let m := match s.ccAt r 0 (n / 8) with
    | some b => b.bits
    | none => a.mac
  a.status == .ok && macAt m (n % 8) == s.nodeTag r l i a.data major minor

/-- How a walk ends, or that a node waits for a way to be freed. -/
inductive WalkEnd where
  | done | damaged | failed | retry | wait
  deriving DecidableEq, Repr

/-- Verify and install the nodes of a walk, top down from level `l` (R241). -/
def climbDown : Nat → State → Nat → Nat → List PoolAnswer → State × WalkEnd
  | 0, s, _, _, _ => (s, .done)
  | l + 1, s, r, q, answers =>
    let i := q / 64 ^ (l + 1)
    let root := rootLevel (s.regSize r)
    let pi := if l + 2 = root then 0 else i / 64
    let install (s : State) (n : Sector) (rest : List PoolAnswer) : State × WalkEnd :=
      let (s, ok) := s.ccInstall r (l + 1) i n false
      if ok then climbDown l (s.pinNode r (l + 1) i true) r q rest else (s, .wait)
    let (s, here) := s.nodeRead r (l + 1) i
    let (s, above) := s.nodeRead r (l + 2) pi
    if (s.protRegion r).st == .poisoned then (s, .damaged)
    else match here, above, answers with
    | some _, _, _ => climbDown l s r q (answers.drop 1)
    | none, none, _ => (s, .retry)
    | none, some _, [] => (s, .failed)
    | none, some p, a :: rest =>
      let ma := cbMajor p
      let mi := cbMinor p (i % 64)
      if ma = 0 && mi = 0 then install s 0 rest
      else if a.status == .failed then (s, .failed)
      else if !s.nodeOk r (l + 1) i ma mi a then (s.markDamaged r (l + 1) i (s.regBase r + q * 64), .damaged)
      else install s a.data rest

/-- What a finished walk brings an access that waited for it. -/
def afterWalk (s : State) (r : Nat) (e : WalkEnd) (id : Nat) : State :=
  match s.opAt id with
  | none => s
  | some o =>
    match o.write, e with
    | true, .done => s.poundWrite o
    | true, .damaged => s.refuseWrite o r
    | true, _ => s.endWrite o false
    | false, .done =>
      let q := s.regSector r o.dpa
      let (s, node) := s.ccRead r 1 (q / 64)
      match node with
      | none =>
        if (s.protRegion r).st != .active then s.discardRead o (poisonFor o.dpa) else s.joinWalk r q (some id)
      | some leaf =>
        if cbMajor leaf = 0 && cbMinor leaf (q % 64) = 0 then s.discardRead o {}
        else
          let put (o : PoolOp) : PoolOp := { o with
            major := BitVec.ofNat 64 (cbMajor leaf), minor := cbMinor leaf (q % 64), stage := .out }
          let (s, ok) := s.useKey (r % 2) (o.slot.getD 0)
          if (s.protRegion r).st != .active then s.discardRead o (poisonFor o.dpa)
          else if !ok then s
          else
            let s := s.modOp id put
            match o.answer with
            | some a => (s.finishRead (put o) a).afterOp o.dpa
            | none => s
    | false, _ => s.discardRead o (poisonFor o.dpa)

/-- The nodes of a walk still wait for a write-back, or for an overflow above them (R241, R249). -/
def walkBlocked (s : State) (w : Walk) : Bool :=
  ((List.range (w.top - 1)).any fun j => match s.ccAt w.root (j + 1) (w.q / 64 ^ (j + 1)) with
    | some b => b.evicting
    | none => false) ||
  s.prot.walks.any fun x => x.root == w.root && match x.overflow with
    | some (l, i) => l == rootLevel (s.regSize w.root) || w.q / 64 ^ l == i
    | none => false

/-- The node reads of a walk return. -/
def walkDoneReads (s : State) (w : Walk) (answers : List PoolAnswer) : State :=
  let r := w.root
  let s := ({ s with prot := { s.prot with walks := s.prot.walks.filter (·.id != w.id) } } : State).metaDone (.walk w.id)
  let (s, e) := climbDown (w.top - 1) s r w.q answers
  if e = .wait then { s with prot := { s.prot with walks := s.prot.walks ++ [{ w with got := answers }] } }
  else
  let s := (List.range (w.top - 1)).foldl (fun s j => s.pinNode r (j + 1) (w.q / 64 ^ (j + 1)) false) s
  match e with
  | .retry =>
    w.ops.foldl (fun s id => if (s.opAt id).isSome then s.joinWalk r w.q (some id) else s) s
  | e =>
    let s := if e == .failed then s.raise 0x6003 .contained (.memory (s.regBase r + w.q * 64) 0 0 r 0 0) else s
    w.ops.foldl (fun s id => s.afterWalk r e id) s

/-- The walks that waited for a way go on (R245). -/
def resumeWalks (s : State) : State :=
  (s.prot.walks.filter fun w => !w.got.isEmpty).foldl (fun s w =>
    match s.prot.walks.find? fun x => x.id == w.id && !x.got.isEmpty with
    | some w => if s.walkBlocked w then s else s.walkDoneReads w w.got
    | none => s) s

def modWalk (s : State) (id : Nat) (f : Walk → Walk) : State :=
  { s with prot := { s.prot with walks := mapIf (·.id == id) f s.prot.walks } }

/-- An overflowed node is released once every child that it reads has come and every one that it writes is at the pool (R249). -/
def releaseNode (s : State) (id : Nat) : State :=
  match s.prot.walks.find? (·.id == id) with
  | none => s
  | some w =>
    match w.overflow with
    | some (l, i) =>
      if !w.kids.isEmpty || !w.writes.isEmpty then s
      else
        (({ s with prot := { s.prot with walks := s.prot.walks.filter (·.id != id) } } : State).pinNode w.root l i false).resumeWalks
    | none => s

/-- The children of an overflowed node return: each is verified at its old version and written with a new MAC; one that is resident again is dirty and goes with its next write-back (R249). -/
def overflowReads (s : State) (w : Walk) (l i : Nat) (answers : List PoolAnswer) : State :=
  let r := w.root
  let s := s.metaDone (.walk w.id)
  let major := cbMajor ((s.nodeBits r l i).getD 0)
  let s := (w.kids.zip answers).foldl (fun s (c, a) =>
    let n := i * 64 + c
    match s.ccAt r (l - 1) n with
    | some b => s.ccPut r (l - 1) n { b with dirty := true }
    | none =>
      if s.nodeOk r (l - 1) n (cbMajor w.old) (cbMinor w.old c) a then
        (s.modWalk w.id fun w => { w with writes := w.writes ++ [{ index := n, bits := a.data }] }).writeNode r (l - 1) n a.data major 0
      else s.markDamaged r (l - 1) n (s.regBase r + n * 64 ^ (l - 1) * 64)) s
  (s.modWalk w.id fun w => { w with kids := [] }).releaseNode w.id

/-- The overflow that writes a child (R249). -/
def childWriter (s : State) (r l i : Nat) : Option Walk :=
  s.prot.walks.find? fun w => w.root == r && (w.overflow.any fun o => o.1 == l + 1) && w.writes.any (·.index == i)

/-- The write of a child by an overflow ends: it is done, or fails with event 600C once, to be written again (R249, R251). -/
def childWritten (s : State) (w : Walk) (r l i : Nat) (ok : Bool) : State :=
  let s := s.metaDone (.node r l i)
  if ok then ((s.modWalk w.id fun w => { w with writes := w.writes.filter (·.index != i) }).releaseNode w.id).jobStep
  else
    let logged := w.writes.any fun x => x.index == i && x.logged
    let s := s.modWalk w.id fun w => { w with
      writes := mapIf (·.index == i) (fun x => { x with failed := some s.now, logged := true }) w.writes }
    if logged then s else s.raise 0x600C .contained (.memory 0 0 0 r 0 0)

/-- NODE_RETRY_INTERVAL has passed since the write of a child failed: it is written again. -/
def retryChild (s : State) (w : Walk) (r l i : Nat) : State :=
  match w.writes.find? (·.index == i), w.overflow with
  | some x, some (_, p) =>
    match x.failed with
    | some t =>
      if s.now < t + s.reg 0x4040 1 * 1000 || s.power.device == .pfDraining then s
      else
        let major := cbMajor ((s.nodeBits r (l + 1) (if l + 1 = rootLevel (s.regSize r) then 0 else p)).getD 0)
        (s.modWalk w.id fun w => { w with writes := mapIf (·.index == i) (fun x => { x with failed := none }) w.writes }).writeNode r l i x.bits major 0
    | none => s
  | _, _ => s

/-- Node reads return (R241, R249). -/
def nodeReads (s : State) (id : Nat) (answers : List PoolAnswer) : State :=
  match s.prot.walks.find? (·.id == id) with
  | none => s
  | some w =>
    if s.metaWaits (.walk id) || s.power.device == .pfDraining then s
    else match w.overflow with
    | some (l, i) => (s.overflowReads w l i answers).jobStep
    | none => if s.walkBlocked w then s else ((s.walkDoneReads w answers).resumeWalks).jobStep

/-! ### Node write-backs (R245, R251) -/

/-- A node write-back and its MAC write end: the block is freed, or stays dirty and pinned with event 600C once (R245, R251). -/
def nodeWritten (s : State) (r l i : Nat) (b : CcBlock) (ok : Bool) : State :=
  if ok then
    let s := if b.evicting then s.ccDrop r l i else s.ccPut r l i { b with writing := false, failed := none, pinned := false }
    (s.metaDone (.node r l i)).resumeWalks.jobStep
  else
    let s := s.ccPut r l i { b with
      writing := false, evicting := false, doomed := false, dirty := true, pinned := true, failed := some s.now }
    let s := if b.failed.isSome then s else s.raise 0x600C .contained (.memory 0 0 0 r 0 0)
    (s.metaDone (.node r l i)).resumeWalks.jobStep

/-- NODE_WRITEBACK_DONE, for a block of the counter cache or for a child that an overflow writes. -/
def writebackDone (s : State) (r l i : Nat) (ok : Bool) : State :=
  if s.metaWaits (.node r l i) && ok then s
  else match s.childWriter r l i, s.ccAt r l i with
  | some w, _ => s.childWritten w r l i ok
  | none, some b => if b.writing then s.nodeWritten r l i b ok else s
  | none, none => s

/-- NODE_RETRY_INTERVAL has passed since a node write-back failed: it is written again (R251). -/
def retryNode (s : State) (r l i : Nat) : State :=
  match s.childWriter r l i, s.ccAt r l i with
  | some w, _ => s.retryChild w r l i
  | none, none => s
  | none, some b =>
    match b.failed with
    | some t => if b.writing || decide (s.now < t + s.reg 0x4040 1 * 1000) then s else s.writeBackNode r l i false
    | none => s

/-! ### Timeouts (R342) -/

/-- An outstanding access or walk fails: a read is poisoned, a write is lost, a walk ends (R251, R342). -/
def failAccess (s : State) (id : Nat) : State :=
  match s.opAt id, s.prot.walks.find? (·.id == id) with
  | some o, _ =>
    if o.stage == .dropped then ((s.dropOp id).afterOp o.dpa).jobStep
    else if (o.stage != .out && o.stage != .walking) || o.answer.isSome || (o.write && o.stage != .out) then s
    else if o.write then ((s.endWrite o false).afterOp o.dpa).jobStep
    else ((s.failRead o).afterOp o.dpa).jobStep
  | none, some w =>
    let failed : PoolAnswer := { status := .failed, data := 0, mac := 0 }
    match w.overflow with
    | some (l, i) => if w.kids.isEmpty then s else (s.overflowReads w l i (List.replicate 64 failed)).jobStep
    | none => if w.got.isEmpty then ((s.walkDoneReads w (List.replicate 7 failed)).resumeWalks).jobStep else s
  | none, none => s

/-- When an access or walk left the pins. -/
def sentAt (s : State) (id : Nat) : Nat :=
  match s.opAt id with
  | some o => o.sent
  | none => ((s.prot.walks.find? (·.id == id)).map (·.sent)).getD s.now

/-- POOL_TIMEOUT has passed since an access or a walk left the pins (R342). -/
def poolTimeout (s : State) (id : Nat) : State :=
  if s.now < s.sentAt id + s.reg 0x5100 1 * 1000 then s else s.failAccess id

/-- The pool port of an access. -/
def opPort (s : State) (o : PoolOp) : Option Nat := (s.poolAddr o.dpa).map (·.1)

/-- A pool port is no longer UP: what is outstanding there fails at once (R342). -/
def failPort (s : State) (p : Nat) : State :=
  let ops := (s.prot.ops.filter fun o => s.opPort o == some p).map (·.id)
  let walks := (s.prot.walks.filter fun w => s.rootPort w.root == p).map (·.id)
  let nodes := (s.prot.cc.filter fun (x : Nat × CcBlock) => x.2.writing && s.rootPort (ccRootOf x.1) == p).map fun (x : Nat × CcBlock) => x.1
  let kids := ((s.prot.walks.filter fun w => s.rootPort w.root == p).map fun w =>
    (w.writes.filter (·.failed.isNone)).map fun x => (w.root, (w.overflow.map (·.1)).getD 0 - 1, x.index)).flatten
  let s := ops.foldl (fun s id => s.failAccess id) s
  let s := walks.foldl (fun s id => s.failAccess id) s
  let s := kids.foldl (fun s k => s.writebackDone k.1 k.2.1 k.2.2 false) s
  nodes.foldl (fun s k => s.writebackDone (ccRootOf k) (ccLevelOf k) (ccIndexOf k) false) s

/-! ### The re-knit engine (R257 to R264) -/

/-- The end of a region. -/
def regEnd (s : State) (r : Nat) : Nat := s.regBase r + s.regSize r

/-- The number of sectors that can be skipped from sector `q` on, with the needle there: below a damaged subtree, under a never-written node, or a never-written sector (R260); `l` is the highest level looked at. -/
def skipSpan : Nat → State → Nat → Nat → Nat
  | 0, _, _, _ => 0
  | l + 1, s, r, q =>
    let size := 64 ^ (l + 1)
    let i := q / size
    let root := rootLevel (s.regSize r)
    let parent := s.nodeBits r (l + 2) (if l + 2 = root then 0 else i / 64)
    let bare := match parent with
      | some p => (s.ccAt r (l + 1) i).isNone && cbMajor p = 0 && cbMinor p (i % 64) = 0
      | none => false
    let hurt := s.prot.damaged.contains (r, l + 1, i)
    if l + 1 < root && (bare || hurt) then (i + 1) * size - q else skipSpan l s r q

/-- The engine's next move at the needle when the sector there needs no ordinary conversion; none when it does. -/
def skipAt (s : State) (r : Nat) : Option Nat :=
  let q := s.regSector r (s.protRegion r).needle
  match skipSpan 7 s r q with
  | n + 1 => some (n + 1)
  | 0 => match s.nodeBits r 1 (q / 64) with
    | some leaf => if cbMajor leaf = 0 && cbMinor leaf (q % 64) = 0 then some 1 else none
    | none => none

/-- Whether the engine may work: a region is being re-knitted, it is ACTIVE, and REKNIT_RATE is not 0. -/
def engineRoot (s : State) : Option Nat :=
  match s.prot.reknitRoot with
  | some r => if (s.protRegion r).st == .active && s.reg 0x4030 1 != 0 then some r else none
  | none => none

/-- Send the RK read of a sector to its home (R258, step 2). -/
def sendRkRead (s : State) (dpa : Nat) : State :=
  let (id, s) := s.fresh
  s.arrive { id := id, origin := .reknit, cls := .rdNc, dpa := dpa, cached := false }

/-- Whether a page of 64 sectors can be converted at once without passing REKNIT_RATE over any window (R261). -/
def pageFits (s : State) : Bool := decide (s.prot.rkPace + 63 * s.rkUnit ≤ s.now * 100)

/-- The nodes on the way to a sector are read through their checkers (R251). -/
def checkPath (s : State) (r q : Nat) : State :=
  (List.range (rootLevel (s.regSize r))).foldl (fun s l => (s.nodeRead r (l + 1) (q / 64 ^ (l + 1))).1) s

/-- The engine's read of a sector that is to be converted: its leaf is used from the counter cache or fetched, an exhausted leaf is converted with its page at the needle, a sector never written needs no conversion, and each home slice watches at most 64 sectors, and the conversion of a page as a unit keeps REKNIT_RATE too (R258, R260 to R262). -/
def rkReadAt (s : State) (r next : Nat) (atNeedle : Bool) : State :=
  let q := s.regSector r next
  let (s, leaf) := s.ccRead r 1 (q / 64)
  match leaf with
  | none =>
    if s.underDamage r q then s else s.joinWalk r q none
  | some leaf =>
    if s.prot.spent.contains (r, q / 64) then
      if atNeedle && s.pageFits then s.holdPage r (q / 64) 0 true else s
    else if (cbMajor leaf = 0 && cbMinor leaf (q % 64) = 0) || 64 ≤ (s.prot.watch.filter fun w => homeSlice w.dpa == homeSlice next).length then s
    else
      let s := s.pinNode r 1 (q / 64) true
      let s := { s with prot := { s.prot with
          rkNext := next + 64, watch := s.prot.watch ++ [({ dpa := next, reading := true } : WatchEntry)] } }
      s.sendRkRead next

/-- RK_READ: repeat a cancelled conversion, pass what needs none, convert an exhausted page as a unit, or read the next sector (R258, R260, R262). -/
def rkRead (s : State) : State :=
  match s.engineRoot with
  | none => s
  | some r =>
    match s.prot.watch.find? fun w => !w.reading && w.value.isNone with
    | some w =>
      ({ s with prot := { s.prot with
          watch := mapIf (·.dpa == w.dpa) (fun w => { w with reading := true, dirty := false, watched := false }) s.prot.watch } } : State).sendRkRead w.dpa
    | none =>
      let needle := (s.protRegion r).needle
      let next := max s.prot.rkNext needle
      if s.regEnd r ≤ next then s
      else if s.prot.pages.any fun j => j.root == r && j.convert then s
      else
        let s := if next = needle then s.checkPath r (s.regSector r needle) else s
        match (if next = needle then s.skipAt r else none) with
        | some n => (s.setNeedle r (min (needle + 64 * n) (s.regEnd r))).endReknit r
        | none => s.rkReadAt r next (next == needle)

/-- RK_VALUE: the value is back, and the RK write goes to the home (R258, step 4). -/
def rkValue (s : State) (dpa : Nat) : State :=
  { s with prot := { s.prot with
      watch := mapIf (fun w => w.dpa == sectorOf dpa && w.value.isSome && !w.sent) (fun w => { w with sent := true }) s.prot.watch } }

/-- An RK write is ordered at its home: it writes the value that was read, poisoned where the sector is poisoned (R258, step 4; R261). -/
def orderRkWrite (s : State) (d : Nat) (w : WatchEntry) : State :=
  let k := homeSlice d
  let (s, _) := s.dirLookup k d
  let e := s.dirEntryOf d
  let v := w.value.getD {}
  let poison := v.isPoisoned || e.st == .p || e.st == .pp
  let s := { s with prot := { s.prot with
      watch := mapIf (·.dpa == d) (fun w => { w with ordered := true }) s.prot.watch } }
  s.sliceWrite k { origin := .reknit, cls := .wrNc, dpa := d, cached := false }
    { data := v.data, mask := BitVec.allOnes 64, poison := poison }

/-- RK_WRITE_START: with no entry of its sector buffered the RK write is ordered under the sector lock, or a DIRTY watch cancels it (R258, step 4; R259). -/
def rkWriteStart (s : State) (dpa : Nat) : State :=
  let d := sectorOf dpa
  let k := homeSlice d
  match s.prot.watch.find? fun w => w.dpa == d && w.sent && !w.ordered with
  | none => s
  | some w =>
    if s.wbHolds k d || ((s.slice k).mergeBuf.any fun e => sectorOf e.dpa == d) || (s.trackerOf d).isSome || !s.wbRoom k then s
    else if w.dirty then
      let watch : List WatchEntry := mapIf (·.dpa == d) (fun _ => { dpa := d }) s.prot.watch
      ({ s with prot := { s.prot with watch := watch } } : State).bump64 0x4030 4
    else s.orderRkWrite d w

/-- An RK write is encrypted under NEW_SLOT with the next version of its sector, at REKNIT_RATE, and the needle passes it (R258, step 5; R263). -/
def encryptRk (s : State) (r : Nat) (o : PoolOp) (leaf : Sector) : State :=
  let x := s.protRegion r
  let q := s.regSector r o.dpa
  let s := s.paceBy 1
  let s := if o.dpa = x.needle then s.setNeedle r (o.dpa + 64) else s
  let last := !(s.prot.watch.any fun w => s.regSector r w.dpa / 64 == q / 64)
  let s := s.raiseVersion o r x.newSlot leaf
  let s := if last && !s.pageHeld r q then s.pinNode r 1 (q / 64) false else s
  s.endReknit r

/-- RK_WRITE_ENCRYPT: the RK write at the needle is encrypted under NEW_SLOT, and the needle passes it (R258, step 5; R261, R263). -/
def rkWriteEncrypt (s : State) : State :=
  match s.engineRoot with
  | none => s
  | some r =>
    let x := s.protRegion r
    match s.prot.ops.find? fun o => o.rk && !o.encrypted && o.root == some r && decide (o.dpa ≤ x.needle) &&
        (o.stage == .toPound || o.stage == .held) with
    | none => s
    | some o =>
      let q := s.regSector r o.dpa
      if s.now * 100 < s.prot.rkPace || s.pageHeld r q then s
      else if s.underDamage r q then (s.endWrite o false).jobStep
      else
        let (s, leaf) := s.ccRead r 1 (q / 64)
        let (s, ok) := s.useKey (r % 2) x.newSlot
        match leaf with
        | none => if (s.protRegion r).st == .active then s.joinWalk r q none else s
        | some leaf =>
          if !ok || (s.protRegion r).st != .active then s
          else if cbMinor leaf (q % 64) = 127 && cbMajor leaf = 2 ^ 64 - 1 then
            if !s.pageFits then s
            else (s.exhaustLeaf r (q / 64) o.dpa).holdPage r (q / 64) o.id true
          else s.encryptRk r o leaf

/-- REKNIT_STALL: the needle has not advanced within REKNIT_STALL_LIMIT (R264). -/
def reknitStall (s : State) : State :=
  match s.prot.reknitRoot with
  | none => s
  | some r =>
    if s.reg 0x4030 1 = 0 || s.prot.stallLogged || decide (s.now < s.prot.needleAt + s.reg 0x4030 2 * 1000000) then s
    else
      (({ s with prot := { s.prot with stallLogged := true } } : State).deadlineMiss 7).raise 0x600D .degraded (.memory 0 0 0 r 0 0)

/-! ### Commands (R253, R254, R266 to R270) -/

/-- Whether two ranges meet. -/
def rangesMeet (a n b m : Nat) : Bool := decide (a < b + m) && decide (b < a + n)

/-- An ACTIVE host region with PROTECT = 1 has this ROOT. -/
def rootBound (s : State) (r : Nat) : Bool :=
  s.tenant.regions.any fun (g : Nat × Region) => g.2.st == .active && rdProtect g.2.desc1 && rdRoot g.2.desc1 == r

/-- A RETIRED reverse-map interval overlaps a DPA range (R99). -/
def retiredOver (s : State) (base size : Nat) : Bool :=
  s.home.revMap.any fun i => i.retired && rangesMeet (i.base * 2 ^ 21) (i.units * 2 ^ 21) base size

/-- Whether the committed descriptor that a running REGION_COMMIT replaces is of a kind: it stands until the command's drain has ended (R45). -/
def commandBefore (s : State) (g : Nat) (names : Word128 → Bool) : Bool :=
  (s.tenant.regionRun.any fun j => j.region == g && j.before.any fun w => names w.1) ||
    s.tenant.drains.any fun d => d.ticket.isSome && d.region == g && d.before.any fun w => names w.1

/-- A region command runs on a host region whose staged or committed descriptor names this root. -/
def regionCmdOn (s : State) (r : Nat) : Bool :=
  s.mgmt.cmds.any fun c => c.running && decide (0x2001 ≤ c.opcode) && decide (c.opcode ≤ 0x2004) &&
    (let g := s.region (ofLe (c.params.take 2))
     let names (w : Word128) : Bool := rdProtect w && rdRoot w == r
     names g.staged1 || ((g.st == .active || g.st == .committing) && names g.desc1) ||
       s.commandBefore (ofLe (c.params.take 2)) names)

/-- The metadata area lies inside its target's pool range and outside its DPA window (R230). -/
def metaPlaced (s : State) (w1 w0 : Word128) : Bool :=
  let t := Table.get 0 s.link.targets (pdTarget w1)
  let a := pdMeta w0
  let n := metaSize (pdSize w1)
  decide (ptPoolBase t ≤ a) && decide (a + n ≤ ptPoolBase t + ptPoolSize t) && !rangesMeet a n (ptPoolBase t) (ptDpaSize t)

/-- Another ACTIVE, DORMANT or POISONED region overlaps in DPA or metadata. -/
def protOverlap (s : State) (r : Nat) (w1 w0 : Word128) : Bool :=
  s.prot.regions.any fun (x : Nat × ProtRegion) =>
    x.1 != r && (x.2.st == .active || x.2.st == .dormant || x.2.st == .poisoned) &&
      (rangesMeet (pdBase w1) (pdSize w1) (pdBase x.2.desc1) (pdSize x.2.desc1) ||
        (pdTarget w1 == pdTarget x.2.desc1 &&
          rangesMeet (pdMeta w0) (metaSize (pdSize w1)) (pdMeta x.2.desc0) (metaSize (pdSize x.2.desc1))))

/-- The first check of PROT_INIT that fails gives its result; 0 when all pass (Table: PROT_INIT checks). -/
def protInitCheck (s : State) (r : Nat) : Nat :=
  let x := s.protRegion r
  let w1 := x.staged1
  let t := Table.get 0 s.link.targets (pdTarget w1)
  if s.prot.st != .enabled || x.reknitting then 0x4010
  else if !pdValid w1 || pdReserved w1 x.staged0 || decide (2 ^ 44 ≤ pdBase w1) || decide (2 ^ 44 < pdSize w1) || !ptValid t ||
      decide (pdBase w1 < ptDpaBase t) || decide (ptDpaBase t + ptDpaSize t < pdBase w1 + pdSize w1) then 0x4011
  else if !s.metaPlaced w1 x.staged0 then 0x4012
  else if s.protOverlap r w1 x.staged0 then 0x4013
  else if (s.keySlot (pdKeySlot w1)).st != .fresh then 0x4014
  else if s.rootBound r || s.retiredOver (pdBase w1) (pdSize w1) then 0x4015
  else if s.regionCmdOn r then 0x4017
  else if 255 ≤ x.epoch then 0x4016
  else 0

/-- PROT_INIT (R266). -/
def protInit (s : State) (t r : Nat) : State :=
  if 4096 ≤ r then s.endCmd t 0x0011
  else match s.protInitCheck r with
    | 0 => ({ s with prot := { s.prot with job := some (t, r, true) } } : State).jobStep
    | c => s.endCmd t c

/-- PROT_RELEASE by the region's state (R267). -/
def protRelease (s : State) (t r : Nat) : State :=
  let x := s.protRegion r
  if 4096 ≤ r then s.endCmd t 0x0011
  else if x.st == .empty then s.endCmd t 0
  else if x.st == .staged then (s.modProtRegion r fun x => { x with st := .empty, staged1 := 0, staged0 := 0 }).endCmd t 0
  else if s.prot.st != .enabled || x.st == .dormant || x.reknitting then s.endCmd t 0x4010
  else if s.rootBound r || s.retiredOver (pdBase x.desc1) (pdSize x.desc1) then s.endCmd t 0x4015
  else if s.regionCmdOn r then s.endCmd t 0x4017
  else ({ s with prot := { s.prot with job := some (t, r, false) } } : State).jobStep

/-- PROT_REKNIT (R270). -/
def protReknit (s : State) (t r k : Nat) : State :=
  if 4096 ≤ r || 4096 ≤ k then s.endCmd t 0x0011
  else if (s.protRegion r).st != .active then s.endCmd t 0x4010
  else if s.prot.reknitRoot.isSome then s.endCmd t 0x4017
  else if (s.keySlot k).st != .fresh then s.endCmd t 0x4014
  else
    let base := s.regBase r
    let s := (s.modProtRegion r fun x => { x with reknitting := true, newSlot := k, needle := base }).modKeySlot k
      fun x => { x with st := .bound, root := some r }
    ({ s with prot := { s.prot with
        reknitRoot := some r, rkNext := base, watch := [], needleAt := s.now, stallLogged := false } } : State).endCmd t 1

/-- Protection becomes ENABLED: DORMANT regions become ACTIVE (R268). -/
def protOn (s : State) : State :=
  let wake (x : ProtRegion) : ProtRegion := { x with st := if x.st == .dormant then .active else x.st }
  { s with prot := { s.prot with st := .enabled, deferredEnable := false, regions := Table.mapVals {} wake s.prot.regions } }

/-- PROT_ENABLE by state (Table: Protection commands by state). -/
def protEnable (s : State) (t : Nat) : State :=
  match s.prot.st with
  | .enabled => s.endCmd t 0
  | .flushing =>
    if s.prot.deferredEnable then s.endCmd t 0x4017
    else ({ s with prot := { s.prot with deferredEnable := true } } : State).endCmd t 2
  | .disabled => s.protOn.endCmd t 0

/-- Write back every dirty node, children before parents; one whose write-back failed waits for its retry (R251, R268). -/
def flushNodes (s : State) : State :=
  [1, 2, 3, 4, 5, 6].foldl (fun s l =>
    (s.prot.cc.filter fun (p : Nat × CcBlock) => ccLevelOf p.1 == l && p.2.dirty && !p.2.writing && p.2.failed.isNone).foldl (fun s p =>
      s.writeBackNode (ccRootOf p.1) l (ccIndexOf p.1) false) s) s

/-- PROT_DISABLE by state. -/
def protDisable (s : State) (t : Nat) : State :=
  match s.prot.st with
  | .enabled =>
    if s.tenant.regions.any fun (g : Nat × Region) => g.2.st == .active && rdProtect g.2.desc1 then s.endCmd t 0x4015
    else if s.prot.reknitRoot.isSome then s.endCmd t 0x4017
    else ({ s with prot := { s.prot with st := .flushing } } : State).flushNodes.endCmd t 1
  | .flushing => ({ s with prot := { s.prot with deferredEnable := false } } : State).endCmd t 1
  | .disabled => s.endCmd t 0

/-- PROT_FLUSH_DONE: every dirty node has been written back (R268). A node that became dirty under its children's write-backs goes out first. -/
def protFlushDone (s : State) : State :=
  if s.prot.st != .flushing then s
  else
    let s := s.flushNodes
    if s.prot.cc.any fun (p : Nat × CcBlock) => p.2.dirty || p.2.writing then s
    else
      let sleep (x : ProtRegion) : ProtRegion := { x with st := if x.st == .active then .dormant else x.st }
      let s := { s with prot := { s.prot with
          st := .disabled, cc := [], regions := Table.mapVals {} sleep s.prot.regions } }
      if s.prot.deferredEnable then s.protOn else s

/-- KEK_ESTABLISH (R253). -/
def kekEstablish (s : State) (t : Nat) (key : List Byte) : State :=
  match parsePoint key with
  | none => s.endCmd t 0x4020
  | some p => ({ s with prot := { s.prot with kek := some (ecdhKek p) } } : State).endCmd t 0

/-- KEK_CLEAR (R270). -/
def kekClear (s : State) (t : Nat) : State := ({ s with prot := { s.prot with kek := none } } : State).endCmd t 0

/-- A slot's words are written in both pounds. -/
def slotWritten (s : State) (k : Nat) : State := (s.wordsWritten 356 (2 * k) 2).wordsWritten 357 (2 * k) 2

/-- KEY_LOAD: slot, KEK and unwrap are checked in this order (R254). -/
def keyLoad (s : State) (t k : Nat) (wrapped : List Byte) : State :=
  if 4096 ≤ k || (s.keySlot k).st != .empty then s.endCmd t 0x4023
  else match s.prot.kek with
    | none => s.endCmd t 0x4021
    | some kek =>
      match keyUnwrap kek wrapped with
      | none => (s.raise 0x600F .note (.count k 0)).endCmd t 0x4022
      | some key => ((s.modKeySlot k fun x => { x with st := .fresh, key := key, root := none }).slotWritten k).endCmd t 0

/-- KEY_ERASE (R254). -/
def keyErase (s : State) (t k : Nat) : State :=
  if 4096 ≤ k then s.endCmd t 0x0011
  else if (s.keySlot k).st == .bound then s.endCmd t 0x4024
  else ((s.modKeySlot k fun _ => {}).slotWritten k).endCmd t 0

/-- A key slot is restored from the other pound's copy, and the accesses that waited go on (R251). -/
def keyRestored (s : State) (pound slot : Nat) : State :=
  if (s.keySlot slot).restoring != some pound then s
  else
    let s := s.modKeySlot slot fun x => { x with restoring := none }
    let s := (s.setDamage (356 + pound) (2 * slot) 0).setDamage (356 + pound) (2 * slot + 1) 0
    let mine (o : PoolOp) : Bool := o.root.any fun r => r % 2 == pound
    let s := (s.prot.ops.filter fun o => mine o && o.stage == .walking && !s.prot.walks.any fun w => w.ops.contains o.id).foldl
      (fun s o => s.afterWalk (o.root.getD 0) .done o.id) s
    (s.releaseHeld mine).jobStep

end State

/-! ### The rows -/

/-- POOL_WRITE_ENCRYPT: a pool write reaches the protection pound (R242). -/
def execPoolWriteEncrypt (id : Nat) (s : State) : Host.Outcome State Fault Refusal :=
  run (.poolWriteEncrypt id) s fun s => s.encryptWrite id

/-- PAGE_REENCRYPT_READS_DONE: the reads of a re-encrypting page return (R248). -/
def execPageReencryptReadsDone (id : Nat) (answers : List PoolAnswer) (s : State) : Host.Outcome State Fault Refusal :=
  run (.pageReencryptReadsDone id answers) s fun s => s.pageDone id answers

/-- POOL_WRITE_COMPLETION: the pool completes a write, or fails it (R68, R72). -/
def execPoolWriteCompletion (id : Nat) (ok : Bool) (s : State) : Host.Outcome State Fault Refusal :=
  run (.poolWriteCompletion id ok) s fun s => s.writeCompleted id ok

/-- POOL_READ_RESPONSE: a pool read is decrypted and checked, or passed through (R237). -/
def execPoolReadResponse (id : Nat) (answer : PoolAnswer) (s : State) : Host.Outcome State Fault Refusal :=
  run (.poolReadResponse id answer) s fun s => s.readResponse id answer

/-- POOL_TIMEOUT_EXPIRY: a pool access has no response within POOL_TIMEOUT (R342). -/
def execPoolTimeoutExpiry (id : Nat) (s : State) : Host.Outcome State Fault Refusal :=
  run (.poolTimeoutExpiry id) s fun s => s.poolTimeout id

/-- NODE_READ_RESPONSE: the node reads of a walk, or of an overflow, return (R241, R249). -/
def execNodeReadResponse (id : Nat) (answers : List PoolAnswer) (s : State) : Host.Outcome State Fault Refusal :=
  run (.nodeReadResponse id answers) s fun s => s.nodeReads id answers

/-- NODE_WRITEBACK_DONE: a node write-back ends (R245). -/
def execNodeWritebackDone (root level index : Nat) (ok : Bool) (s : State) : Host.Outcome State Fault Refusal :=
  run (.nodeWritebackDone root level index ok) s fun s => s.writebackDone root level index ok

/-- NODE_RETRY: a failed node write-back is rewritten (R251). -/
def execNodeRetry (root level index : Nat) (s : State) : Host.Outcome State Fault Refusal :=
  run (.nodeRetry root level index) s fun s => s.retryNode root level index

/-- RK_READ: the re-knit engine reads its next sector (R258). -/
def execRkRead (s : State) : Host.Outcome State Fault Refusal := run .rkRead s State.rkRead

/-- RK_VALUE: an RK read's value arrives (R258). -/
def execRkValue (dpa : Nat) (s : State) : Host.Outcome State Fault Refusal := run (.rkValue dpa) s fun s => s.rkValue dpa

/-- RK_WRITE_START: an RK write is ordered at its home, or cancelled (R259). -/
def execRkWriteStart (dpa : Nat) (s : State) : Host.Outcome State Fault Refusal :=
  run (.rkWriteStart dpa) s fun s => s.rkWriteStart dpa

/-- RK_WRITE_ENCRYPT: the RK write at the needle is encrypted (R258). -/
def execRkWriteEncrypt (s : State) : Host.Outcome State Fault Refusal := run .rkWriteEncrypt s State.rkWriteEncrypt

/-- REKNIT_STALL: the needle's deadline passes (R264). -/
def execReknitStall (s : State) : Host.Outcome State Fault Refusal := run .reknitStall s State.reknitStall

/-- PROT_FLUSH_DONE: the flush ends (R268). -/
def execProtFlushDone (s : State) : Host.Outcome State Fault Refusal := run .protFlushDone s State.protFlushDone

/-- KEY_SLOT_RESTORE: a key slot is restored from the other pound (R251). -/
def execKeySlotRestore (pound slot : Nat) (s : State) : Host.Outcome State Fault Refusal :=
  run (.keySlotRestore pound slot) s fun s => s.keyRestored pound slot

end Sys2Proof.Machine
end

