-- ==== Sys2Proof/Machine/Search.lean ====
section
/-! DEFINITION. The search engine: chart descriptors, rows and their match, bank groups, the arbitration of the pipes, applies, and the pattern-store sweep with its repairs (R169 to R199, R212). -/

namespace Sys2Proof.Machine

/-! ### Chart descriptor (Table: Chart descriptor) -/

def cdValid (w1 : Word128) : Bool := w1.getLsbD 127
def cdWidth (w1 : Word128) : Nat := fld w1 125 2
def cdLpm (w1 : Word128) : Bool := w1.getLsbD 124
def cdSpan (w1 : Word128) : Nat := fld w1 122 2
def cdBankFirst (w1 : Word128) : Nat := fld w1 115 7
def cdBankCount (w1 : Word128) : Nat := fld w1 107 8
def cdGroups (w1 : Word128) : Nat := fld w1 102 5
def cdBselCount (w1 : Word128) : Nat := fld w1 98 4
def cdBselPos (w1 : Word128) (i : Nat) : Nat := fld w1 (26 + 9 * i) 9
def cdDselCount (w1 : Word128) : Nat := fld w1 22 4
def cdDselPos (w0 : Word128) (i : Nat) : Nat := fld w0 (56 + 9 * i) 9
def cdLatency (w0 : Word128) : Nat := fld w0 44 12
def cdReserved (w1 w0 : Word128) : Bool := fld w1 0 22 ≠ 0 || fld w0 0 44 ≠ 0

/-- The key segments, and the key bits, of a width code. -/
def segments (width : Nat) : Nat := 2 ^ width
def keyBits (width : Nat) : Nat := 128 * segments width

/-- Used select positions. -/
def bselPositions (w1 : Word128) : List Nat := (List.range (cdBselCount w1)).map (cdBselPos w1)
def dselPositions (w1 w0 : Word128) : List Nat := (List.range (cdDselCount w1)).map (cdDselPos w0)

/-- The select value of a key at a list of positions, position 0 lowest (R185, R213). -/
def selectValue (key : BitVec 512) (ps : List Nat) : Nat :=
  ps.zipIdx.foldl (fun v (p, i) => v + bit (key.getLsbD p) * 2 ^ i) 0

/-- Select values that agree with an entry at every position where it has a care bit (R186). -/
def agreeing (value mask : BitVec 512) (ps : List Nat) : List Nat :=
  (List.range (2 ^ ps.length)).filter fun v =>
    ps.zipIdx.all fun (p, i) => !mask.getLsbD p || value.getLsbD p == v.testBit i

/-- Banks per group. -/
def banksPerGroup (w1 : Word128) : Nat := cdBankCount w1 / max 1 (cdGroups w1)

/-- The banks of a group. -/
def groupBanks (w1 : Word128) (g : Nat) : List Nat :=
  (List.range (banksPerGroup w1)).map (cdBankFirst w1 + g * banksPerGroup w1 + ·)

/-- The banks that a search fires (R185). -/
def firedBanks (w1 : Word128) (gmap : Table Nat) (key : BitVec 512) : List Nat :=
  groupBanks w1 (Table.get 0 gmap (selectValue key (bselPositions w1)))

/-- The pipes that a search takes (R189). -/
def pipesOf (w1 : Word128) : Nat := (banksPerGroup w1 + 7) / 8

/-! ### Rows (R170 to R173) -/

def rowBank (i : Nat) : Nat := i / 16384

/-- A key segment. -/
def segment (key : BitVec 512) (s : Nat) : Word128 := BitVec.ofNat 128 (fld key (128 * s) 128)

/-- Whether the 128 cells of a row match a segment: no cell that must be 1 meets a 0, and none that must be 0 meets a 1. -/
def Row.hits (r : Row) (k : Word128) : Bool := (r.x &&& ~~~k) == 0 && (r.y &&& k) == 0

/-- The row control word with its parity bit (R171). -/
def Row.control (r : Row) : Nat :=
  let v := bit r.valid * 2 ^ 63 + r.width * 2 ^ 61 + r.pos * 2 ^ 59 + r.chart * 2 ^ 51 + r.priority * 2 ^ 31
  v + ((List.range 63).foldl (fun p i => (p + bits v (i + 1) 1) % 2) 0)

/-- The cells of one segment of an entry (R170). -/
def cellsX (value mask : BitVec 512) (s : Nat) : Word128 := segment (value &&& mask) s
def cellsY (value mask : BitVec 512) (s : Nat) : Word128 := segment (~~~value &&& mask) s

/-- The rows of an entry's copy, as they are to stand in the array (R172, R176). -/
def entryRow (chart width priority : Nat) (value mask : BitVec 512) (datum : BitVec 64) (s : Nat) : Row where
  x := cellsX value mask s
  y := cellsY value mask s
  valid := s == 0
  width := width
  pos := s
  chart := chart
  priority := if s = 0 then priority else 0
  datum := if s = 0 then datum else 0

/-- The priority of an entry: its care bits in an LPM chart, else as supplied (R175). -/
def entryPriority (w1 : Word128) (mask : BitVec 512) (given : Nat) : Nat :=
  if cdLpm w1 then ((List.range (keyBits (cdWidth w1))).filter fun i => mask.getLsbD i).length else given

namespace State

def rowAt (s : State) (i : Nat) : Row := Table.get {} s.search.rows i
def imageAt (s : State) (i : Nat) : Row := Table.get {} s.search.images i

/-- The word of the pattern store that holds part `w` of a row's image: X, Y and control, in the stack of its bank (R193). -/
def imageWord (i w : Nat) : Nat × Nat := (358 + i / 16384 / 32, i % (32 * 16384) * 3 + w)

/-- Firmware writes a row's image (R206, step 2). -/
def putImage (s : State) (i : Nat) (r : Row) : State :=
  let s := { s with search := { s.search with images := Table.set {} s.search.images i r } }
  (List.range 3).foldl (fun s w => s.wordWritten (imageWord i w).1 (imageWord i w).2) s

/-- An apply writes a row (R193). -/
def putRow (s : State) (a : Apply) : State :=
  let s := { s with search := { s.search with rows := Table.set {} s.search.rows a.row a.image } }
  let s := s.wordWritten 367 a.row
  if a.image.pos = 0 then s.wordUpdated 366 (a.row / 2) else s

/-- Firmware's apply groups, in order. A group without applies is no group of the engine: it only marks what follows once those before it are written. -/
def handGroup (s : State) (g : ApplyGroup) : State :=
  { s with search := { s.search with groups := s.search.groups ++ [g] } }

end State

/-- How many of the listed groups, marks among them, are up to the `n`-th group that has applies. -/
def groupsUpTo : Nat → List ApplyGroup → Nat
  | 0, _ | _, [] => 0
  | n + 1, g :: gs => 1 + if g.applies.isEmpty then groupsUpTo (n + 1) gs else groupsUpTo n gs

namespace State

/-- The outstanding apply groups: at most four are in the engine's hands, and firmware holds the others back (R193). -/
def outstandingGroups (s : State) : List ApplyGroup := s.search.groups.take (groupsUpTo 4 s.search.groups)

/-- A repair that the engine starts itself is handed over behind the outstanding groups, before what firmware holds back (R193). -/
def handRepair (s : State) (g : ApplyGroup) : State :=
  { s with search := { s.search with groups := s.outstandingGroups ++ g :: s.search.groups.drop s.outstandingGroups.length } }

/-- Put an apply into the first group that has room and does not hold its bank. -/
def packApply (gs : List (List Apply)) (a : Apply) : List (List Apply) :=
  match gs with
  | [] => [[a]]
  | g :: rest =>
    if g.length < 16 && !(g.any fun x => rowBank x.row == rowBank a.row) then (g ++ [a]) :: rest else g :: packApply rest a

/-- Applies in groups of at most 16, each row of a group in a bank of its own (R193). -/
def packApplies (l : List Apply) : List (List Apply) := l.foldl packApply []

/-- Hand applies over in groups; `after` follows the last of them, and its rows are then free. Without any apply it is a mark. -/
def handApplies (s : State) (l : List Apply) (after : AfterApply) (free : List Nat) : State :=
  match (packApplies l).reverse with
  | [] => if after == .nothing && free.isEmpty then s else s.handGroup { applies := [], after := after, free := free }
  | last :: rest =>
    (rest.reverse.foldl (fun s g => s.handGroup { applies := g }) s).handGroup { applies := last, after := after, free := free }

/-- Rows with an apply waiting or in flight (R194). -/
def applyPending (s : State) (i : Nat) : Bool := s.search.groups.any fun g => g.applies.any (·.row == i)

/-- The row is applied again from its image (R198, R212). -/
def reapply (s : State) (i : Nat) : State :=
  if s.applyPending i then s else s.handRepair { applies := [{ row := i, image := s.imageAt i }] }

/-! ### One search (R173, R174, R195, R196) -/

/-- Whether a chart answers searches by its descriptor (R182). -/
def chartServes (s : State) (c : Nat) : Bool :=
  match (s.chart c).st with
  | .valid | .moving => true
  | .committing => cdValid (s.chart c).desc1
  | _ => false

/-- Whether an entry that starts at a row matches a key: all its rows carry chart, width and place, and every segment matches (R172, R173). -/
def entryMatches (s : State) (i : Nat) (r : Row) (c width : Nat) (key : BitVec 512) : Bool :=
  r.valid && r.pos == 0 && r.chart == c && r.width == width && i % segments width == 0 &&
    (List.range (segments width)).all fun n =>
      let x := s.rowAt (i + n)
      x.chart == c && x.width == width && x.pos == n && x.hits (segment key n)

/-- The better of two matches: the higher priority, then the lower index (R174). -/
def betterMatch (a : Option (Nat × Row)) (b : Nat × Row) : Option (Nat × Row) :=
  match a with
  | none => some b
  | some x => if x.2.priority < b.2.priority || (x.2.priority == b.2.priority && decide (b.1 < x.1)) then some b else some x

/-- The best match and the number of matches over the fired banks (R174). -/
def bestMatch (s : State) (c width : Nat) (banks : List Nat) (key : BitVec 512) : Option (Nat × Row) × Nat :=
  s.search.rows.foldl (init := (none, 0)) fun (b, n) (p : Nat × Row) =>
    if banks.contains (rowBank p.1) && s.entryMatches p.1 p.2 c width key then (betterMatch b p, n + 1) else (b, n)

/-- Rows of the fired banks whose segment matched and whose control word has bad parity: each is applied again, with event 5001 (R198). -/
def checkControls (s : State) (c width : Nat) (banks : List Nat) (key : BitVec 512) : State × Bool :=
  (s.ras.damage.filter fun (p : Nat × BitVec 138) => p.1 / 2 ^ 32 == 367).foldl (init := (s, false)) fun (s, bad) p =>
    let i := p.1 % 2 ^ 32
    if banks.contains (rowBank i) && (s.rowAt i).hits (segment key (i % segments width)) then
      let src := s.errSource 367 i .access
      ((s.reapply i).reportError 367 false
        { code := 0x5001, cls := .contained, source := src, detail := .location 367 i 0 c } i 0, true)
    else (s, bad)

/-- The bits that a checker leaves flipped in an associated-data word pair: the data of its two rows, and its P (R176, R274). -/
def flipDatum (s : State) (w : Nat) (e : BitVec 138) : State :=
  let f := eccDataFlips e
  if e = 0 then s
  else
    let flip (t : Table Row) (i lo : Nat) : Table Row :=
      Table.modify {} t i fun r => { r with datum := r.datum ^^^ BitVec.ofNat 64 (fld f lo 64) }
    { s with search := { s.search with
        rows := flip (flip s.search.rows (2 * w) 0) (2 * w + 1) 64
        datumPoison := if !e.getLsbD 137 then s.search.datumPoison
          else if s.search.datumPoison.contains w then s.search.datumPoison.filter (· != w) else s.search.datumPoison ++ [w] } }

/-- The datum of an entry through its checkers: corrected with 5002; with 5003 the result is ERROR and firmware rewrites the word (R198). A word that is stored poison gives ERROR too, without an event (DESIGN CHOICE: a result record has no poison mark); for the system chart that is a decode fault with event 8105 (R282). -/
def checkDatum (s : State) (i : Nat) (src : Source := .access) : State × Bool :=
  let w := i / 2
  let e := s.damageAt 366 w
  if e = 0 then (s, s.search.datumPoison.contains w)
  else
    let v := eccCheck e
    let syn := syndromeField v
    let src := s.errSource 366 w src
    let det : Detail := .location 366 w syn 0
    let s := s.setDamage 366 w 0
    match v with
    | .uncorrectable _ _ => (s.reportError 366 true { code := 0x5003, cls := .contained, source := src, detail := det } w syn, true)
    | .clean =>
      let s := s.flipDatum w (eccResidue e)
      (s, s.search.datumPoison.contains w)
    | .correctable _ =>
      let s := (s.flipDatum w (eccResidue e)).reportError 366 false
        { code := 0x5002, cls := .note, source := src, detail := det } w syn
      (s, s.search.datumPoison.contains w)

/-- The structure numbers of soft errors in the ternary cells and in chart words, which have no leaky bucket. -/
def cellStore : Nat := 384
def chartStore : Nat := 385

/-- The structure number of soft errors in the ROM: 32-bit words with their parity, which the management cores read as they run (R277). -/
def romStore : Nat := 387

/-- A descriptor or group-map word of a chart that is found uncorrectable waits for its reload, with event 5004 (R198). -/
def checkChartWord (s : State) (c : Nat) : State :=
  let e := s.damageAt chartStore c
  if e = 0 || (s.chart c).badWord then s
  else match eccCheck e with
    | .uncorrectable _ _ => (s.modChart c fun x => { x with badWord := true }).raise 0x5004 .contained (.peer 0 c 0 0 0)
    | _ => s.setDamage chartStore c 0

/-- The key crosses into the search pound through the checkers of its words: uncorrectable or poisoned, the result is ERROR with event 5006 (R23, R198, R282). Gives the key as it arrives. -/
def checkKey (s : State) (key : BitVec 512) : State × Bool × BitVec 512 :=
  (List.range 4).foldl (init := (s, false, key)) fun (s, bad, key) w =>
    let e := s.damageAt 372 w
    if e = 0 then (s, bad, key)
    else
      let v := eccCheck e
      let syn := syndromeField v
      let r := eccResidue e
      let lost : Event := { code := 0x5006, cls := .contained, detail := .location 372 w syn 0 }
      let s := s.setDamage 372 w 0
      let key := key ^^^ BitVec.ofNat 512 ((eccDataFlips r).toNat <<< (128 * w))
      match v with
      | .uncorrectable _ _ => (s.reportError 372 true lost w syn, true, key)
      | .clean => (if r.getLsbD 137 then s.logEvent lost else s, bad || r.getLsbD 137, key)
      | .correctable _ =>
        let s := s.reportError 372 false { code := 0x7002, cls := .note, detail := .location 372 w syn 0 } w syn
        (if r.getLsbD 137 then s.logEvent lost else s, bad || r.getLsbD 137, key)

/-- The result record of a search of a chart by a key, as it stands in the issue cycle (R195, R196). The control word that crosses with the key is checked first (R277). -/
def searchNow (s : State) (c : Nat) (key : BitVec 512) : State × BitVec 128 :=
  let (s, _) := s.control 372
  let (s, badKey, key) := s.checkKey key
  let s := s.checkChartWord c
  let own := s.deviceNumber
  let error (s : State) (n : Nat) : State × BitVec 128 := (s.count 1547, mkResult 0 0 0 own n true false false)
  if !s.chartServes c then error (s.raise 0x5005 .note (.peer 0 c 0 0 0)) 0
  else
    let x := s.chart c
    let width := cdWidth x.desc1
    let banks := firedBanks x.desc1 x.gmap key
    let (best, n) := s.bestMatch c width banks key
    let (s, badRow) := s.checkControls c width banks key
    if badKey || badRow || x.badWord then error s n
    else match best with
      | none => (s, mkResult 0 0 0 own n false false false)
      | some (i, r) =>
        let (s, badDatum) := s.checkDatum i
        if badDatum then error s n
        else (s, mkResult (s.rowAt i).datum r.priority i own n false false true)

/-! ### Pipes and banks (R187 to R191) -/

/-- Searches and reads that still fire in the present cycle. -/
def firing (s : State) : List SearchRun := s.search.runs.filter fun r => s.now < r.issued + r.cycles

def pipesUsed (s : State) : Nat := s.firing.foldl (fun n r => n + r.pipes) 0

/-- Banks that nothing may begin to fire: those of the apply group at the head, and those written in this cycle (R193). -/
def heldBanks (s : State) : List Nat :=
  (match s.search.groups with
    | g :: _ => g.applies.map fun a => rowBank a.row
    | [] => []) ++ if s.search.wroteAt = s.now then s.search.wroteBanks else []

/-- Whether an operation fits now: its pipes are free, and its banks neither fire nor are held (R189). -/
def fits (s : State) (pipes : Nat) (banks : List Nat) : Bool :=
  decide (s.pipesUsed + pipes ≤ 4) && !(banks.any fun b => s.firing.any (·.banks.contains b)) &&
    !(banks.any s.heldBanks.contains)

/-- Pipes, banks and cycles of a search (R189). -/
def shapeOf (s : State) (r : SearchReq) : Nat × List Nat × Nat :=
  if s.chartServes r.chart then
    let x := s.chart r.chart
    (pipesOf x.desc1, firedBanks x.desc1 x.gmap r.key, segments (cdWidth x.desc1))
  else (1, [], 1)

end State

/-- The number of a class (R191). -/
def SearchClass.code : SearchClass → Nat
  | .region => 0
  | .cascade => 1
  | .apply => 2
  | .localSearch => 3
  | .sweep => 4

namespace State

/-- Issue a search that fits: its result is fixed in this cycle and leaves 28 ns later (R188). -/
def issueSearch (s : State) (r : SearchReq) : State :=
  let (pipes, banks, cycles) := s.shapeOf r
  let (s, rec_) := s.searchNow r.chart r.key
  let run : SearchRun := { id := r.id, source := r.source, chart := r.chart, issued := s.now, banks := banks, cycles := cycles
                           pipes := pipes, result := rec_ }
  let s := s.count (1536 + r.cls.code)
  { s with search := { s.search with
      waiting := s.search.waiting.filter (·.id != r.id), runs := s.search.runs ++ [run] } }

/-- Offer the pipes to candidates in order; each that fits issues, up to a limit. -/
def offerAll (s : State) : List SearchReq → Nat → State
  | [], _ => s
  | _ :: _, 0 => s
  | r :: rest, n + 1 =>
    let (pipes, banks, _) := s.shapeOf r
    if s.fits pipes banks then (s.issueSearch r).offerAll rest n else (s.count 1546).offerAll rest (n + 1)

/-- Waiting searches of a class, oldest first. -/
def ofClass (s : State) (c : SearchClass) : List SearchReq := s.search.waiting.filter (·.cls == c)

/-- The span of the chart that a queue search names: searches of other than LOCAL charts go to the CASCADE class by their launch (R191, R218). -/
def isSpan (s : State) (r : SearchReq) : Bool :=
  (match r.source with
    | .queue _ _ _ => true
    | _ => false) && s.chartServes r.chart && cdSpan (s.chart r.chart).desc1 != 0

/-- LOCAL searches that are no launches. -/
def localWaiting (s : State) : List SearchReq := (s.ofClass .localSearch).filter fun r => !s.isSpan r

/-- The queue processor of a LOCAL search. -/
def processorOf (r : SearchReq) : Nat :=
  match r.source with
  | .queue q _ _ => q % 32
  | _ => 0

/-- LOCAL searches that reached the class in one cycle enter it in processor order from the rotating pointer, which moves past the last (R191). -/
def enterLocal (s : State) : State :=
  let new := s.localWaiting.filter fun r => !r.entered
  match new with
  | [] => s
  | first :: _ =>
    let now := new.filter (·.arrived == first.arrived)
    let ordered := ((List.range 32).map fun i => now.filter fun r => processorOf r == (s.search.rotation + i) % 32).flatten
    let last := match ordered.getLast? with
      | some r => (processorOf r + 1) % 32
      | none => s.search.rotation
    let others := s.search.waiting.filter fun r => !(now.any (·.id == r.id))
    let ahead := others.filter fun r => r.cls != .localSearch || r.entered || s.isSpan r
    let behind := others.filter fun r => !(r.cls != .localSearch || r.entered || s.isSpan r)
    let ordered := ordered.map fun r => { r with entered := true }
    { s with search := { s.search with rotation := last, waiting := ahead ++ ordered ++ behind } }

/-! ### Entries, and what their holders tell each other (R204, R206 to R209, R212) -/

def entryAt (s : State) (id : Nat) : EntryRec := Table.get {} s.search.entries id

def modEntry (s : State) (id : Nat) (f : EntryRec → EntryRec) : State :=
  { s with search := { s.search with entries := Table.modify {} s.search.entries id f } }

def dropEntry (s : State) (id : Nat) : State := s.modEntry id fun _ => {}

/-- Whether an entry has its record here, as its owner's or a holder's. -/
def hasEntry (s : State) (id : Nat) : Bool := s.search.entries.any fun (p : Nat × EntryRec) => p.1 == id

end State

/-- The kind of a sub-operation, and what it names beside the entry. -/
def subOpWords : SubOp → List Nat
  | .reserve => [0]
  | .apply => [1]
  | .remove => [2]
  | .rewrite => [3]
  | .discard => [4]
  | .trim => [5]
  | .replace => [6]
  | .command h => [7, h.toNat]
  | .undo => [8]
  | .lost => [9]
  | .pending d still => [10, d, bit still]

namespace State

/-- Send a sub-operation on an entry to a device, under a tag. -/
def sendSub (s : State) (dev tag : Nat) (op : SubOp) (id : Nat) (e : EntryRec) : State :=
  s.sendMgmt dev mkTableSub ([tag, e.chart, id, e.value.toNat, e.mask.toNat, e.priority, e.datum.toNat] ++ subOpWords op)

/-- The same under a fresh tag. -/
def tellSub (s : State) (dev : Nat) (op : SubOp) (id : Nat) (e : EntryRec) : State :=
  let (t, s) := s.freshTag
  s.sendSub dev t op id e

/-- The copies of an entry on this device are applied invalid, and keep their rows: it matches nothing here (R212). -/
def withdrawCopies (s : State) (id : Nat) : State :=
  let s := s.modEntry id fun e => { e with lost := true }
  let heads := (s.entryAt id).rows.map fun r => ({ row := r, image := { s.imageAt r with valid := false } } : Apply)
  if heads.isEmpty then s else (heads.foldl (fun s a => s.putImage a.row a.image) s).handGroup { applies := heads }

/-- An entry is withdrawn as LOST: a holder tells the owner, and the owner every holder but the one that told it (R212). -/
def withdraw (s : State) (id teller : Nat) : State :=
  let e := s.entryAt id
  let owner := id / 2 ^ 22
  if e.lost || !s.hasEntry id then s
  else
    let told := if owner = s.deviceNumber then e.copies.map (·.1) else [owner]
    (told.filter (· != teller)).foldl (fun s d => s.tellSub d .lost id e) (s.withdrawCopies id)

/-! ### The sweep (R194, R212) -/

/-- Whether the sweep is behind its pace. -/
def sweepBehind (s : State) : Bool :=
  decide (s.search.sweepPos * (s.reg 0x3001 1 * 1000000) < 262144 * (s.now - s.search.sweepBegan))

/-- Another copy, on this device, of the entry that a row belongs to: the same place in another copy. -/
def otherCopy (s : State) (i : Nat) : Option Nat :=
  s.search.entries.findSome? fun (p : Nat × EntryRec) =>
    let n := segments (cdWidth (s.chart p.2.chart).desc1)
    match p.2.rows.find? fun r => decide (r ≤ i) && decide (i < r + n) with
    | none => none
    | some r => (p.2.rows.find? (· != r)).map (· + (i - r))

/-- The entry whose copy takes in a row. -/
def entryOfRow (s : State) (i : Nat) : Option Nat :=
  (s.search.entries.find? fun (p : Nat × EntryRec) =>
    let n := segments (cdWidth (s.chart p.2.chart).desc1)
    p.2.rows.any fun r => decide (r ≤ i) && decide (i < r + n)).map (·.1)

/-- An image that cannot be corrected is rebuilt from another copy or from the array, or its entry is withdrawn as LOST (R212). -/
def rebuildImage (s : State) (i bucket word syn : Nat) (src : Source) : State :=
  let row := s.rowAt i
  let s := s.bump32 0x3440 2
  let src := s.errSource bucket word src
  let det : Detail := .location bucket word syn i
  let put (s : State) (r : Row) : State := (s.putImage i r).reapply i
  let ok (s : State) : State := s.reportError bucket true { code := 0x5103, cls := .contained, source := src, detail := det } word syn
  match s.otherCopy i with
  | some j =>
    ok (put s { s.imageAt j with
      valid := row.valid, width := row.width, pos := row.pos, chart := row.chart, priority := row.priority })
  | none =>
    if s.damageAt 367 i = 0 then ok (put s { row with datum := (s.imageAt i).datum })
    else
      let s := put (s.setDamage bucket word 0) { (if row.pos = 0 then s.imageAt i else row) with valid := false }
      let s := match s.entryOfRow i with
        | some id => s.withdraw id s.deviceNumber
        | none => s
      s.reportError bucket true { code := 0x5104, cls := .contained, source := src, detail := det } word syn

/-- Read an image through its checkers (R212). -/
def checkImage (s : State) (i : Nat) (src : Source := .sweep) : State × Bool :=
  (List.range 3).foldl (init := (s, false)) fun (s, gone) w =>
    let (b, n) := imageWord i w
    let e := s.damageAt b n
    if e = 0 || gone then (s, gone)
    else
      let v := eccCheck e
      let syn := syndromeField v
      match v with
      | .clean => (s, gone)
      | .correctable _ =>
        let src := s.errSource b n src
        ((s.setDamage b n 0).reportError b false
          { code := 0x5102, cls := .note, source := src, detail := .location b n syn i } n syn, gone)
      | .uncorrectable _ _ => (s.rebuildImage i b n syn src, true)

/-- Compare one row with its image (R194, R212): a row with an apply waiting or in flight is left out. -/
def sweepRow (s : State) (i : Nat) : State :=
  if s.applyPending i || s.search.reserved.contains i then s
  else
    let (s, gone) := s.checkImage i
    if gone then s
    else
      let row := { s.rowAt i with datum := 0 }
      let image := { s.imageAt i with datum := 0 }
      if row = image && s.damageAt 367 i = 0 then s
      else
        let src := s.errSource 367 i .sweep
        let s := (s.reapply i).bump32 0x3440 1
        if s.damageAt 367 i = 0 then s.logEvent { code := 0x5101, cls := .contained, source := .sweep, detail := .location 367 i 0 0 }
        else s.reportError 367 false { code := 0x5101, cls := .contained, source := src, detail := .location 367 i 0 0 } i 0

/-- A sweep read: one row in each bank of an octet (R194). -/
def sweepOnce (s : State) : State :=
  let k := s.search.sweepPos
  let banks := (List.range 8).map (8 * (k / 16384) + ·)
  if !s.fits 1 banks then s
  else
    let (id, s) := s.fresh
    let run : SearchRun := { id := id, source := .cascade 0, chart := 0, issued := s.now, banks := banks, cycles := 1, pipes := 1, result := 0 }
    let s := s.count 1540
    let s := { s with search := { s.search with lastSweep := s.now, runs := s.search.runs ++ [run] } }
    let s := banks.foldl (fun s b => s.sweepRow (b * 16384 + k % 16384)) s
    if k + 1 < 262144 then { s with search := { s.search with sweepPos := k + 1 } }
    else { s with search := { s.search with
        sweepPos := 0, sweepPasses := sat32 (s.search.sweepPasses + 1), sweepBegan := s.now, sweepLate := false } }

/-- SWEEP_PERIOD has passed since the pass began (R212, R293). -/
def sweepMissed (s : State) : State :=
  if s.search.sweepLate || decide (s.now < s.search.sweepBegan + s.reg 0x3001 1 * 1000000) then s
  else
    (((({ s with search := { s.search with sweepLate := true } } : State).deadlineMiss 2).bump32 0x3440 3).raise 0x5105 .degraded
      (.count s.search.sweepPos 0))

/-! ### Row window (R199) -/

/-- The row that a client's window has latched; its datum is lost where it read uncorrectable or poisoned (R282). -/
def latchFor (s : State) (c : Client) (r : Row) (lost : Bool) : State :=
  { s with mgmt := { s.mgmt with clients := mapIf (·.client == c) (fun x => { x with row := r, rowLost := lost }) s.mgmt.clients } }

/-- The row read that waits at the head of its class issues when a pipe and its bank are free (R191). -/
def offerRowRead (s : State) : State :=
  match s.search.rowReads with
  | [] => s
  | (c, i) :: rest =>
    let b := rowBank i
    if !s.fits 1 [b] then s
    else
      let (id, s) := s.fresh
      let run : SearchRun := { id := id, source := .cascade 0, chart := 0, issued := s.now, banks := [b], cycles := 1, pipes := 1, result := 0 }
      let (s, lost) := (s.count 1538).checkDatum i
      let s := { s with search := { s.search with
          rowReads := rest, lastRowRead := s.now, runs := s.search.runs ++ [run] } }
      s.latchFor c (s.rowAt i) lost

/-- A client's write of ROW_SELECT or ROW_SOURCE latches its row: from the pattern store and the firmware's copy at once, through their checkers; from the array by a read of its own, which waits its turn in the APPLY class (R191, R199). -/
def latchRow (s : State) (c : Client) (i : Nat) : State :=
  if s.search.rowSource = 1 then
    let (s, _) := s.checkImage i .access
    s.latchFor c (s.imageAt i) false
  else { s with search := { s.search with rowReads := s.search.rowReads ++ [(c, i)] } }

/-! ### One arbitration cycle (R191) -/

/-- Pipes that the CASCADE class holds in this cycle. -/
def cascadePipes (s : State) : Nat :=
  (s.firing.filter fun r => match r.source with
    | .cascade n => n != 0
    | _ => false).foldl (fun n r => n + r.pipes) 0

/-- The window of the CASCADE class: a part that has waited 8 cycles issues no more (R218). -/
def cascadeWindow (s : State) : List SearchReq :=
  ((s.ofClass .cascade).filter fun r => decide (s.now < r.arrived + 8)).take 8

/-- Offer CASCADE its guaranteed two pipes. -/
def offerCascade (s : State) : List SearchReq → State
  | [] => s
  | r :: rest =>
    if 2 ≤ s.cascadePipes then s
    else
      let (pipes, banks, _) := s.shapeOf r
      if s.fits pipes banks then (s.issueSearch r).offerCascade rest else s.offerCascade rest

/-- Reads and searches that have ended their cycles and have no result to deliver leave the list. -/
def dropEnded (s : State) : State :=
  { s with search := { s.search with
      runs := s.search.runs.filter fun r => decide (s.now < r.issued + r.cycles) || r.source != SearchFor.cascade 0 } }

/-- Offer the pipes to the window of the LOCAL class, and note the cycle of its last issue. -/
def offerLocal (s : State) (limit : Nat) : State :=
  let t := s.offerAll (s.localWaiting.take 8) limit
  if t.search.waiting.length = s.search.waiting.length then t
  else { t with search := { t.search with lastLocal := s.now } }

/-- The floors of SWEEP, a row read and LOCAL (R191). -/
def offerFloors (s : State) : State :=
  let s := if s.sweepBehind && decide (s.search.lastSweep + 16 ≤ s.now) then s.sweepOnce else s
  let s := if decide (s.search.lastRowRead + 16 ≤ s.now) then s.offerRowRead else s
  if s.now < s.search.lastLocal + 8 then s else s.offerLocal 1

/-- The free pipes after the floors, class by class (R191). -/
def offerClasses (s : State) : State :=
  let s := s.offerCascade s.cascadeWindow
  let s := s.offerAll ((s.ofClass .region).take 1) 1
  let s := s.offerAll s.cascadeWindow 8
  let s := s.offerRowRead
  s.offerLocal 8

/-- SEARCH_ISSUE: the free pipes of one cycle, in the order of R191. -/
def issueCycle (s : State) : State :=
  let s := s.dropEnded.enterLocal.offerFloors.offerClasses
  if s.sweepBehind then s.sweepOnce else s

/-- Whether the group at the head of APPLY can be written: nothing that was issued fires its banks any more (R193). -/
def groupReady (s : State) (g : ApplyGroup) : Bool :=
  !(g.applies.any fun a => s.firing.any (·.banks.contains (rowBank a.row)))

/-- Write a group's rows in one cycle; rows that were waiting for it are free. -/
def writeGroup (s : State) (g : ApplyGroup) : State :=
  let s := { s with search := { s.search with
      groups := s.search.groups.drop 1
      wroteBanks := (if s.search.wroteAt = s.now then s.search.wroteBanks else []) ++ g.applies.map fun a => rowBank a.row
      wroteAt := s.now
      reserved := s.search.reserved.filter fun r => !g.free.contains r } }
  g.applies.foldl (fun s a => s.putRow a) s

end State

/-! ### Rows of this family that need nothing more -/

/-- SEARCH_ISSUE: one cycle of the pipes' arbitration (R191). -/
def execSearchIssue (s : State) : Host.Outcome State Fault Refusal := run .searchIssue s State.issueCycle

/-- SWEEP_READ: a sweep read issues when a pipe and its octet are free (R194). -/
def execSweepRead (s : State) : Host.Outcome State Fault Refusal := run .sweepRead s State.sweepOnce

/-- SWEEP_PERIOD_MISS: a pass runs past SWEEP_PERIOD (R212). -/
def execSweepPeriodMiss (s : State) : Host.Outcome State Fault Refusal := run .sweepPeriodMiss s State.sweepMissed

/-- CHART_WORD_RELOAD: firmware has reloaded the chart words (R198). -/
def execChartWordReload (chart : Nat) (s : State) : Host.Outcome State Fault Refusal :=
  run (.chartWordReload chart) s fun s =>
    ((s.readRecordWord (chartRecord chart)).modChart chart fun x => { x with badWord := false }).setDamage State.chartStore chart 0

end Sys2Proof.Machine
end

