-- ==== Sys2Proof/Machine/Charts.lean ====
section
/-! DEFINITION. Managing charts: table commands with their staging on this device and on others, duplicates, chart commands, chart moves and span commands (R183, R184, R200 to R217). -/

namespace Sys2Proof.Machine

/-! ### Table command header and result header (R200, R202) -/

def thOp (h : BitVec 256) : Nat := fld h 248 8
def thReserved (h : BitVec 256) : Bool := fld h 244 4 ≠ 0 || fld h 128 2 ≠ 0 || fld h 0 64 ≠ 0
def thSelf (h : BitVec 256) : Bool := h.getLsbD 243
def thSetKey (h : BitVec 256) : Bool := h.getLsbD 242
def thSetDatum (h : BitVec 256) : Bool := h.getLsbD 241
def thSetPriority (h : BitVec 256) : Bool := h.getLsbD 240
def thClient (h : BitVec 256) : Nat := fld h 224 16
def thCseq (h : BitVec 256) : BitVec 32 := BitVec.ofNat 32 (fld h 192 32)
def thEntry (h : BitVec 256) : Nat := fld h 160 32
def thTarget (h : BitVec 256) : Nat := fld h 150 10
def thPriority (h : BitVec 256) : Nat := fld h 130 20
def thDatum (h : BitVec 256) : BitVec 64 := BitVec.ofNat 64 (fld h 64 64)

/-- A table command header. -/
def tableHeader (op : Nat) (self setKey setDatum setPriority : Bool) (entry priority : Nat) (datum : BitVec 64) : BitVec 256 :=
  BitVec.ofNat 256 (op * 2 ^ 248 + bit self * 2 ^ 243 + bit setKey * 2 ^ 242 + bit setDatum * 2 ^ 241 + bit setPriority * 2 ^ 240 +
    entry * 2 ^ 160 + priority * 2 ^ 130 + datum.toNat * 2 ^ 64)

/-- Whether a command block carries VALUE and MASK (R200). -/
def thHasKey (h : BitVec 256) : Bool := thOp h == 1 || (thOp h == 3 && thSetKey h)

/-- The 256-bit result block as bytes (Table: Table result header). -/
def tableResult (code client : Nat) (cseq : BitVec 32) (entry index priority devices rows : Nat) (lost : Bool) (datum : BitVec 64) : List Byte :=
  leBytes (code * 2 ^ 240 + client * 2 ^ 224 + cseq.toNat * 2 ^ 192 + entry % 2 ^ 32 * 2 ^ 160 + index % 2 ^ 21 * 2 ^ 139 +
    priority % 2 ^ 20 * 2 ^ 119 + min devices 1023 * 2 ^ 109 + rows % 2 ^ 15 * 2 ^ 94 + bit lost * 2 ^ 92 + datum.toNat) 32

/-- A result as a duplicate gets it: DUPLICATE, bit 93, is 1 (R209). -/
def markDuplicate (b : List Byte) : List Byte := b.set 11 (b.getD 11 0 ||| 0x20)

/-- RESULT of a result block. -/
def resultCode (b : List Byte) : Nat := ofLe (b.drop 30 |>.take 2)

/-! ### Chart stamp (R213) -/

/-- The shared fields of a descriptor: KEY_WIDTH, MODE, SPAN, DSEL_COUNT and DSEL_POS. -/
def sharedWords (w1 w0 : Word128) : Nat × Nat :=
  (fld w1 122 5 * 2 ^ 122 + fld w1 22 4 * 2 ^ 22, fld w0 56 72 * 2 ^ 56)

/-- The chart stamp: the CRC-32C of the shared fields, the device map, the member set and the generation, least significant bytes first. -/
def chartStamp (x : Chart) : Nat :=
  let (a, b) := sharedWords x.desc1 x.desc0
  crc32c (leBytes a 16 ++ leBytes b 16 ++ ((List.range 256).map fun v => leBytes (Table.get 0 x.dmap v) 2).flatten ++
    leBytes (x.members.foldl (fun n d => n + 2 ^ d) 0) 128 ++ leBytes x.generation 2)

/-- A device map as a table. -/
def dmapOf (l : List Nat) : Table Nat := l.zipIdx.foldl (fun t (d, v) => Table.set 0 t v d) []

/-- DECL_LATENCY by SPAN (Table: Spans). -/
def declLatency (span : Nat) : Nat :=
  match span with
  | 0 => 28
  | 1 => 300
  | 2 => 190
  | _ => 430

/-- A descriptor's WORD0 with the latency that a commit sets. -/
def withLatency (w1 w0 : Word128) : Word128 := setFld w0 44 12 (declLatency (cdSpan w1))

/-- The staged descriptor and maps of a chart: the committed ones until something is staged. -/
def Chart.openStage (x : Chart) : Chart :=
  if x.hasStaged then x
  else { x with staged1 := x.desc1, staged0 := x.desc0, stagedGmap := x.gmap, stagedDmap := x.dmap }

/-- Something of the chart's descriptor or maps is staged: an UNDEFINED chart becomes STAGED (R182). -/
def Chart.stage (x : Chart) (f : Chart → Chart) : Chart :=
  let y := f x.openStage
  { y with hasStaged := true, st := if y.st = .undefined then .staged else y.st }

/-- A chart without a descriptor: UNDEFINED, its maps and member set cleared. A coordinator still hears its members' APPLIED (R215). -/
def Chart.cleared (x : Chart) : Chart :=
  { ({} : Chart) with
    generation := x.generation, coordinator := x.coordinator, prevStamp := x.prevStamp, changedAt := x.changedAt, span := x.span }

/-- The state that a chart has without a command in progress. -/
def Chart.resting (x : Chart) : ChartState :=
  if cdValid x.desc1 then .valid else if x.hasStaged then .staged else .undefined

namespace State

/-! ### Placement (R177, R180, R186, R205) -/

/-- Rows taken by the copies that start at given rows, `n` each. -/
def rowsFrom (starts : List Nat) (n : Nat) : List Nat := (starts.map fun r => (List.range n).map (r + ·)).flatten

/-- The rows of an entry's copy. -/
def entrySegments (s : State) (chart : Nat) : Nat := segments (cdWidth (s.chart chart).desc1)

/-- Rows that are in use or reserved: the entries of every chart, moves, inserts in progress, and the region rows of chart 0. -/
def usedRows (s : State) : List Nat :=
  (s.search.entries.map fun (p : Nat × EntryRec) =>
      rowsFrom (p.2.rows ++ p.2.newRows) (s.entrySegments p.2.chart)).flatten ++
    (match s.search.move with
      | some (c, _, l) => (l.map fun p => rowsFrom p.2 (s.entrySegments c)).flatten
      | none => []) ++
    s.search.reserved ++ (s.tenant.regions.map fun (p : Nat × Region) => p.2.rows).flatten

/-- The lowest aligned place for `n` rows from row `i` up, in `fuel` tries. -/
def freePlace (used : List Nat) (n : Nat) : Nat → Nat → Option Nat
  | 0, _ => none
  | fuel + 1, i =>
    if used.any fun r => decide (i ≤ r) && decide (r < i + n) then freePlace used n fuel (i + n) else some i

/-- One place in each of the groups, lowest free aligned rows first (R205). -/
def placeIn (w1 : Word128) (n : Nat) : List Nat → List Nat → Option (List Nat)
  | [], _ => some []
  | g :: rest, used =>
    match freePlace used n (banksPerGroup w1 * (16384 / n)) ((cdBankFirst w1 + g * banksPerGroup w1) * 16384) with
    | none => none
    | some r => (placeIn w1 n rest (rowsFrom [r] n ++ used)).map (r :: ·)

/-- The groups of an entry, in order (R186). -/
def groupsOf (w1 : Word128) (gmap : Table Nat) (value mask : BitVec 512) : List Nat :=
  let gs := (agreeing value mask (bselPositions w1)).map (Table.get 0 gmap)
  (List.range 16).filter gs.contains

/-- Rows for the copies of an entry on this device, none when a group lacks them. -/
def allocate (_s : State) (w1 : Word128) (gmap : Table Nat) (value mask : BitVec 512) (used : List Nat) : Option (List Nat) :=
  placeIn w1 (segments (cdWidth w1)) (groupsOf w1 gmap value mask) used

/-- The devices of a ROUTED chart's entry (R205). -/
def shardDevices (x : Chart) (value mask : BitVec 512) : List Nat :=
  ((agreeing value mask (dselPositions x.desc1 x.desc0)).map (Table.get 0 x.dmap)).eraseDups

/-! ### Staging on this device (R206, R207) -/

/-- Rows that a change is staging: they stay out of the sweep and are not given away. -/
def reserveRows (s : State) (l : List Nat) : State :=
  { s with search := { s.search with reserved := s.search.reserved ++ l } }

def freeRows (s : State) (l : List Nat) : State :=
  { s with search := { s.search with reserved := s.search.reserved.filter fun r => !l.contains r } }

/-- Write the images of an entry's copies and hand their applies over: rows with POS > 0 first, then every POS = 0 row as one group (R206, steps 2 to 4). -/
def stageCopies (s : State) (e : EntryRec) (width : Nat) (starts : List Nat) (after : AfterApply) : State :=
  let n := segments width
  let rowOf (start k : Nat) : Apply :=
    { row := start + k
      image := { entryRow e.chart width e.priority e.value e.mask e.datum k with valid := k == 0 && !e.lost } }
  let heads := starts.map fun r => rowOf r 0
  let tails := (starts.map fun r => (List.range (n - 1)).map fun k => rowOf r (k + 1)).flatten
  let s := (heads ++ tails).foldl (fun s a => s.putImage a.row a.image) s
  (s.handApplies tails .nothing []).handGroup { applies := heads, after := after, free := rowsFrom starts n }

/-- Apply the POS = 0 rows of copies invalid, as one group, and free their rows (R207). -/
def invalidateCopies (s : State) (starts : List Nat) (n : Nat) (after : AfterApply) : State :=
  let heads := starts.map fun r => ({ row := r, image := { s.imageAt r with valid := false } } : Apply)
  let s := heads.foldl (fun s a => s.putImage a.row a.image) s
  (s.reserveRows (rowsFrom starts n)).handGroup { applies := heads, after := after, free := rowsFrom starts n }

/-- Rewrite priority and datum of an entry's copies, as one group (R207). -/
def rewriteCopies (s : State) (e : EntryRec) (after : AfterApply) : State :=
  let heads := e.rows.map fun r => ({ row := r, image := { s.imageAt r with priority := e.priority, datum := e.datum } } : Apply)
  (heads.foldl (fun s a => s.putImage a.row a.image) s).handGroup { applies := heads, after := after }

/-- Whether a chart holds an entry here. -/
def chartEmpty (s : State) (c : Nat) : Bool := s.search.entries.all fun (p : Nat × EntryRec) => p.2.chart != c

/-! ### Results (R202, R209) -/

/-- Answer a sub-operation; the answer is kept for its duplicates (R209). -/
def answerSub (s : State) (dev tag entry : Nat) (words : List Nat) : State :=
  let s := { s with search := { s.search with
      subsDone := mapIf (fun (r : SubRec) => r.owner == dev && r.tag == tag)
        (fun r => { r with entry := entry, answer := some words, ended := s.now }) s.search.subsDone } }
  s.sendMgmt dev mkTableConfirm (tag :: words)

/-- Hand a result block to the one who asked. -/
def deliverTable (s : State) (src : TableSource) (block : List Byte) : State :=
  let code := resultCode block
  match src with
  | .ticket n => s.endCmd n (if code = 0 then 0 else 0x3100 + code) block
  | .queue q p =>
    { s with queue := { s.queue with
        responses := s.queue.responses ++ [({ queue := q, pos := p, part := 0, block := some block } : QResponse)] } }
  | .peer d tag =>
    s.answerSub d tag (if code = 0 then ofLe (block.drop 20 |>.take 4) else 0)
      [bit (code == 0), ofLe block % 2 ^ 160 / 2 ^ 139, ofLe block % 2 ^ 109 / 2 ^ 94, block.length, ofLe block]

def cmdById (s : State) (id : Nat) : Option TableCmd := s.search.cmds.find? (·.id == id)

def modTable (s : State) (id : Nat) (f : TableCmd → TableCmd) : State :=
  { s with search := { s.search with cmds := mapIf (·.id == id) f s.search.cmds } }

/-- A command's result goes to its source, to its duplicates with DUPLICATE = 1, and into its record. -/
def finishBlock (s : State) (c : TableCmd) (block : List Byte) : State :=
  let client := thClient c.header
  let cseq := thCseq c.header
  let s := { s with search := { s.search with
      cmds := s.search.cmds.filter (·.id != c.id)
      dedup := mapIf (fun (d : DedupRec) => d.client == client && d.cseq == cseq && d.result.isNone)
        (fun d => { d with result := some block, ended := s.now }) s.search.dedup } }
  let s := s.deliverTable c.source block
  c.duplicates.foldl (fun s src => (s.bump64 0x3400 3).deliverTable src (markDuplicate block)) s

/-- The copies of an entry by device: this device's and the others'. -/
def entryCopies (s : State) (id : Nat) : List (Nat × Nat × Nat) :=
  let e := s.entryAt id
  (match e.rows with
    | [] => []
    | r :: _ => [(s.deviceNumber, r, e.rows.length * s.entrySegments e.chart)]) ++ e.copies

/-- The result header of an entry as stored. -/
def entryResult (s : State) (h : BitVec 256) (id : Nat) : List Byte :=
  let e := s.entryAt id
  let copies := s.entryCopies id
  let first := copies.foldl (fun (b : Option (Nat × Nat × Nat)) c =>
    match b with
    | none => some c
    | some x => if c.1 < x.1 then some c else some x) none
  tableResult 0 (thClient h) (thCseq h) id ((first.map (·.2.1)).getD 0) e.priority copies.length
    (copies.foldl (fun n c => n + c.2.2) 0) e.lost e.datum

/-- A refusal: ENTRY_ID is 0 for an INSERT, else the entry named (R202). -/
def refusal (h : BitVec 256) (code : Nat) : List Byte :=
  tableResult code (thClient h) (thCseq h) (if thOp h = 1 then 0 else thEntry h) 0 0 0 0 false 0

def refuseTable (s : State) (c : TableCmd) (code : Nat) : State := s.finishBlock c (refusal c.header code)

/-! ### Acceptance (R200, R209, R210) -/

/-- Whether a command block has the length that its form must have (R200). -/
def tableLengthOk (s : State) (chart : Nat) (block : List Byte) : Bool :=
  let h := BitVec.ofNat 256 (ofLe (block.take 32))
  let x := s.chart chart
  if cdValid x.desc1 then block.length == (if thHasKey h then 32 + keyBits (cdWidth x.desc1) / 4 else 32)
  else [32, 64, 96, 160].contains block.length

/-- Whether `a` is older than `b` in 32-bit serial-number arithmetic. -/
def serialOlder (a b : BitVec 32) : Bool := decide (0 < (b - a).toNat) && decide ((b - a).toNat < 2 ^ 31)

/-- What the header alone refuses (R203): an unknown OP, a reserved bit, SET_PRIORITY in an LPM chart. Every TARGET_DEV of 10 bits is a device number. -/
def fieldRefused (x : Chart) (h : BitVec 256) : Bool :=
  !([1, 2, 3, 4].contains (thOp h)) || thReserved h || (thOp h == 3 && thSetPriority h && cdLpm x.desc1)

/-- Add a record, keeping the 64 most recent of its client, and any other that still runs or whose result is not 64 µs old (R209). -/
def addRecord (s : State) (client : Nat) (cseq : BitVec 32) : State :=
  let own := s.search.dedup.filter (·.client == client)
  let recent := own.drop (own.length - 63)
  let kept := s.search.dedup.filter fun d =>
    d.client != client || recent.contains d || d.result.isNone || decide (s.now < d.ended + 64000)
  { s with search := { s.search with dedup := kept ++ [({ client := client, cseq := cseq, result := none } : DedupRec)] } }

/-- The device numbers of clients with records. -/
def tableClients (s : State) : List Nat := (s.search.dedup.map (·.client)).eraseDups

/-- Queue a command, or refuse it by its header or its chart's state. -/
def enqueueTable (s : State) (c : TableCmd) : State :=
  let x := s.chart c.chart
  if x.st != .valid then s.refuseTable c 4
  else if fieldRefused x c.header then s.refuseTable c 1
  else { s with search := { s.search with cmds := s.search.cmds ++ [c] } }

/-- A table command arrives: duplicates are answered from their records (R209). -/
def submitTable (s : State) (src : TableSource) (chart : Nat) (block : List Byte) : State :=
  let h := BitVec.ofNat 256 (ofLe (block.take 32))
  let w := keyBits (cdWidth (s.chart chart).desc1) / 8
  let (id, s) := s.fresh
  let c : TableCmd := {
    id := id, source := src, chart := chart, header := h
    value := BitVec.ofNat 512 (ofLe (block.drop 32 |>.take w))
    mask := BitVec.ofNat 512 (ofLe (block.drop (32 + w) |>.take w)) }
  let client := thClient h
  let cseq := thCseq h
  if cseq = 0 then s.enqueueTable c
  else
    let own := s.search.dedup.filter (·.client == client)
    match own.find? (·.cseq == cseq) with
    | some d =>
      match d.result with
      | some b => (s.bump64 0x3400 3).deliverTable src (markDuplicate b)
      | none =>
        { s with search := { s.search with
            cmds := mapIf (fun (k : TableCmd) => thClient k.header == client && thCseq k.header == cseq)
              (fun k => { k with duplicates := k.duplicates ++ [src] }) s.search.cmds } }
    | none =>
      if !own.isEmpty && own.all (fun d => serialOlder cseq d.cseq) then s.deliverTable src (refusal h 5)
      else if own.isEmpty && decide (4096 ≤ s.tableClients.length) then s.deliverTable src (refusal h 6)
      else (s.addRecord client cseq).enqueueTable c

/-! ### Progress at the owner (R206, R207) -/

/-- A running table command holds back others of its chart; one that runs at another owner does not. -/
def tableRuns (s : State) (chart : Nat) : Bool :=
  s.search.cmds.any fun c => c.chart == chart && c.phase != .queued && !c.forwarded

/-- Charts with a running table command. -/
def runningCharts (s : State) : List Nat :=
  ((s.search.cmds.filter fun c => c.phase != .queued && !c.forwarded).map (·.chart)).eraseDups

/-- Whether a sub-operation of another owner on a chart is being applied here. -/
def subRuns (s : State) (chart : Nat) : Bool :=
  s.search.groups.any fun g => match g.after with
    | .confirm _ _ c _ => c == chart
    | .trim _ _ c _ => c == chart
    | _ => false

/-- A chart command waits until the table command that runs on its chart here ends, an owner's or a holder's part of one (R210). -/
def chartWorks (s : State) (chart : Nat) : Bool := s.tableRuns chart || s.subRuns chart

/-- Ask devices for sub-operations on an entry, and wait for each. -/
def askAll (s : State) (c : TableCmd) (l : List (Nat × SubOp)) (id : Nat) (e : EntryRec) : State :=
  let (s, asked) := l.foldl (init := (s, [])) fun ((s, asked) : State × List Asked) (d, op) =>
    let (t, s) := s.freshTag
    (s.sendSub d t op id e, asked ++ [{ device := d, tag := t, op := op }])
  s.modTable c.id fun k => { k with unconfirmed := asked, asked := s.now }

/-- A deleted entry ceases to exist; its number is kept from use for DEDUP_HOLD (R204). -/
def deleteEntry (s : State) (id : Nat) : State :=
  let s := s.dropEntry id
  { s with search := { s.search with
      freed := (s.search.freed.filter fun p => decide (s.now < p.2 + s.reg 0x3400 2 * 1000000)) ++ [(id, s.now)] } }

/-- End a command with its entry's result; a DELETE's entry then ceases to exist. -/
def finishEntry (s : State) (c : TableCmd) : State :=
  let block := s.entryResult c.header c.entry
  let s := if thOp c.header = 2 then s.deleteEntry c.entry else s
  s.finishBlock c block

/-- The entry as a MODIFY leaves it. -/
def modified (x : Chart) (c : TableCmd) (e : EntryRec) : EntryRec :=
  let mask := if thSetKey c.header then c.mask else e.mask
  { e with
    value := if thSetKey c.header then c.value &&& c.mask else e.value
    mask := mask
    priority := if cdLpm x.desc1 then entryPriority x.desc1 mask 0 else if thSetPriority c.header then thPriority c.header else e.priority
    datum := if thSetDatum c.header then thDatum c.header else e.datum }

/-- The next stage of a command whose local group is written and whose holders have all confirmed. -/
def nextStage (s : State) (c : TableCmd) : State :=
  if c.writing || !c.unconfirmed.isEmpty then s
  else
    let x := s.chart c.chart
    let n := segments (cdWidth x.desc1)
    match c.phase with
    | .queued => s
    | .confirming => s.finishEntry c
    | .reserving =>
      let e := s.entryAt c.entry
      let new : EntryRec := if thOp c.header = 1 then e else { modified x c e with rows := e.rows }
      let starts := if thOp c.header = 1 then e.rows else e.newRows
      let s := s.modTable c.id fun k => { k with phase := .applying, writing := !starts.isEmpty }
      let s := if starts.isEmpty then s else s.stageCopies new (cdWidth x.desc1) starts (.table c.id)
      s.askAll c (c.remotes.map (·, .apply)) c.entry new
    | .applying =>
      if thOp c.header = 3 && thSetKey c.header then
        let e := s.entryAt c.entry
        let gone := e.copies.filter fun p => !c.remotes.contains p.1
        let s := s.modEntry c.entry fun e => { modified x c e with rows := e.newRows, newRows := [] }
        let s := s.modEntry c.entry fun e => { e with copies := e.copies.filter fun p => c.remotes.contains p.1 }
        let s := s.modTable c.id fun k => { k with phase := .confirming, writing := !e.rows.isEmpty }
        let s := if e.rows.isEmpty then s else s.invalidateCopies e.rows n (.table c.id)
        s.askAll c (c.remotes.map (·, .trim) ++ gone.map fun p => (p.1, .remove)) c.entry e
      else s.finishEntry c

/-- Take a command through every stage that waits for nothing. -/
def progress (s : State) (id : Nat) : State :=
  (List.range 3).foldl (fun s _ =>
    match s.cmdById id with
    | some c => s.nextStage c
    | none => s) s

/-- Forward a command to its entry's owner (R204). -/
def forwardTable (s : State) (c : TableCmd) (owner : Nat) : State :=
  let entry := if thOp c.header = 1 then 0 else thEntry c.header
  let e : EntryRec := { chart := c.chart, value := c.value, mask := c.mask, priority := thPriority c.header, datum := thDatum c.header }
  let s := s.modTable c.id fun k => { k with phase := .confirming, forwarded := true, entry := entry }
  s.askAll c [(owner, .command c.header)] entry e

/-- Whether a number cannot be given to a new entry: it is in use, it was deleted within DEDUP_HOLD, or an update of its last entry is still pending (R204). -/
def numberTaken (s : State) (id : Nat) : Bool :=
  s.hasEntry id || (s.search.freed.any fun p => p.1 == id && decide (s.now < p.2 + s.reg 0x3400 2 * 1000000)) ||
    s.search.updates.any fun u => u.entry == id

/-- A number for a new entry: the lowest free one from the last on. -/
def freeEntry (s : State) : Nat → Nat → Nat
  | 0, n => n
  | fuel + 1, n =>
    if n ≠ 0 && !s.numberTaken (s.deviceNumber * 2 ^ 22 + n) then n
    else s.freeEntry fuel ((n + 1) % 2 ^ 22)

/-- INSERT (R205, R206): the devices and rows of the copies; TABLE_NOT_MEMBER, TABLE_FULL. -/
def startInsert (s : State) (c : TableCmd) : State :=
  let x := s.chart c.chart
  let h := c.header
  let own := s.deviceNumber
  let value := c.value &&& c.mask
  let devs := match cdSpan x.desc1 with
    | 0 => [own]
    | 1 => shardDevices x value c.mask
    | _ => [if thSelf h then own else thTarget h]
  let here := devs.contains own
  if cdSpan x.desc1 != 0 && !(devs.all x.members.contains) then s.refuseTable c 8
  else if decide (2 ≤ cdSpan x.desc1) && !here then s.forwardTable c (devs.headD own)
  else match if devs.contains own then s.allocate x.desc1 x.gmap value c.mask s.usedRows else some [] with
    | none => s.refuseTable c 2
    | some starts =>
      let n := s.freeEntry 4194304 s.search.nextEntry
      let id := own * 2 ^ 22 + n
      let e : EntryRec := { chart := c.chart, value := value, mask := c.mask
                            priority := entryPriority x.desc1 c.mask (thPriority h), datum := thDatum h, rows := starts }
      let s := { s with search := { s.search with nextEntry := (n + 1) % 2 ^ 22 } }
      let s := (s.modEntry id fun _ => e).reserveRows (rowsFrom starts (segments (cdWidth x.desc1)))
      let remotes := devs.filter (· != own)
      let s := s.modTable c.id fun k => { k with phase := .reserving, entry := id, remotes := remotes }
      (s.askAll c (remotes.map (·, .reserve)) id e).progress c.id

/-- A command on an entry: forwarded to its owner, or run here on the entry's record; TABLE_NO_ENTRY (R203, R204). -/
def onEntry (s : State) (c : TableCmd) (f : State → EntryRec → State) : State :=
  let id := thEntry c.header
  if id / 2 ^ 22 ≠ s.deviceNumber then s.forwardTable c (id / 2 ^ 22)
  else if !(s.search.entries.any fun (p : Nat × EntryRec) => p.1 == id && p.2.chart == c.chart) then s.refuseTable c 3
  else f (s.modTable c.id fun k => { k with entry := id }) (s.entryAt id)

/-- DELETE (R207). -/
def startDelete (s : State) (c : TableCmd) : State :=
  s.onEntry c fun s e =>
    let id := thEntry c.header
    let s := s.modTable c.id fun k => { k with phase := .confirming, writing := !e.rows.isEmpty }
    let s := if e.rows.isEmpty then s else s.invalidateCopies e.rows (s.entrySegments c.chart) (.table c.id)
    (s.askAll c (e.copies.map fun p => (p.1, .remove)) id e).progress c.id

/-- MODIFY (R207). -/
def startModify (s : State) (c : TableCmd) : State :=
  s.onEntry c fun s e =>
    let id := thEntry c.header
    let x := s.chart c.chart
    let new := modified x c e
    if !thSetKey c.header then
      let s := s.modEntry id fun _ => new
      let s := s.modTable c.id fun k => { k with phase := .confirming, writing := !e.rows.isEmpty }
      let s := if e.rows.isEmpty then s else s.rewriteCopies new (.table c.id)
      (s.askAll c (e.copies.map fun p => (p.1, .rewrite)) id new).progress c.id
    else
      let own := s.deviceNumber
      let devs := if cdSpan x.desc1 = 1 then shardDevices x new.value new.mask else [own]
      if cdSpan x.desc1 != 0 && !(devs.all x.members.contains) then s.refuseTable c 8
      else match if devs.contains own then s.allocate x.desc1 x.gmap new.value new.mask s.usedRows else some [] with
        | none => s.refuseTable c 2
        | some starts =>
          let s := (s.modEntry id fun e => { e with newRows := starts }).reserveRows (rowsFrom starts (s.entrySegments c.chart))
          let remotes := devs.filter (· != own)
          let s := s.modTable c.id fun k => { k with phase := .reserving, remotes := remotes }
          (s.askAll c (remotes.map (·, .reserve)) id new).progress c.id

/-- READBACK: the entry as stored, with VALUE and MASK appended (R202). -/
def startReadback (s : State) (c : TableCmd) : State :=
  s.onEntry c fun s e =>
    let w := keyBits (cdWidth (s.chart c.chart).desc1) / 8
    s.finishBlock c (s.entryResult c.header (thEntry c.header) ++ leBytes e.value.toNat w ++ leBytes e.mask.toNat w)

/-- Whether a span command is about to change a chart: its table commands wait until it has applied (R210). -/
def spanPending (x : Chart) : Bool := x.prepare.isSome || x.span.any fun j => !j.done

/-- Start the next queued command of a chart when it is of the given operation and the chart's turn has come (R210). -/
def startTable (s : State) (chart op : Nat) (f : State → TableCmd → State) : State :=
  match s.search.cmds.find? fun c => c.chart == chart && c.phase == .queued with
  | none => s
  | some c =>
    if thOp c.header ≠ op || s.tableRuns chart || spanPending (s.chart chart) || decide (4 ≤ s.runningCharts.length) then s
    else if (s.chart chart).st != .valid then s.refuseTable c 4
    else f (s.readRecordWord (entryRecord (thEntry c.header))) c

/-! ### Sub-operations at a holder (R206 to R208) -/

/-- A holder's confirmation to an owner: whether it did what was asked, and where its copies lie. -/
def confirmTo (s : State) (owner tag id : Nat) (ok : Bool) : State :=
  let e := s.entryAt id
  let starts := if e.newRows.isEmpty then e.rows else e.newRows
  s.answerSub owner tag 0 [bit ok, starts.headD 0, starts.length * s.entrySegments e.chart]

/-- Rows reserved for new copies of an entry, in place of those reserved before; none where a group lacks them. -/
def takeRows (s : State) (id : Nat) (e : EntryRec) : Option State :=
  let x := s.chart e.chart
  let n := segments (cdWidth x.desc1)
  let s := (s.freeRows (rowsFrom (s.entryAt id).newRows n)).modEntry id fun old => { old with newRows := [] }
  (s.allocate x.desc1 x.gmap e.value e.mask s.usedRows).map fun starts =>
    (s.modEntry id fun old => { old with chart := e.chart, newRows := starts }).reserveRows (rowsFrom starts n)

/-- Reserve rows for the copies of an entry, or tell that there are none. -/
def holderReserve (s : State) (owner tag id : Nat) (e : EntryRec) : State :=
  match s.takeRows id e with
  | none => s.confirmTo owner tag id false
  | some s => s.confirmTo owner tag id true

/-- Stage and apply the copies for which rows are reserved, beside those that the entry has already. -/
def holderApply (s : State) (owner tag id : Nat) (e : EntryRec) (after : AfterApply) : State :=
  match if (s.entryAt id).newRows.isEmpty then s.takeRows id e else some s with
  | none => s.confirmTo owner tag id false
  | some s =>
    let r := s.entryAt id
    let new := { e with rows := r.rows, newRows := r.newRows, lost := r.lost }
    (s.modEntry id fun _ => new).stageCopies new (cdWidth (s.chart e.chart).desc1) r.newRows after

/-- Whether copies of an entry for another owner are being applied here. -/
def stagesEntry (s : State) (id : Nat) : Bool :=
  s.search.groups.any fun g => match g.after with
    | .confirm _ _ _ e => e == id
    | .trim _ _ _ e => e == id
    | _ => false

/-- Delete every copy of an entry, and what was reserved for it. -/
def holderRemove (s : State) (owner tag id : Nat) : State :=
  let r := s.entryAt id
  let n := s.entrySegments r.chart
  let staged := s.stagesEntry id
  let live := r.rows ++ if staged then r.newRows else []
  let s := if staged then s else s.freeRows (rowsFrom r.newRows n)
  let s := s.dropEntry id
  if live.isEmpty then s.confirmTo owner tag id true
  else s.invalidateCopies live n (.confirm owner tag r.chart id)

/-- Rewrite priority and datum of every copy. -/
def holderRewrite (s : State) (owner tag id : Nat) (e : EntryRec) : State :=
  if !s.hasEntry id then s.confirmTo owner tag id true
  else
    let s := s.modEntry id fun r => { r with priority := e.priority, datum := e.datum }
    let r := s.entryAt id
    if r.rows.isEmpty then s.confirmTo owner tag id true else s.rewriteCopies r (.confirm owner tag r.chart id)

/-- Free what a refused change had reserved: the old copies stay, and an entry without any goes (R203). -/
def holderDiscard (s : State) (owner tag id : Nat) : State :=
  let r := s.entryAt id
  let s := s.freeRows (rowsFrom r.newRows (s.entrySegments r.chart))
  let s := if r.rows.isEmpty then s.dropEntry id else s.modEntry id fun r => { r with newRows := [] }
  s.confirmTo owner tag id true

/-- Delete the old copies that stand beside new ones (R207). -/
def holderTrim (s : State) (owner tag id : Nat) : State :=
  let r := s.entryAt id
  if r.newRows.isEmpty || r.rows.isEmpty then s.confirmTo owner tag id true
  else
    (s.modEntry id fun e => { e with rows := e.newRows, newRows := [] }).invalidateCopies r.rows (s.entrySegments r.chart)
      (.confirm owner tag r.chart id)

/-- The copies of a sub-operation are applied: the first copies of an entry are then its copies, those of a changed key stay beside the old ones until the owner has them deleted. -/
def copiesApplied (s : State) (owner tag id : Nat) : State :=
  let e := s.entryAt id
  let s := if e.rows.isEmpty && !e.newRows.isEmpty then s.modEntry id fun e => { e with rows := e.newRows, newRows := [] } else s
  s.confirmTo owner tag id true

/-- A sub-operation on an entry that another device owns; in a chart that is not VALID only what takes copies away is done. -/
def holderDoes (s : State) (owner chart tag : Nat) (op : SubOp) (id : Nat) (e : EntryRec) : State :=
  match op with
  | .remove => s.holderRemove owner tag id
  | .discard => s.holderDiscard owner tag id
  | .trim => s.holderTrim owner tag id
  | _ =>
    if (s.chart chart).st != .valid then s.confirmTo owner tag id false
    else match op with
      | .reserve => s.holderReserve owner tag id e
      | .apply => s.holderApply owner tag id e (.confirm owner tag chart id)
      | .replace => s.holderApply owner tag id e (.trim owner tag chart id)
      | .rewrite => s.holderRewrite owner tag id e
      | _ => s.confirmTo owner tag id false

/-- Note, or forget, that updates of a chart are pending for a device at an owner (R208). -/
def notePending (s : State) (owner dev chart : Nat) (still : Bool) : State :=
  let rest := s.search.pendingNotes.filter fun n => !(n.owner == owner && n.device == dev && n.chart == chart)
  { s with search := { s.search with
      pendingNotes := if still then rest ++ [{ owner := owner, device := dev, chart := chart, left := !s.isActiveMember dev }] else rest } }

/-- Undo an INSERT that was forwarded under a tag: it leaves the queue, or its entry is deleted by a command behind it (R208). -/
def undoForwarded (s : State) (owner chart tag original : Nat) : State :=
  let mine (c : TableCmd) : Bool := c.source == .peer owner original
  let waits (c : TableCmd) : Bool := c.phase == .queued
  let made : Nat := match s.search.cmds.find? mine with
    | some c => if waits c then 0 else c.entry
    | none => ((s.search.subsDone.find? fun (r : SubRec) => r.owner == owner && r.tag == original).map (·.entry)).getD 0
  let s := { s with search := { s.search with cmds := s.search.cmds.filter fun c => !(mine c && waits c) } }
  if !s.hasEntry made then s.confirmTo owner tag made true
  else
    let (k, s) := s.fresh
    s.enqueueTable { id := k, source := .peer owner tag, chart := chart, value := 0, mask := 0
                     header := tableHeader 2 false false false false made 0 0 }

/-- A sub-operation that has not been received before. Those on entries of other owners wait while the chart is MOVING (R211). -/
def takeSub (s : State) (owner chart tag : Nat) (op : SubOp) (id : Nat) (e : EntryRec) : State :=
  match op with
  | .command h =>
    let (k, s) := s.fresh
    s.enqueueTable { id := k, source := .peer owner tag, chart := chart, header := h, value := e.value, mask := e.mask }
  | .undo => s.undoForwarded owner chart tag id
  | .lost => (s.withdraw id owner).confirmTo owner tag id true
  | .pending d still => (s.notePending owner d chart still).confirmTo owner tag id true
  | _ =>
    if id / 2 ^ 22 = s.deviceNumber then s.confirmTo owner tag id false
    else if (s.chart chart).st == .moving then
      { s with search := { s.search with
          heldSubs := s.search.heldSubs ++ [{ owner := owner, chart := chart, tag := tag, op := op, entry := id, stored := e }] } }
    else s.holderDoes owner chart tag op id e

/-- A sub-operation arrives: one that this device has received before is not executed again, and is answered as the first one was (R209, R355). -/
def subOperation (s : State) (owner chart tag : Nat) (op : SubOp) (id : Nat) (e : EntryRec) : State :=
  let same (r : SubRec) : Bool := r.owner == owner && r.tag == tag
  match s.search.subsDone.find? fun r => same r && (r.answer.isNone || decide (s.now < r.ended + 64000)) with
  | some r =>
    match r.answer with
    | some words => s.sendMgmt owner mkTableConfirm (tag :: words)
    | none => s
  | none =>
    let kept := s.search.subsDone.filter fun r =>
      !same r && (r.answer.isNone || decide (s.now < r.ended + s.reg 0x3400 2 * 1000000))
    ({ s with search := { s.search with subsDone := kept ++ [{ owner := owner, tag := tag }] } } : State).takeSub owner chart tag op id
      (match op with
        | .command _ => e
        | _ => { e with value := e.value &&& e.mask })

/-- The sub-operations that waited for a move run in the order in which they came (R210, R211). -/
def runHeldSubs (s : State) (chart : Nat) : State :=
  let mine := s.search.heldSubs.filter (·.chart == chart)
  let s := { s with search := { s.search with heldSubs := s.search.heldSubs.filter (·.chart != chart) } }
  mine.foldl (fun s h => s.holderDoes h.owner h.chart h.tag h.op h.entry h.stored) s

/-! ### Pending updates (R208) -/

/-- Note whether updates of a chart are pending for a device, here and at every other member. -/
def tellPending (s : State) (chart dev : Nat) (still : Bool) : State :=
  let own := s.deviceNumber
  ((s.chart chart).members.filter fun m => m != own && m != dev && s.isActiveMember m).foldl
    (fun s m => s.tellSub m (.pending dev still) 0 { chart := chart }) (s.notePending own dev chart still)

/-- A device that has become a member hears for which others updates are pending from here. -/
def tellPendings (s : State) (dev : Nat) : State :=
  (s.search.pendingNotes.filter fun n => n.owner == s.deviceNumber && n.device != dev).foldl
    (fun s n => s.tellSub dev (.pending n.device true) 0 { chart := n.chart }) s

/-- A device has left: with an update pending it takes part in no search until that is applied, whenever it comes back (R208). -/
def pendingLeft (s : State) (dev : Nat) : State :=
  { s with search := { s.search with
      pendingNotes := mapIf (fun (n : PendingNote) => n.device == dev) (fun n => { n with left := true }) s.search.pendingNotes } }

/-- Send sub-operations that are re-sent until their devices confirm them. -/
def keepUpdates (s : State) (chart id : Nat) (l : List (Nat × SubOp)) : State :=
  l.foldl (init := s) fun s (d, op) =>
    let known := s.search.updates.any fun u => u.chart == chart && u.device == d
    let (t, s) := s.freshTag
    let u : PendingUpdate := { chart := chart, entry := id, device := d, op := op, tag := t, sent := s.now }
    let s := ({ s with search := { s.search with updates := s.search.updates ++ [u] } } : State).sendSub d t op id
      { s.entryAt id with chart := chart }
    if known then s else s.tellPending chart d true

/-- A device has confirmed a pending update. -/
def updateDone (s : State) (dev tag : Nat) : State :=
  match s.search.updates.find? fun u => u.device == dev && u.tag == tag with
  | none => s
  | some u =>
    let rest := s.search.updates.erase u
    let s := { s with search := { s.search with updates := rest } }
    if rest.any fun v => v.chart == u.chart && v.device == dev then s else s.tellPending u.chart dev false

/-! ### Confirmations (R206, R208) -/

/-- Undo an INSERT, or the reservations of a MODIFY: the copies here, and what each other holder reserved or applied. -/
def rollBack (s : State) (c : TableCmd) : State :=
  let e := s.entryAt c.entry
  let n := s.entrySegments c.chart
  let isInsert := thOp c.header == 1
  let starts := if isInsert then e.rows else e.newRows
  let s := if isInsert then s.dropEntry c.entry else s.modEntry c.entry fun e => { e with newRows := [] }
  let s := if c.phase = .reserving then s.freeRows (rowsFrom starts n)
    else if starts.isEmpty then s else s.invalidateCopies starts n .nothing
  s.keepUpdates c.chart c.entry (c.remotes.map (·, if isInsert then .remove else .discard))

/-- A holder confirms, or refuses, what it was asked under a tag. -/
def holderConfirmed (s : State) (holder tag : Nat) (ok : Bool) (index rows : Nat) (result : List Byte) : State :=
  let s := if ok then s.updateDone holder tag else s
  let that (a : Asked) : Bool := a.device == holder && a.tag == tag
  match s.search.cmds.find? fun c => c.unconfirmed.any that with
  | none => s
  | some c =>
    if c.forwarded then
      let h := c.header
      let b := if result.length < 32 then refusal h (if ok then 0 else 7) else
        leBytes (ofLe (result.take 24) % 2 ^ 192) 24 ++ leBytes (thCseq h).toNat 4 ++ leBytes (thClient h) 2 ++ result.drop 30
      s.finishBlock c b
    else if !ok then
      if c.phase = .reserving then (s.rollBack c).refuseTable c 2 else s
    else
      let s := s.modTable c.id fun k => { k with unconfirmed := k.unconfirmed.filter fun a => !that a }
      let s := if c.phase = .applying && rows ≠ 0 then
          s.modEntry c.entry fun e => { e with copies := e.copies.filter (·.1 != holder) ++ [(holder, index, rows)] }
        else s
      s.progress c.id

/-- What a DELETE or a MODIFY that ends unconfirmed leaves to be re-sent: what was not confirmed, and the steps that it has not come to. -/
def openUpdates (c : TableCmd) (e : EntryRec) : List (Nat × SubOp) :=
  if c.phase = .applying then
    c.remotes.map (fun d => (d, if c.unconfirmed.any (·.device == d) then .replace else .trim)) ++
      (e.copies.filter fun p => !c.remotes.contains p.1).map fun p => (p.1, .remove)
  else c.unconfirmed.map fun a => (a.device, a.op)

/-- A DELETE or a MODIFY keeps what it has applied, and leaves the rest pending, with event 5108 (R208). -/
def leavePending (s : State) (c : TableCmd) : State :=
  let e := s.entryAt c.entry
  let s := s.raise 0x5108 .contained (.peer ((c.unconfirmed.map (·.device)).headD 0) c.chart 0 c.entry 0)
  let s := if thOp c.header = 2 then s.deleteEntry c.entry
    else if c.phase = .applying then
      let s := s.modEntry c.entry fun e => { modified (s.chart c.chart) c e with
        rows := e.newRows, newRows := [], copies := e.copies.filter fun p => c.remotes.contains p.1 }
      if e.rows.isEmpty then s else s.invalidateCopies e.rows (s.entrySegments c.chart) .nothing
    else s
  s.keepUpdates c.chart c.entry (openUpdates c e)

/-- A holder has not confirmed within 1 ms: TABLE_TARGET_UNREACHABLE (R208). -/
def confirmTimeout (s : State) (id : Nat) : State :=
  match s.search.cmds.find? fun c =>
      c.entry == id && c.phase != .queued && !c.unconfirmed.isEmpty && decide (c.asked + 1000000 ≤ s.now) with
  | none => s
  | some c =>
    let s := if c.forwarded then
        if thOp c.header = 1 then c.unconfirmed.foldl (fun s a => s.keepUpdates c.chart a.tag [(a.device, .undo)]) s else s
      else if thOp c.header = 1 || c.phase = .reserving then s.rollBack c
      else s.leavePending c
    s.refuseTable c 7

/-- Re-send every pending update that was last sent 1 ms ago (R208). -/
def resendUpdates (s : State) : State :=
  let due (u : PendingUpdate) : Bool := decide (u.sent + 1000000 ≤ s.now)
  let s' := (s.search.updates.filter due).foldl (fun s u =>
    s.sendSub u.device u.tag u.op u.entry { s.entryAt u.entry with chart := u.chart }) s
  { s' with search := { s'.search with updates := mapIf due (fun u => { u with sent := s.now }) s'.search.updates } }

/-- A duplicate record has been kept for DEDUP_HOLD after its result (R209). -/
def expireRecord (s : State) (client cseq : Nat) : State :=
  let due (d : DedupRec) : Bool := d.client == client && d.cseq.toNat == cseq && d.result.isSome &&
    decide (d.ended + s.reg 0x3400 2 * 1000000 ≤ s.now)
  { s with search := { s.search with dedup := s.search.dedup.filter fun d => !due d } }

/-! ### Chart commands (R183, R184, R211) -/

/-- Whether a chart command cannot start on a chart: it is MOVING or DROPPING, or another command runs on it. -/
def chartBusy (s : State) (c : Nat) : Bool :=
  let x := s.chart c
  x.st == .moving || x.st == .dropping || x.st == .committing || x.span.isSome || x.prepare.isSome

/-- The first chart bank that is not reserved for chart 0 (R180). -/
def firstBank (s : State) : Nat := s.reg 0x2011 3 / 16384

/-- The checks of R183 on a descriptor and its maps, from KEY_WIDTH on. -/
def descriptorCheck (s : State) (w1 w0 : Word128) (gmap : Table Nat) : Option Nat :=
  let bits_ := keyBits (cdWidth w1)
  let bsel := bselPositions w1
  let used := (List.range (2 ^ cdBselCount w1)).map (Table.get 0 gmap)
  let dsel := dselPositions w1 w0
  if cdWidth w1 = 3 || cdReserved w1 w0 then some 0x3013
  else if cdBankCount w1 = 0 || decide (cdBankFirst w1 < s.firstBank) || decide (128 < cdBankFirst w1 + cdBankCount w1) then some 0x3014
  else if cdGroups w1 = 0 || decide (16 < cdGroups w1) || cdBankCount w1 % cdGroups w1 != 0 then some 0x3015
  else if s.reg 0x3000 4 < cdBankCount w1 / cdGroups w1 then some 0x3016
  else if decide (8 < cdBselCount w1) || !decide bsel.Nodup || !(bsel.all fun p => decide (p < bits_)) ||
      (cdBselCount w1 == 0 && cdGroups w1 != 1) then some 0x3017
  else if !(used.all fun g => decide (g < cdGroups w1)) || !((List.range (cdGroups w1)).all used.contains) then some 0x3018
  else if cdSpan w1 = 1 && (cdDselCount w1 == 0 || decide (8 < cdDselCount w1) || !decide dsel.Nodup || !(dsel.all fun p => decide (p < bits_))) then
    some 0x3019
  else if cdSpan w1 ≠ 1 && cdDselCount w1 != 0 then some 0x3019
  else none

/-- The device-map entries that a ROUTED descriptor uses. -/
def usedDevices (w1 : Word128) (dmap : Table Nat) : List Nat :=
  if cdSpan w1 = 1 then (List.range (2 ^ cdDselCount w1)).map (Table.get 0 dmap) else []

/-- An active member that is not quarantined. -/
def goodMember (s : State) (d : Nat) : Bool := s.isActiveMember d && !s.isQuarantined d

/-- The coordinator's own span check (R216). -/
def spanReady (s : State) : Bool :=
  s.canal.member == .active && s.goodMember s.deviceNumber && s.canal.pending.isNone

/-- The member set of a first commit (R214). -/
def firstMembers (s : State) (span : Nat) : List Nat :=
  s.canal.active.filter fun d => s.goodMember d && (span != 2 || d / 32 == s.flight)

/-- Every row that carries a chart's number, or is about to be written with it (R184). -/
def rowsOfChart (s : State) (c : Nat) : List Nat :=
  ((s.search.rows.filter fun (p : Nat × Row) => p.2.chart == c).map (·.1) ++
    ((s.search.groups.map (·.applies)).flatten.filter fun a => a.image.chart == c).map (·.row)).eraseDups

/-- Clear the chart's rows: it is DROPPING until the last of them is applied invalid (R184). -/
def enterDropping (s : State) (c : Nat) (ticket : Option Nat) : State :=
  let gone := s.search.entries.filter fun (p : Nat × EntryRec) => p.2.chart == c
  let taken := (gone.map fun (p : Nat × EntryRec) => rowsFrom (p.2.rows ++ p.2.newRows) (s.entrySegments c)).flatten
  let applies := (s.rowsOfChart c).map fun r => ({ row := r, image := {} } : Apply)
  let s := { s with search := { s.search with
      entries := s.search.entries.filter fun (p : Nat × EntryRec) => p.2.chart != c
      updates := s.search.updates.filter (·.chart != c)
      pendingNotes := s.search.pendingNotes.filter (·.chart != c)
      drops := match ticket with
        | some t => Table.set 0 s.search.drops c t
        | none => s.search.drops } }
  let s := s.modChart c fun x => { x with st := .dropping, span := none, hasStaged := false }
  let s := applies.foldl (fun s a => s.putImage a.row a.image) s
  (s.reserveRows taken).handApplies applies (.drop c) taken

/-- Send a PREPARE (R215, step 2). -/
def sendPrepare (s : State) (dev c : Nat) (j : SpanJob) : State :=
  s.sendMgmt dev mkPrepare ([c, j.generation, j.word1.toNat, j.word0.toNat, bit j.drop, j.instant, j.dmap.length] ++ j.dmap ++ j.members)

/-- Start a span command at its coordinator: T is 30 µs after acceptance (R215). -/
def startSpan (s : State) (ticket c : Nat) (w1 w0 : Word128) (dmap : List Nat) (members : List Nat) (drop commit : Bool)
    (also : List (Nat × Bool)) : State :=
  let own := s.deviceNumber
  let x := s.chart c
  let j : SpanJob := {
    coordinator := own, generation := (x.generation + 1) % 65536, word1 := w1, word0 := w0, dmap := dmap, members := members
    drop := drop, instant := (s.canalTime + 120000) % 2 ^ 64, ready := [own], ticket := some ticket, started := s.now
    also := also.map (·.1) }
  let s := s.modChart c fun x => { x with span := some j, coordinator := own, st := if commit then .committing else x.st }
  let s := (members.filter (· != own)).foldl (fun s d => s.sendPrepare d c j) s
  also.foldl (fun s (d, drop) => s.sendPrepare d c { j with drop := drop }) s

/-- The device map of a chart as PREPARE carries it: all its entries (R179). -/
def dmapList (dmap : Table Nat) : List Nat := (List.range 256).map (Table.get 0 dmap)

/-- CHART_DROP (R184, R215). -/
def dropChart (s : State) (ticket c : Nat) : State :=
  let x := s.chart c
  if c = 0 then s.endCmd ticket 0x3010
  else if s.chartBusy c then s.endCmd ticket 0x3011
  else if cdValid x.desc1 && cdSpan x.desc1 != 0 then
    s.startSpan ticket c x.desc1 x.desc0 (dmapList x.dmap) x.members true false []
  else s.enterDropping c (some ticket)

/-- A LOCAL chart's descriptor and maps apply in one cycle, once what is in the engine's hands is written (R184). -/
def commitDone (s : State) (c ticket : Nat) : State :=
  if (s.chart c).st != .committing then s
  else
    (s.modChart c fun x => { x with
      desc1 := x.staged1, desc0 := withLatency x.staged1 x.staged0, gmap := x.stagedGmap, dmap := x.stagedDmap
      st := .valid, hasStaged := false, members := [] }).endCmd ticket 0

/-- CHART_COMMIT (R183). -/
def commitChart (s : State) (ticket c : Nat) : State :=
  let x := (s.chart c).openStage
  let w0 := withLatency x.staged1 x.staged0
  if c = 0 then s.endCmd ticket 0x3010
  else if s.chartBusy c then s.endCmd ticket 0x3011
  else if !s.chartEmpty c then s.endCmd ticket 0x3012
  else if !cdValid x.staged1 then
    if x.st = .valid && cdSpan x.desc1 != 0 then s.dropChart ticket c
    else (s.modChart c Chart.cleared).endCmd ticket 0
  else match s.descriptorCheck x.staged1 x.staged0 x.stagedGmap with
    | some code => s.endCmd ticket code
    | none =>
      let span := cdSpan x.staged1
      let old := if cdValid x.desc1 then cdSpan x.desc1 else 0
      if span = 0 && old = 0 then
        (s.modChart c fun _ => { x with st := .committing, hasStaged := true }).handGroup { applies := [], after := .commit c ticket }
      else
        let members := if span = 0 || (span == old && !x.members.isEmpty) then x.members else s.firstMembers span
        if !s.spanReady || !((usedDevices x.staged1 x.stagedDmap).all s.goodMember) then s.endCmd ticket 0x3019
        else s.startSpan ticket c x.staged1 w0 (dmapList x.stagedDmap) members false true []

/-- CHART_ADMIT and CHART_RELEASE (R214 to R216). -/
def changeMembers (s : State) (ticket c dev : Nat) (adding : Bool) : State :=
  let x := s.chart c
  let members := if adding then x.members.filter (· != dev) ++ [dev] else x.members.filter (· != dev)
  if s.chartBusy c then s.endCmd ticket 0x3011
  else if x.st != .valid || cdSpan x.desc1 = 0 || !s.spanReady then s.endCmd ticket 0x3019
  else if adding && (!s.goodMember dev || (cdSpan x.desc1 == 2 && dev / 32 != s.flight)) then s.endCmd ticket 0x3019
  else if !adding && (!x.members.contains dev || (usedDevices x.desc1 x.dmap).contains dev) then s.endCmd ticket 0x3019
  else
    let reach := !adding && dev != s.deviceNumber && s.goodMember dev
    let s := if !adding && dev != s.deviceNumber && !reach then
        { s with search := { s.search with released := s.search.released.filter (· != (c, dev)) ++ [(c, dev)] } }
      else { s with search := { s.search with released := s.search.released.filter (· != (c, dev)) } }
    s.startSpan ticket c x.desc1 x.desc0 (dmapList x.dmap) members false false (if reach then [(dev, true)] else [])

/-- New rows for every entry of a chart under a new layout. -/
def placeAll (s : State) (w1 : Word128) (gmap : Table Nat) : List (Nat × EntryRec) → List Nat → Option (List (Nat × List Nat))
  | [], _ => some []
  | (id, e) :: rest, used =>
    match s.allocate w1 gmap e.value e.mask used with
    | none => none
    | some starts => (s.placeAll w1 gmap rest (rowsFrom starts (segments (cdWidth w1)) ++ used)).map ((id, starts) :: ·)

/-- The descriptor bits that a move may change: BANK_FIRST, BANK_COUNT, GROUPS, BSEL_COUNT and BSEL_POS. -/
def moveBits (w1 : Word128) : Word128 := setFld w1 26 96 0

/-- Every entry of a chart is written into the new layout, its POS = 0 rows last (R211). -/
def moveEntries (s : State) (ticket c : Nat) (w1 : Word128) (places : List (Nat × List Nat)) : State :=
  let x := (s.chart c).openStage
  let width := cdWidth w1
  let s := s.modChart c fun _ => { x with st := .moving, hasStaged := true }
  let s := { s with search := { s.search with move := some (c, ticket, places) } }
  let n := segments width
  let image (e : EntryRec) (r k : Nat) : Apply :=
    { row := r + k, image := { entryRow c width e.priority e.value e.mask e.datum k with valid := k == 0 && !e.lost } }
  let applies (k0 len : Nat) := (places.map fun p =>
    (p.2.map fun r => (List.range len).map fun k => image (s.entryAt p.1) r (k0 + k)).flatten).flatten
  let s := (applies 0 n).foldl (fun s a => s.putImage a.row a.image) s
  let rows := (places.map fun p => rowsFrom p.2 n).flatten
  ((s.reserveRows rows).handApplies (applies 1 (n - 1)) .nothing []).handApplies (applies 0 1) (.moveIn c) rows

/-- CHART_MOVE (R211): the checks, then every entry into the new layout. -/
def moveChart (s : State) (ticket c : Nat) : State :=
  let x := (s.chart c).openStage
  let (w1, w0) := (x.staged1, x.staged0)
  let banks (w : Word128) := (List.range (cdBankCount w)).map (cdBankFirst w + ·)
  if c = 0 then s.endCmd ticket 0x3010
  else if s.chartBusy c then s.endCmd ticket 0x3011
  else if x.st != .valid || moveBits w1 != moveBits x.desc1 || setFld w0 44 12 0 != setFld x.desc0 44 12 0 || x.stagedDmap != x.dmap then
    s.endCmd ticket 0x3013
  else match s.descriptorCheck w1 w0 x.stagedGmap with
    | some code => s.endCmd ticket code
    | none =>
      if (banks w1).any (banks x.desc1).contains then s.endCmd ticket 0x3014
      else
        let es := s.search.entries.filter fun (p : Nat × EntryRec) => p.2.chart == c && !p.2.rows.isEmpty
        match s.placeAll w1 x.stagedGmap es s.usedRows with
        | none => s.endCmd ticket 0x3102
        | some places => s.moveEntries ticket c w1 places

/-- Steps 4 and 5 of a move: the new layout applies, and the old POS = 0 rows are applied invalid. What a holder had reserved in the old layout is reserved anew when it is applied. -/
def moveIn (s : State) (c : Nat) : State :=
  match s.search.move with
  | none => s
  | some (_, ticket, places) =>
    let n := s.entrySegments c
    let mine (p : Nat × EntryRec) : Bool := p.2.chart == c
    let s := s.freeRows ((s.search.entries.filter mine).map fun (p : Nat × EntryRec) => rowsFrom p.2.newRows n).flatten
    let s := (s.search.entries.filter mine).foldl (fun s (p : Nat × EntryRec) => s.modEntry p.1 fun e => { e with newRows := [] }) s
    let old := (places.map fun p => (s.entryAt p.1).rows).flatten
    let s := s.modChart c fun x => { x with
      desc1 := x.staged1, desc0 := withLatency x.staged1 x.staged0, gmap := x.stagedGmap, hasStaged := false }
    let s := places.foldl (fun s p => s.modEntry p.1 fun e => { e with rows := p.2 }) s
    let s := { s with search := { s.search with move := some (c, ticket, []) } }
    let heads := old.map fun r => ({ row := r, image := { s.imageAt r with valid := false } } : Apply)
    let s := heads.foldl (fun s a => s.putImage a.row a.image) s
    (s.reserveRows (rowsFrom old n)).handApplies heads (.moveOut c) (rowsFrom old n)

/-- A move ends. -/
def moveOut (s : State) (c : Nat) : State :=
  match s.search.move with
  | none => s
  | some (_, ticket, _) =>
    let s := s.modChart c fun x => { x with st := .valid }
    (({ s with search := { s.search with move := none } } : State).endCmd ticket 0).runHeldSubs c

/-- The chart's last row is cleared. -/
def dropDone (s : State) (c : Nat) : State :=
  let t := Table.get 0 s.search.drops c
  let s := s.modChart c Chart.cleared
  let s := { s with search := { s.search with drops := Table.set 0 s.search.drops c 0 } }
  if t = 0 then s else s.endCmd t 0

/-! ### Span commands (R215) -/

/-- Whether a PREPARE only changes the member set of a chart that is in use here. -/
def memberChange (x : Chart) (j : SpanJob) : Bool :=
  cdValid x.desc1 && x.st == .valid && sharedWords x.desc1 x.desc0 == sharedWords j.word1 j.word0 &&
    (x.generation + 1) % 65536 == j.generation && x.dmap == dmapOf j.dmap && x.members != j.members

/-- A member's checks (R215, step 3); a chart that holds entries here is a failed span check (R216). -/
def memberCheck (s : State) (c : Nat) (j : SpanJob) : Option Nat :=
  let x := s.chart c
  if s.chartBusy c then some 0x3011
  else if j.drop || memberChange x j then none
  else if !s.chartEmpty c then some 0x3019
  else s.descriptorCheck j.word1 j.word0 x.openStage.stagedGmap

/-- A member answers a PREPARE. -/
def answerPrepare (s : State) (c : Nat) (j : SpanJob) : State :=
  match s.memberCheck c j with
  | some code => s.sendMgmt j.coordinator mkReady [c, 1, code]
  | none =>
    let commit := !j.drop && !memberChange (s.chart c) j
    let s := s.modChart c fun x => { x with span := some j, st := if commit then .committing else x.st }
    s.sendMgmt j.coordinator mkReady [c, 0, 0]

/-- PREPARE arrives at a member: it waits until the table command running on the chart ends (R210). -/
def prepared (s : State) (c : Nat) (j : SpanJob) : State :=
  if s.chartWorks c && !s.chartBusy c then s.modChart c fun x => { x with prepare := some j } else s.answerPrepare c j

/-- The PREPAREs whose charts' table commands have ended are answered; one whose instant has passed is of no more use. -/
def settleCharts (s : State) : State :=
  s.search.charts.foldl (init := s) fun s (p : Nat × Chart) =>
    match p.2.prepare with
    | none => s
    | some j =>
      if s.chartWorks p.1 then s
      else
        let s := s.modChart p.1 fun x => { x with prepare := none }
        if j.instant ≤ s.canalTime then s else s.answerPrepare p.1 j

/-- A member's answer arrives at the coordinator. -/
def readyFrom (s : State) (member c : Nat) (reply : SpanReply) : State :=
  match (s.chart c).span with
  | none => s
  | some j =>
    if j.coordinator ≠ s.deviceNumber || decide (j.instant < s.canalTime + 20000) then s
    else s.modChart c fun x => { x with span := some (match reply with
      | .ready => { j with ready := if j.ready.contains member then j.ready else j.ready ++ [member] }
      | .refused code => { j with refusal := some (j.refusal.getD code) }) }

/-- Every member is READY. -/
def allReady (j : SpanJob) : Bool := j.refusal.isNone && j.members.all j.ready.contains

/-- The code with which an aborted span command ends: the first refusal, or CHART_SPAN; CHART_ADMIT and CHART_RELEASE know of the members' refusals only CHART_BUSY (R215, R222). -/
def spanCode (x : Chart) (j : SpanJob) : Nat :=
  match j.refusal with
  | none => 0x3019
  | some code => if x.st == .committing || j.drop || code == 0x3011 then code else 0x3019

/-- The coordinator aborts a span command at every device that was sent its PREPARE, and ends it with a code (R215, step 4; R370). -/
def abortSpan (s : State) (c : Nat) (j : SpanJob) (code : Nat) : State :=
  let s := ((j.members ++ j.also).filter (· != s.deviceNumber)).foldl (fun s d => s.sendMgmt d mkAbort [c, j.generation]) s
  let s := s.modChart c fun x => { x with span := none, st := x.resting }
  match j.ticket with
  | some t => s.endCmd t code
  | none => s

/-- The span commands of a view that lost: those of this coordinator are aborted, those that it is to apply are dropped (R370). -/
def dropSpans (s : State) : State :=
  s.search.charts.foldl (fun s (p : Nat × Chart) =>
    let s := if p.2.prepare.isSome then s.modChart p.1 fun x => { x with prepare := none } else s
    match p.2.span with
    | none => s
    | some j =>
      if j.done then s
      else if j.coordinator = s.deviceNumber then s.abortSpan p.1 j 0x3019
      else s.modChart p.1 fun x => { x with span := none, st := x.resting }) s

/-- At T − 5 µs the coordinator sends ABORT unless every member is READY (R215, step 4). -/
def readyDeadline (s : State) (c : Nat) : State :=
  match (s.chart c).span with
  | none => s
  | some j =>
    if j.coordinator ≠ s.deviceNumber || decide (s.canalTime + 20000 < j.instant) || allReady j then s
    else s.abortSpan c j (spanCode (s.chart c) j)

/-- ABORT arrives at a member. -/
def aborted (s : State) (c generation : Nat) : State :=
  let s := if (s.chart c).prepare.any (·.generation == generation) then s.modChart c fun x => { x with prepare := none } else s
  match (s.chart c).span with
  | none => s
  | some j =>
    if j.coordinator = s.deviceNumber || j.generation ≠ generation then s
    else s.modChart c fun x => { x with span := none, st := x.resting }

/-- The coordinator's command ends once every member has confirmed. -/
def spanDone (s : State) (c : Nat) (anyway : Bool) : State :=
  match (s.chart c).span with
  | none => s
  | some j =>
    if !j.done || !(anyway || j.members.all j.applied.contains) then s
    else
      let s := s.modChart c fun x => { x with span := none }
      match j.ticket with
      | some t => s.endCmd t 0
      | none => s

/-- At T the prepared change applies in one cycle (R215, step 5). A CHART_DROP's result waits for the coordinator's own rows; its members' APPLIED are heard beside that. -/
def applySpanJob (s : State) (c : Nat) (j : SpanJob) : State :=
  let x := s.chart c
  let own := s.deviceNumber
  let lead := j.coordinator == own
  let s := s.modChart c fun x => { x with
    prevStamp := chartStamp x, generation := j.generation, changedAt := s.now, coordinator := j.coordinator }
  let s := { s with search := { s.search with
      updates := s.search.updates.filter fun u => u.chart != c || j.members.contains u.device
      pendingNotes := s.search.pendingNotes.filter fun n => n.chart != c || j.members.contains n.device } }
  if j.drop || !j.members.contains own then
    let s := (s.enterDropping c (if lead && j.drop then j.ticket else none)).modChart c fun x => { x with members := [] }
    if lead then
      (s.modChart c fun x => { x with span := some { j with
        done := true, applied := own :: j.applied, ticket := if j.drop then none else j.ticket } }).spanDone c false
    else if j.members.contains own then s.sendMgmt j.coordinator mkApplied [c]
    else s
  else
    let change := memberChange x j || (lead && x.st != .committing)
    let s := if change then s.modChart c fun x => { x with members := j.members }
      else s.modChart c fun x =>
        let x := x.openStage
        { x with
          desc1 := j.word1, desc0 := withLatency j.word1 j.word0, gmap := x.stagedGmap, dmap := dmapOf j.dmap
          members := if cdSpan j.word1 = 0 then [] else j.members, st := .valid, hasStaged := false }
    if lead then
      (s.modChart c fun x => { x with span := some { j with done := true, applied := own :: j.applied } }).spanDone c false
    else (s.modChart c fun x => { x with span := none }).sendMgmt j.coordinator mkApplied [c]

/-- SPAN_APPLY of a prepared change whose instant has come. -/
def applySpan (s : State) (c : Nat) : State :=
  let x := s.chart c
  match x.span with
  | none => s
  | some j =>
    let own := s.deviceNumber
    let lead := j.coordinator == own
    if s.canalTime < j.instant || j.done || (lead && !allReady j) then s
    else s.applySpanJob c j

/-- APPLIED arrives at the coordinator (R215, step 6). -/
def appliedBy (s : State) (member c : Nat) : State :=
  match (s.chart c).span with
  | none => s
  | some j =>
    if j.coordinator ≠ s.deviceNumber then s
    else (s.modChart c fun x => { x with span := some { j with applied := if j.applied.contains member then j.applied else j.applied ++ [member] } }).spanDone c false

/-- At 45 µs the command ends, with event 5109 for each member that has not confirmed. -/
def spanTimeout (s : State) (c : Nat) : State :=
  match (s.chart c).span with
  | none => s
  | some j =>
    if j.coordinator ≠ s.deviceNumber || !j.done || decide (s.now < j.started + 45000) then s
    else ((j.members.filter fun d => !j.applied.contains d).foldl
      (fun s d => s.raise 0x5109 .degraded (.peer d c 0 0 0)) s).spanDone c true

/-! ### After an apply group -/

/-- What follows an apply group. -/
def afterApply (s : State) (a : AfterApply) : State :=
  match a with
  | .nothing => s
  | .table id => ((s.modTable id fun k => { k with writing := false }).progress id).settleCharts
  | .confirm owner tag _ id => (s.copiesApplied owner tag id).settleCharts
  | .trim owner tag _ id => (s.holderTrim owner tag id).settleCharts
  | .commit c ticket => s.commitDone c ticket
  | .drop c => s.dropDone c
  | .moveIn c => s.moveIn c
  | .moveOut c => s.moveOut c
  | .region => s

end State

/-! ### Rows -/

/-- INSERT (R206). -/
def execInsert (chart : Nat) (s : State) : Host.Outcome State Fault Refusal :=
  run (.insert chart) s fun s => (s.startTable chart 1 State.startInsert).settleCharts

/-- DELETE (R207). -/
def execDelete (chart : Nat) (s : State) : Host.Outcome State Fault Refusal :=
  run (.delete chart) s fun s => (s.startTable chart 2 State.startDelete).settleCharts

/-- MODIFY (R207). -/
def execModify (chart : Nat) (s : State) : Host.Outcome State Fault Refusal :=
  run (.modify chart) s fun s => (s.startTable chart 3 State.startModify).settleCharts

/-- READBACK (R202). -/
def execReadback (chart : Nat) (s : State) : Host.Outcome State Fault Refusal :=
  run (.readback chart) s fun s => (s.startTable chart 4 State.startReadback).settleCharts

/-- TABLE_SUB_OPERATION (R206). -/
def execTableSubOperation (owner chart : Nat) (op : TaggedOp) (entry : Nat) (value mask : BitVec 512) (priority : Nat) (datum : BitVec 64)
    (s : State) : Host.Outcome State Fault Refusal :=
  run (.tableSubOperation owner chart op entry value mask priority datum) s fun s =>
    s.subOperation owner chart op.tag op.op entry { chart := chart, value := value, mask := mask, priority := priority, datum := datum }

/-- HOLDER_CONFIRM (R206). -/
def execHolderConfirm (holder tag : Nat) (ok : Bool) (index rows : Nat) (result : List Byte) (s : State) : Host.Outcome State Fault Refusal :=
  run (.holderConfirm holder tag ok index rows result) s fun s => (s.holderConfirmed holder tag ok index rows result).settleCharts

/-- HOLDER_CONFIRM_TIMEOUT (R208). -/
def execHolderConfirmTimeout (entry : Nat) (s : State) : Host.Outcome State Fault Refusal :=
  run (.holderConfirmTimeout entry) s fun s => (s.confirmTimeout entry).settleCharts

/-- PENDING_UPDATE_RESEND (R208). -/
def execPendingUpdateResend (s : State) : Host.Outcome State Fault Refusal := run .pendingUpdateResend s State.resendUpdates

/-- DEDUP_RECORD_EXPIRY (R209). -/
def execDedupRecordExpiry (client cseq : Nat) (s : State) : Host.Outcome State Fault Refusal :=
  run (.dedupRecordExpiry client cseq) s fun s => s.expireRecord client cseq

/-- PREPARE (R215). -/
def execPrepare (coordinator chart generation : Nat) (word1 word0 : Word128) (dmap members : List Nat) (drop : Bool) (instant : Nat)
    (s : State) : Host.Outcome State Fault Refusal :=
  run (.prepare coordinator chart generation word1 word0 dmap members drop instant) s fun s =>
    s.prepared chart { coordinator := coordinator, generation := generation, word1 := word1, word0 := word0, dmap := dmap
                       members := members, drop := drop, instant := instant, started := s.now }

/-- READY (R215). -/
def execReady (member chart : Nat) (reply : SpanReply) (s : State) : Host.Outcome State Fault Refusal :=
  run (.ready member chart reply) s fun s => s.readyFrom member chart reply

/-- SPAN_READY_DEADLINE (R215). -/
def execSpanReadyDeadline (chart : Nat) (s : State) : Host.Outcome State Fault Refusal :=
  run (.spanReadyDeadline chart) s fun s => s.readyDeadline chart

/-- ABORT (R215). -/
def execAbort (chart generation : Nat) (s : State) : Host.Outcome State Fault Refusal :=
  run (.abort chart generation) s fun s => s.aborted chart generation

/-- SPAN_APPLY (R215). -/
def execSpanApply (chart : Nat) (s : State) : Host.Outcome State Fault Refusal :=
  run (.spanApply chart) s fun s => s.applySpan chart

/-- APPLIED (R215). -/
def execApplied (member chart : Nat) (s : State) : Host.Outcome State Fault Refusal :=
  run (.applied member chart) s fun s => s.appliedBy member chart

/-- SPAN_CONFIRM_TIMEOUT (R215). -/
def execSpanConfirmTimeout (chart : Nat) (s : State) : Host.Outcome State Fault Refusal :=
  run (.spanConfirmTimeout chart) s fun s => s.spanTimeout chart

end Sys2Proof.Machine
end

