-- ==== Sys2Proof/Machine/Regions.lean ====
section
/-! DEFINITION. Region commands: the checks of a descriptor, its system-chart rows, the reverse map, the purge and the drain (R36 to R45, R97, R99, R228, R229, R424), and the write of apply groups with what follows them. -/

namespace Sys2Proof.Machine

/-! ### System-chart rows (R41, R42) -/

/-- The fewest aligned power-of-two blocks of a range of 2 MiB units, as (first unit, log2 size): at most 64 (R42). -/
def blocksOf : Nat → Nat → Nat → List (Nat × Nat)
  | 0, _, _ => []
  | fuel + 1, a, n =>
    if n = 0 then []
    else
      let k := ((List.range 25).filter fun k => a % 2 ^ (k + 1) == 0 && decide (2 ^ (k + 1) ≤ n)).length
      (a, k) :: blocksOf fuel (a + 2 ^ k) (n - 2 ^ k)

/-- The care bits of a mask. -/
def careBits (m width : Nat) : Nat := ((List.range width).filter m.testBit).length

/-- A system-chart row: its key, its mask and its priority (R41, R42). -/
structure SysRow where
  value : Nat
  mask : Nat
  priority : Nat
  deriving DecidableEq, Repr

/-- The rows of a descriptor. -/
def sysRows (w1 w0 : Word128) : List SysRow :=
  let pm := rdPortMask w1
  let mm := rdMarkerMask w1
  (blocksOf 64 (rdOffsetBase w0) (rdUnits w0)).map fun (a, k) =>
    { value := sysKey (Nat.land (rdPortValue w1) pm) (Nat.land (rdMarkerValue w1) mm) a
      mask := sysKey pm mm (2 ^ 25 - 2 ^ k)
      priority := careBits pm 7 + careBits mm 6 + (25 - k) }

/-- Whether some key matches both rows. -/
def SysRow.meets (a b : SysRow) : Bool := Nat.land (Nat.land (Nat.xor a.value b.value) a.mask) b.mask == 0

/-- Whether two descriptors overlap in (port, marker, offset), on rows of equal priority when `equal` is set (R38). -/
def rowsMeet (equal : Bool) (a b : List SysRow) : Bool :=
  a.any fun x => b.any fun y => x.meets y && (!equal || x.priority == y.priority)

/-- The first DPA of a region and the first beyond it. -/
def rdDpa (w0 : Word128) : Nat × Nat := (rdDpaBase w0 * 2 ^ 21, (rdDpaBase w0 + rdUnits w0) * 2 ^ 21)

/-- A local region: its KIND is LOCAL_POOL or LOCAL_MOORED. -/
def rdLocal (w1 : Word128) : Bool := decide (rdKind w1 < 2)

/-- The fields whose change needs a new region (R39): OFFSET_BASE, LENGTH_M1, GRAN and the patterns. -/
def rdFixed (w1 w0 : Word128) : Nat × Nat × Nat × Nat :=
  (rdGran w1, fld w1 37 26, rdOffsetBase w0, rdUnits w0)

/-- The reverse-map interval of a region (R97). -/
def intervalOf (r : Nat) (w1 w0 : Word128) : RevInterval :=
  { region := r, kind := rdKind w1, targetDev := rdTargetDev w1, base := rdDpaBase w0, units := rdUnits w0
    offset := rdOffsetBase w0, portValue := rdPortValue w1, portMask := rdPortMask w1, markerValue := rdMarkerValue w1
    markerMask := rdMarkerMask w1, protect := rdProtect w1, root := rdRoot w1 }

/-- Put an interval in its place, sorted by DPA. -/
def insertInterval (l : List RevInterval) (i : RevInterval) : List RevInterval :=
  l.takeWhile (fun j => decide (j.base ≤ i.base)) ++ i :: l.dropWhile fun j => decide (j.base ≤ i.base)

namespace State

/-! ### Staging (R36, R50) -/

/-- WORD1 of a region that nothing has staged: PROTECT as DEFAULT_PROTECT says. -/
def defaultWord1 (s : State) : Word128 := setFld 0 113 1 s.defaultProtect

/-- The staged descriptor of a region. -/
def stagedRegion (s : State) (r : Nat) : Word128 × Word128 :=
  if (s.region r).st = .empty then (s.defaultWord1, 0) else ((s.region r).staged1, (s.region r).staged0)

/-- Write a word of the staged descriptor: an EMPTY region becomes STAGED. -/
def stageRegion (s : State) (r : Nat) (high : Bool) (w : Word128) : State :=
  let (a, b) := s.stagedRegion r
  s.modRegion r fun x => { x with
    staged1 := if high then w else a, staged0 := if high then b else w, st := if x.st = .empty then .staged else x.st }

/-! ### The checks of REGION_COMMIT (R38, R229) -/

/-- ACTIVE regions other than one. -/
def otherActive (s : State) (r : Nat) : List (Nat × Region) :=
  s.tenant.regions.filter fun (p : Nat × Region) => p.1 != r && p.2.st == .active

/-- Whether a DPA range lies in one pool target window (R18). -/
def inOneTarget (s : State) (lo hi : Nat) : Bool :=
  s.link.targets.any fun (p : Nat × Word128) =>
    ptValid p.2 && decide (ptDpaBase p.2 ≤ lo) && decide (hi ≤ ptDpaBase p.2 + ptDpaSize p.2)

/-- Whether two descriptors bind differently where their DPA ranges overlap (R38). -/
def bindsOtherwise (w1 v1 : Word128) : Bool :=
  rdProtect w1 != rdProtect v1 ||
    (rdProtect w1 && (rdKeyDomain w1 != rdKeyDomain v1 || rdRoot w1 != rdRoot v1))

/-- The checks on a PROTECT = 1 descriptor against its root (R38, R229). -/
def rootCheck (s : State) (w1 : Word128) (lo hi : Nat) : Option Nat :=
  let p := s.protRegion (rdRoot w1)
  if s.prot.st = .disabled then some 0x2014
  else if s.prot.job.any fun (j : Nat × Nat × Bool) => j.2.1 == rdRoot w1 then some 0x2016
  else if p.st != .active then some 0x2014
  else if decide (lo < pdBase p.desc1) || decide (pdBase p.desc1 + pdSize p.desc1 < hi) || pdKeySlot p.desc1 != rdKeyDomain w1 then some 0x2014
  else none

/-- Free rows of the system chart. -/
def sysFree (s : State) : Nat :=
  s.reg 0x2011 3 - s.tenant.regions.foldl (fun n (p : Nat × Region) => n + p.2.rows.length) 0

/-- The checks of R38, in table order. -/
def regionCheck (s : State) (r : Nat) (w1 w0 : Word128) : Option Nat :=
  let g := granUnits (rdGran w1)
  let (lo, hi) := rdDpa w0
  let rows := sysRows w1 w0
  let others := s.otherActive r
  let rowsOf (p : Nat × Region) := sysRows p.2.desc1 p.2.desc0
  let peer := !rdLocal w1
  if rdOffsetBase w0 % g != 0 || rdUnits w0 % g != 0 || decide (2 ^ 25 < rdOffsetBase w0 + rdUnits w0) then some 0x2010
  else if rdReserved1 w1 != 0 || rdReserved0 w0 != 0 || decide (1 < rdPolicy w1) ||
      (peer && (rdPolicy w1 != 0 || rdProtect w1 || rdKeyDomain w1 != 0 || rdRoot w1 != 0)) ||
      (rdKind w1 == 1 && rdProtect w1) then some 0x2011
  else if rdKind w1 == 0 && (decide (2 ^ 44 < hi) || !s.inOneTarget lo hi) then some 0x2012
  else if rdKind w1 == 1 && (decide (lo < 2 ^ 44) || decide (2 ^ 44 + s.cache.moored * 2 ^ 28 < hi)) then some 0x2012
  else if peer && decide (2 ^ 45 < hi) then some 0x2012
  else if others.any fun p => rdGran p.2.desc1 != rdGran w1 && rowsMeet false rows (rowsOf p) then some 0x2013
  else if others.any fun p => rowsMeet true rows (rowsOf p) then some 0x2013
  else if !peer && others.any fun p => rdLocal p.2.desc1 && decide ((rdDpa p.2.desc0).1 < hi) && decide (lo < (rdDpa p.2.desc0).2) &&
      bindsOtherwise w1 p.2.desc1 then some 0x2014
  else match if rdProtect w1 then s.rootCheck w1 lo hi else none with
    | some code => some code
    | none => if (s.region r).st != .active && decide (s.sysFree < rows.length) then some 0x2015 else none

/-! ### Rows, reverse map and purge -/

/-- The row of chart 0 for a system-chart row of a region (R41). -/
def sysRowImage (r : Nat) (w1 w0 : Word128) (x : SysRow) : Row :=
  entryRow 0 0 x.priority (BitVec.ofNat 512 x.value) (BitVec.ofNat 512 x.mask) (sysDatum r w1 w0) 0

/-- Write rows of chart 0 one at a time; `after` follows the last of them. -/
def writeSysRows (s : State) : List Apply → List Nat → State
  | [], free => s.handGroup { applies := [], after := .region, free := free }
  | [a], free => (s.putImage a.row a.image).handGroup { applies := [a], after := .region, free := free }
  | a :: rest, free => ((s.putImage a.row a.image).handGroup { applies := [a] }).writeSysRows rest free

/-- Free rows of chart 0, lowest first. -/
def sysPlaces (s : State) : Nat → List Nat → List Nat
  | 0, _ => []
  | n + 1, used =>
    match freePlace used 1 (s.reg 0x2011 3) 0 with
    | none => []
    | some r => r :: s.sysPlaces n (r :: used)

/-- The number of RETIRED intervals (R99). -/
def retiredCount (s : State) : Nat := (s.home.revMap.filter (·.retired)).length

/-- The own interval of a region is marked RETIRED. -/
def retireInterval (s : State) (r : Nat) : State :=
  { s with home := { s.home with
      revMap := mapIf (fun i => i.region == r && !i.retired) (fun i => { i with retired := true }) s.home.revMap } }

/-- The region's interval is replaced, where the region reaches a DPA homed in this flight. -/
def replaceInterval (s : State) (r : Nat) (w1 w0 : Word128) : State :=
  let l := s.home.revMap.filter fun i => i.retired || i.region != r
  { s with home := { s.home with revMap := if rdKind w1 = 3 then l else insertInterval l (intervalOf r w1 w0) } }

/-- Whether a port matches the port pattern of a descriptor. -/
def portMatches (w1 : Word128) (p : Nat) : Bool := Nat.land (Nat.xor p (rdPortValue w1)) (rdPortMask w1) == 0

/-- Whether a lookaside entry's granule overlaps a range of units for a marker of the pattern. -/
def laOverlaps (w1 w0 : Word128) (e : LaEntry) : Bool :=
  let a := e.granule * granUnits e.gran
  Nat.land (Nat.xor e.marker (rdMarkerValue w1)) (rdMarkerMask w1) == 0 &&
    decide (a < rdOffsetBase w0 + rdUnits w0) && decide (rdOffsetBase w0 < a + granUnits e.gran)

/-- The quads of the ports of a pattern, with the queue processors after them. -/
def purgedUnits (s : State) (w1 : Word128) : List LookUnit :=
  let qs := ((List.range 128).filter fun p => pcEnable (s.port p).cfg && portMatches w1 p).map fun p =>
    (List.range (pcQuads (s.port p).cfg)).map fun i => LookUnit.quad ((pcFirstQuad (s.port p).cfg + i) % 128)
  qs.flatten ++ (List.range 32).map LookUnit.qp

/-- Purge a region from the lookaside buffers and the snoop translation buffers, for each of its descriptors (R45, R99, R134). -/
def purgeRegion (s : State) (r : Nat) (ds : List (Word128 × Word128)) : State :=
  let s := ds.foldl (fun s d =>
    (s.purgedUnits d.1).foldl (fun s u => s.modLook u fun l => { l with
      purges := l.purges + 1
      entries := l.entries.filter fun e => sdRegion e.datum != r &&
        !(laOverlaps d.1 d.2 e && (match u with
          | .quad _ => true
          | .qp _ => portMatches d.1 e.port)) }) s) s
  let hit (b : StbLine) : Bool := ds.any fun d =>
    portMatches d.1 b.port && decide (rdDpaBase d.2 ≤ b.unit) && decide (b.unit < rdDpaBase d.2 + rdUnits d.2)
  { s with home := { s.home with stb := s.home.stb.filter fun b => !hit b } }

/-- The drain of a purge: every request in flight at the purged units (R45). -/
def startDrain (s : State) (ticket : Option Nat) (r code : Nat) (units : List LookUnit) (flush : Option (Client × Word128))
    (before : Option (Word128 × Word128) := none) : State :=
  let txns := (s.tenant.txns.filter fun t => units.contains t.unit).map (·.req.id)
  { s with tenant := { s.tenant with
      drains := s.tenant.drains ++ [({ ticket := ticket, region := r, code := code, txns := txns, flush := flush, before := before } : RegionDrain)] } }

/-- Retire intervals wait for a walk that is not running (R99): the walk itself is RETIRE_SWEEP_START. -/
def startRun (s : State) (ticket r kind : Nat) (before : Option (Word128 × Word128) := none) : State :=
  { s with tenant := { s.tenant with regionRun := some { ticket := ticket, region := r, kind := kind, before := before } } }

/-! ### The commands (R39, R40) -/

/-- A checked region is bound, takes its place in the reverse map, and its system-chart rows are written (R38, R40, R97, R228). -/
def placeRegion (s : State) (ticket r : Nat) (w1 w0 : Word128) (retires : Bool) : State :=
  let x := s.region r
  let s := { s with prot := { s.prot with
      binding := Table.set 0 s.prot.binding r (if rdProtect w1 then rdRoot w1 + 1 else 0) } }
  let s := if retires then s.retireInterval r else s
  let s := s.replaceInterval r w1 w0
  let rows := sysRows w1 w0
  let places := if x.st == .active then x.rows else s.sysPlaces rows.length s.usedRows
  let s := s.modRegion r fun y => { y with st := .committing, desc1 := w1, desc0 := w0, staged1 := w1, staged0 := w0, rows := places }
  (s.startRun ticket r 0 (if x.st == .active then some (x.desc1, x.desc0) else none)).writeSysRows
    ((places.zip rows).map fun p => { row := p.1, image := sysRowImage r w1 w0 p.2 }) []

/-- REGION_COMMIT. The manual gives no order between REGION_BUSY and the table checks of R38: REGION_BUSY is tested first (DESIGN CHOICE, R39, R99). -/
def regionCommit (s : State) (ticket r : Nat) : State :=
  let x := s.region r
  let (w1, w0) := s.stagedRegion r
  let active := x.st == .active
  let retires := active && (rdDpaBase w0 != rdDpaBase x.desc0 || rdKind w1 != rdKind x.desc1 || rdTargetDev w1 != rdTargetDev x.desc1)
  if x.lost then s.endCmd ticket 0x2017
  else if !rdValid w1 then
    if active then s.endCmd ticket 0x2011
    else (s.modRegion r fun _ => {}).endCmd ticket 0
  else if active && rdFixed w1 w0 != rdFixed x.desc1 x.desc0 then s.endCmd ticket 0x2016
  else if retires && decide (32768 ≤ s.retiredCount) then s.endCmd ticket 0x2016
  else match s.regionCheck r w1 w0 with
    | some code => s.endCmd ticket code
    | none => s.placeRegion ticket r w1 w0 retires

/-- Rewrite the rows of an ACTIVE region, with FROZEN set or clear (R40). FROZEN changes in the committed descriptor alone: a later REGION_COMMIT writes the FROZEN that is staged, and thaws the region row by row when that is 0 (DESIGN CHOICE, R39). -/
def regionFrozen (s : State) (ticket r : Nat) (on : Bool) : State :=
  let x := s.region r
  let w1 := setFld x.desc1 126 1 (bit on)
  let s := s.modRegion r fun y => { y with desc1 := w1 }
  (s.startRun ticket r (if on then 2 else 3)).writeSysRows
    ((x.rows.zip (sysRows w1 x.desc0)).map fun p => { row := p.1, image := sysRowImage r w1 x.desc0 p.2 }) []

/-- REGION_FREEZE and REGION_THAW. -/
def regionFreeze (s : State) (ticket r : Nat) (on : Bool) : State :=
  let x := s.region r
  if x.lost then s.endCmd ticket (if on then 0 else 0x2017)
  else if x.st != .active then s.endCmd ticket 0
  else s.regionFrozen ticket r on

/-- REGION_DELETE. -/
def regionDelete (s : State) (ticket r : Nat) : State :=
  let x := s.region r
  if x.st != .active then (s.modRegion r fun _ => {}).endCmd ticket 0
  else if 32768 ≤ s.retiredCount then s.endCmd ticket 0x2016
  else
    let s := (s.retireInterval r).startRun ticket r 1
    (s.reserveRows x.rows).writeSysRows
      (x.rows.map fun i => { row := i, image := { s.imageAt i with valid := false } }) x.rows

/-- The region as its command leaves it. -/
def regionTaken (s : State) (r kind : Nat) : State :=
  match kind with
  | 0 => s.modRegion r fun y => { y with st := .active }
  | 1 => s.modRegion r fun _ => {}
  | _ => s

/-- The last row of a region command is written: purge, then the drain. -/
def regionWritten (s : State) : State :=
  match s.tenant.regionRun with
  | none => s
  | some j =>
    let x := s.region j.region
    let s := s.regionTaken j.region j.kind
    let s := { s with tenant := { s.tenant with regionRun := none } }
    let s := s.purgeRegion j.region ((x.desc1, x.desc0) :: j.before.toList)
    s.startDrain (some j.ticket) j.region (if j.kind = 1 then 1 else 0) (s.purgedUnits x.desc1) none j.before

/-- LOOKASIDE_FLUSH: every entry of every buffer goes, and the answer waits for the drain (R50). -/
def flushLookaside (s : State) (flush : Option (Client × Word128)) : State :=
  let units := (List.range 128).map LookUnit.quad ++ (List.range 32).map LookUnit.qp
  let s := units.foldl (fun s u => s.modLook u fun l => { l with purges := l.purges + 1, entries := [] }) s
  s.startDrain none 0 2 units flush

/-- Whether a drain has ended: nothing that it waits for is held any more. -/
def drained (s : State) (d : RegionDrain) : Bool := d.txns.all fun id => (s.txn id).isNone

/-- The end of a drain (R45): a deleted region's binding is cleared (R228), and the command ends. -/
def endDrain (s : State) (d : RegionDrain) : State :=
  let s := if d.code = 1 && (s.region d.region).st != .active && (s.region d.region).st != .committing then
      { s with prot := { s.prot with binding := Table.set 0 s.prot.binding d.region 0 } }
    else s
  match d.ticket with
  | some t => s.endCmd t 0
  | none => s

/-! ### After an apply group -/

/-- The group that is first in the list is written, or its mark passed, and what follows it happens (R193). -/
def applyGroup (s : State) (g : ApplyGroup) : State :=
  let s := s.writeGroup g
  let s := if g.applies.isEmpty then s else s.count 1538
  if g.after = .region then s.regionWritten else s.afterApply g.after

/-- The marks behind a group that has been written pass with it. -/
def passMarks : Nat → State → State
  | 0, s => s
  | n + 1, s =>
    match s.search.groups with
    | [] => s
    | g :: _ => if g.applies.isEmpty then passMarks n (s.applyGroup g) else s

/-- The group at the head of APPLY is written when nothing fires its banks (R193). -/
def applyHead (s : State) : State :=
  match s.search.groups with
  | [] => s
  | g :: _ => if s.groupReady g then passMarks s.search.groups.length (s.applyGroup g) else s

end State

/-- APPLY_GROUP_WRITE (R193). -/
def execApplyGroupWrite (s : State) : Host.Outcome State Fault Refusal := run .applyGroupWrite s State.applyHead

end Sys2Proof.Machine
end

