-- ==== Sys2Proof/Machine/Cascade.lean ====
section
/-! DEFINITION. Searches that leave the device: launch, parts at members and relays, answers, release, and the delivery of results (R188, R195, R217 to R220, R352 to R354). -/

namespace Sys2Proof.Machine

/-! ### SRCH messages (R352) -/

/-- A part request. -/
def partMessage (chart gen stamp launch : Nat) (key : BitVec 512) (width : Nat) : WibMessage :=
  beBytes (5 * 2 ^ 61 + chart % 256 * 2 ^ 50 + gen % 16 * 2 ^ 46 + stamp % 2 ^ 32 * 2 ^ 14 + launch % 4096) 8 ++
    leBytes key.toNat (keyBits width / 8)

/-- A part answer. -/
def answerMessage (a : PartAnswer) : WibMessage :=
  beBytes (5 * 2 ^ 61 + 2 ^ 58 + a.reason % 8 * 2 ^ 54 + a.lacked.toNat) 8 ++ leBytes a.result.toNat 16

/-- The LAUNCH field of a launch instant: canal time [13:2] (R352). -/
def launchField (t : Nat) : Nat := bits t 2 12

/-! ### Combining answers (R219) -/

/-- The better of two records: higher PRIORITY, then lower SOURCE_DEV, then lower INDEX. -/
def betterRecord (a b : BitVec 128) : BitVec 128 :=
  if !rrMatch b then a
  else if !rrMatch a then b
  else if rrPriority a ≠ rrPriority b then (if rrPriority a < rrPriority b then b else a)
  else if rrSource a ≠ rrSource b then (if rrSource b < rrSource a then b else a)
  else if rrIndex b < rrIndex a then b else a

/-- The combined record of several answers. -/
def combine (own : Nat) (l : List (BitVec 128)) (failed incomplete : Bool) : BitVec 128 :=
  let n := min 1023 (l.foldl (fun n r => n + rrMatches r) 0)
  let best := l.foldl betterRecord 0
  if failed || !rrMatch best then mkResult 0 0 0 own n failed incomplete false
  else mkResult (rrDatum best) (rrPriority best) (rrIndex best) (rrSource best) n false incomplete true

namespace State

/-! ### Parts (R217, R218) -/

def modPart (s : State) (id : Nat) (f : Part → Part) : State :=
  { s with search := { s.search with parts := mapIf (·.id == id) f s.search.parts } }

def dropPart (s : State) (id : Nat) : State :=
  { s with search := { s.search with parts := s.search.parts.filter (·.id != id) } }

def modLaunch (s : State) (id : Nat) (f : Launch → Launch) : State :=
  { s with search := { s.search with launches := mapIf (·.id == id) f s.search.launches } }

/-- A part enters the CASCADE class of this device. -/
def enterPart (s : State) (p : Part) : State :=
  let r : SearchReq := { id := p.id, chart := p.chart, key := p.key, cls := SearchClass.cascade
                         source := SearchFor.cascade p.id, arrived := s.now }
  { s with search := { s.search with parts := s.search.parts ++ [p], waiting := s.search.waiting ++ [r] } }

/-- Send a part request on a link, and expect the answer of a device in the link's order (R353). -/
def sendPart (s : State) (l dev chart launch : Nat) (key : BitVec 512) : State :=
  let x := s.chart chart
  (s.modLink l fun k => { k with srchOut := k.srchOut ++ [(dev, launchField launch)] }).sendOn l
    (partMessage chart x.generation (chartStamp x) (launchField launch) key (cdWidth x.desc1))

/-- Send the answers of a link that are ready and have no earlier part before them (R353). -/
def flushLink (s : State) (l : Nat) : Nat → State
  | 0 => s
  | n + 1 =>
    match s.search.parts.find? (·.link == some l) with
    | none => s
    | some p =>
      match p.answer with
      | none => s
      | some a => ((s.dropPart p.id).sendOn l (answerMessage a)).flushLink l n

/-- An arrived part has its answer. -/
def answerPart (s : State) (p : Part) (a : PartAnswer) : State :=
  match p.link with
  | some l => (s.modPart p.id fun p => { p with answer := some a }).flushLink l s.search.parts.length
  | none => s.dropPart p.id

/-- A relay sends its combined answer: the members it lacked are listed (R218). A part that it only passes on has no answer yet, and is LATE when nothing else was the reason. -/
def relayAnswer (s : State) (p : Part) : State :=
  if p.pass then s.answerPart p { result := 0, reason := if p.reason = 0 then 5 else p.reason, lacked := 0 }
  else
    let lacked := p.lacked ++ p.fanout.map (· % 32)
    s.answerPart p { result := combine s.deviceNumber p.answers false false, reason := 0
                     lacked := BitVec.ofNat 32 (lacked.foldl (fun n d => if n.testBit d then n else n + 2 ^ d) 0) }

/-- A relay has an answer, or the lack of one, from a member of its flight. -/
def relayGets (s : State) (id member : Nat) (a : PartAnswer) : State :=
  match s.search.parts.find? fun p => p.id == id && p.relay && p.fanout.contains member with
  | none => s
  | some p =>
    let q := { p with
      fanout := p.fanout.erase member
      answers := if a.reason = 0 then p.answers ++ [a.result] else p.answers
      lacked := if a.reason = 0 then p.lacked else p.lacked ++ [member % 32]
      reason := if a.reason = 0 then p.reason else a.reason }
    let s := s.modPart id fun _ => q
    if p.pass then s.answerPart q a else if q.fanout.isEmpty then s.relayAnswer q else s

/-! ### The origin (R218 to R220) -/

/-- Members whose parts of an own launch are absent for a reason; the reason found first stands. -/
def launchLacks (l : Launch) (devs : List Nat) (reason : Nat) : Launch :=
  { l with absent := l.absent ++ (devs.filter fun d => !l.absent.any (·.1 == d)).map fun d => (d, reason) }

/-- The members that one awaited answer stands for: a whole other flight behind its relay, in CANAL charts. -/
def standsFor (x : Chart) (own dev : Nat) : List Nat :=
  if cdSpan x.desc1 = 3 && dev / 32 != own / 32 then x.members.filter fun d => d / 32 == dev / 32 else [dev]

/-- An awaited answer of an own launch arrives. -/
def launchGets (s : State) (id dev : Nat) (a : PartAnswer) : State :=
  let own := s.deviceNumber
  s.modLaunch id fun l =>
    let x := s.chart l.chart
    let l := { l with waiting := l.waiting.erase dev }
    if a.reason ≠ 0 then launchLacks l (standsFor x own dev) a.reason
    else launchLacks { l with answers := l.answers ++ [a.result] } ((standsFor x own dev).filter fun d => a.lacked.getLsbD (d % 32)) 5

/-- A part searched here, or not, gives its answer to its link, its relay or its launch. -/
def partDone (s : State) (id : Nat) (a : PartAnswer) : State :=
  match s.search.parts.find? (·.id == id) with
  | none => s
  | some p =>
    match p.own, p.parent with
    | some l, _ => (s.dropPart id).launchGets l s.deviceNumber a
    | _, some r => (s.dropPart id).relayGets r s.deviceNumber a
    | none, none => s.answerPart p a

/-- A link of a pair that carries SRCH. -/
def srchLinkOf (s : State) (pair : Nat → Nat) : Option Nat :=
  ([0, 1].find? fun b => s.linkSrch (pair b)).map fun b => s.spareFor (pair b)

/-- The direct flight link to a position. -/
def flightSrch (s : State) (p : Nat) : Option Nat := s.srchLinkOf (flightLink s.position p)

/-- The reach link to another flight. -/
def reachSrch (s : State) (f : Nat) : Option Nat := s.srchLinkOf (reachLink s.flight f)

/-- Why a member is absent at launch by its membership: 1 DEPARTED, 2 QUARANTINED (R219). A member that left with an update pending for it takes no part until that is applied (R208). -/
def absentNow (s : State) (chart dev : Nat) : Option Nat :=
  if s.isQuarantined dev then some 2
  else if !s.isActiveMember dev || s.search.pendingNotes.any (fun n => n.device == dev && n.chart == chart && n.left) then some 1
  else none

/-- Whether a link of a device of this flight carries SRCH: its own, or as the link-state exchange reports (R354). -/
def deviceLink (s : State) (dev l : Nat) : Bool := if dev = s.deviceNumber then s.linkSrch l else s.peerLinkUp dev l

/-- The position over which an origin of this flight reaches another flight's members: its own, or the lowest p′ whose links to it and whose reach links to the flight are up (R218). -/
def relayPosition (s : State) (origin f : Nat) : Option Nat :=
  let q := origin % 32
  let reach (d : Nat) : Bool := [0, 1].any fun b => s.deviceLink d (reachLink s.flight f b)
  if s.goodMember (f * 32 + q) && reach origin then some q
  else (List.range s.flightSize).find? fun p => p != q && s.goodMember (f * 32 + p) && reach (s.flight * 32 + p) &&
    [0, 1].any fun b => s.deviceLink origin (flightLink q p b)

/-- The relay for another flight and the own link toward it (R218). -/
def relayFor (s : State) (f : Nat) : Option (Nat × Nat) :=
  (s.relayPosition s.deviceNumber f).bind fun p =>
    (if p = s.position then s.reachSrch f else s.flightSrch p).map (f * 32 + p, ·)

/-- Send an own launch's part for one device of the chart, or note why it is absent. -/
def launchTo (s : State) (id dev : Nat) : State :=
  match s.search.launches.find? (·.id == id) with
  | none => s
  | some l =>
    let own := s.deviceNumber
    let lack (reason : Nat) : State := s.modLaunch id fun l => launchLacks l [dev] reason
    let go (link : Option Nat) : State :=
      match link with
      | none => lack 3
      | some k => (s.modLaunch id fun l => { l with waiting := l.waiting ++ [dev] }).sendPart k dev l.chart l.launch l.key
    if dev = own then
      let (pid, s) := s.fresh
      let s := s.modLaunch id fun l => { l with waiting := l.waiting ++ [dev] }
      s.enterPart { id := pid, link := none, chart := l.chart, key := l.key, arrived := s.now, launch := launchField l.launch, own := some id }
    else match s.absentNow l.chart dev with
      | some r => lack r
      | none =>
        if cdSpan (s.chart l.chart).desc1 = 1 then go (s.pathTo dev 0 linkSrch) else go (s.flightSrch (dev % 32))

/-- Send an own launch's part for another flight to its relay. What this device knows of the flight's members at launch stands: DEPARTED, QUARANTINED, and NO_PATH for every other one where there is no relay (R219). -/
def launchFlight (s : State) (id f : Nat) : State :=
  match s.search.launches.find? (·.id == id) with
  | none => s
  | some l =>
    let members := (s.chart l.chart).members.filter fun d => d / 32 == f
    let known (r : Nat) := members.filter fun d => s.absentNow l.chart d == some r
    let s := s.modLaunch id fun l => launchLacks (launchLacks l (known 1) 1) (known 2) 2
    match s.relayFor f with
    | some (dev, k) => (s.modLaunch id fun l => { l with waiting := l.waiting ++ [dev] }).sendPart k dev l.chart l.launch l.key
    | none => s.modLaunch id fun l => launchLacks l members 3

/-- CASCADE_LAUNCH: a queue search of a span chart is accepted into the CASCADE class (R218). -/
def launchSearch (s : State) (r : SearchReq) : State :=
  let s := { s with search := { s.search with waiting := s.search.waiting.filter (·.id != r.id) } }
  let (s, bad, key) := s.checkKey r.key
  let s := s.checkChartWord r.chart
  let x := s.chart r.chart
  let own := s.deviceNumber
  let l : Launch := { id := r.id, source := r.source, chart := r.chart, key := key, launch := s.canalTime, started := s.now
                      waiting := [], failed := bad || x.badWord }
  let s := ({ s with search := { s.search with launches := s.search.launches ++ [l] } } : State).bump64 0x3430 1
  let here := match cdSpan x.desc1 with
    | 1 => [Table.get 0 x.dmap (selectValue key (dselPositions x.desc1 x.desc0))]
    | _ => x.members.filter fun d => d / 32 == own / 32
  let s := here.foldl (fun s d => s.launchTo r.id d) s
  if cdSpan x.desc1 = 3 then
    ((List.range 32).filter fun f => f != own / 32 && x.members.any fun d => d / 32 == f).foldl (fun s f => s.launchFlight r.id f) s
  else s

/-- CASCADE_LAUNCH of a request that waits to be launched. -/
def launch (s : State) (id : Nat) : State :=
  match s.search.waiting.find? fun r => r.id == id && s.isSpan r with
  | none => s
  | some r => s.launchSearch r

/-- Hand a result record to the queue that searched. -/
def deliverRecord (s : State) (src : SearchFor) (r : BitVec 128) : State :=
  match src with
  | .queue q pos part => s.toQueue { queue := q, pos := pos, part := part, record := some r }
  | _ => s

/-- A search window of a chart is missed: it is counted, and event 5106 is raised once per chart and interval (R9, R220, R293). -/
def windowMissed (s : State) (chart dev reason : Nat) : State :=
  let s := s.deadlineMiss 4
  let due := match (s.chart chart).logged5106 with
    | none => true
    | some t => decide (t + s.reg 0x3400 5 * 1000 ≤ s.now)
  if !due then s
  else (s.modChart chart fun x => { x with logged5106 := some s.now }).logEvent
    { code := 0x5106, cls := .contained, ownInterval := true, detail := .peer dev chart reason 0 0 }

/-- Event 5106 and the counts of an INCOMPLETE result (R220). The first absent device is the first that was found absent: those known at launch in the order of the launch, then those of the answers in the order in which they came, then those still awaited (DESIGN CHOICE: the manual gives no order). -/
def noteIncomplete (s : State) (l : Launch) : State :=
  match l.absent with
  | [] => s
  | (dev, reason) :: _ =>
    let s := s.bump64 0x3430 2
    let s := { s with search := { s.search with
        peerAbsent := l.absent.foldl (fun t (p : Nat × Nat) =>
          Table.modify (0, 0) t p.1 fun (v : Nat × Nat) => (sat32 (v.1 + 1), p.2)) s.search.peerAbsent } }
    s.windowMissed l.chart dev reason

/-- Release an own launch with what has arrived (R219). -/
def releaseLaunch (s : State) (l : Launch) : State :=
  let x := s.chart l.chart
  let own := s.deviceNumber
  let l := l.waiting.foldl (fun l d => launchLacks l (standsFor x own d) 5) l
  let s := { s with search := { s.search with
      launches := s.search.launches.filter (·.id != l.id)
      waiting := s.search.waiting.filter fun r => !(s.search.parts.any fun p => p.own == some l.id && p.id == r.id)
      parts := s.search.parts.filter fun p => p.own != some l.id } }
  let s := if l.failed then s.count 1547 else s
  (s.noteIncomplete l).deliverRecord l.source (combine own l.answers l.failed (!l.absent.isEmpty))

/-- The release instant of a launch in canal time, whose ticks are 250 ps (R24, R218, R363). -/
def releaseAt (s : State) (l : Launch) : Nat := l.launch + 4 * cdLatency (s.chart l.chart).desc0

/-- CASCADE_RELEASE: DECL_LATENCY after the launch cycle, on the canal-time count (R24, R218). -/
def release (s : State) (id : Nat) : State :=
  match s.search.launches.find? (·.id == id) with
  | none => s
  | some l => if s.canalTime < s.releaseAt l then s else s.releaseLaunch l

/-- Whether an answer comes by the arrival deadline (R218). -/
def inTime (s : State) (l : Launch) : Bool :=
  decide (s.canalTime + 4 * (if cdSpan (s.chart l.chart).desc1 = 1 then 2 else 4) ≤ s.releaseAt l)

/-- PART_ANSWER: an answer arrives at its origin or relay. -/
def partAnswered (s : State) (link member launch : Nat) (a : PartAnswer) : State :=
  let s := s.modLink link fun k => { k with srchOut := k.srchOut.erase (member, launch % 4096) }
  match s.search.parts.find? fun p => p.relay && p.launch == launch % 4096 && p.fanout.contains member && p.answer.isNone with
  | some p => s.relayGets p.id member a
  | none =>
    match s.search.launches.find? fun l => launchField l.launch == launch % 4096 && l.waiting.contains member with
    | some l => if s.inTime l then s.launchGets l.id member a else s.bump64 0x3430 5
    | none => s.bump64 0x3430 5

/-! ### Arrival of a part (R217, R218) -/

/-- Whether a part request's generation and stamp are accepted (R217). -/
def partAccepted (s : State) (chart gen : Nat) (stamp : BitVec 32) : Bool :=
  let x := s.chart chart
  (x.st == .valid || x.st == .moving) &&
    ((gen % 16 == x.generation % 16 && stamp.toNat == chartStamp x) ||
      (gen % 16 == (x.generation + 15) % 16 && stamp.toNat == x.prevStamp && decide (s.now ≤ x.changedAt + 10000)))

/-- Event 5107, once per chart and interval (R217). -/
def noteMismatch (s : State) (chart link : Nat) : State :=
  let due := match (s.chart chart).logged5107 with
    | none => true
    | some t => decide (t + s.reg 0x3400 5 * 1000 ≤ s.now)
  if !due then s
  else (s.modChart chart fun x => { x with logged5107 := some s.now }).logEvent
    { code := 0x5107, cls := .contained, ownInterval := true, detail := .peer (s.linkAt link).peerDevice chart 6 0 0 }

/-- A relay passes a part on to one device, or lacks it. -/
def fanTo (s : State) (id dev : Nat) (link : Option Nat) : State :=
  match s.search.parts.find? (·.id == id) with
  | none => s
  | some p =>
    match s.absentNow p.chart dev, link with
    | none, some l =>
      (s.modPart id fun p => { p with fanout := p.fanout ++ [dev] }).sendPart l dev p.chart (p.launch * 4) p.key
    | r, _ => s.modPart id fun p => { p with lacked := p.lacked ++ [dev % 32], reason := r.getD 3 }

/-- A part for this device alone, from a link or for a relay. -/
def servePart (s : State) (link : Option Nat) (parent : Option Nat) (chart launch : Nat) (key : BitVec 512) : State :=
  let (id, s) := s.fresh
  s.enterPart { id := id, link := link, chart := chart, key := key, arrived := s.now, launch := launch, parent := parent }

/-- A part to be relayed. -/
def relayPart (s : State) (link chart launch : Nat) (key : BitVec 512) (targets : List (Nat × Option Nat)) (own pass : Bool) : State :=
  let (id, s) := s.fresh
  let p : Part := { id := id, link := some link, chart := chart, key := key, arrived := s.now, launch := launch, relay := true
                    fanout := if own then [s.deviceNumber] else [], pass := pass }
  let s := { s with search := { s.search with parts := s.search.parts ++ [p] } }
  let s := targets.foldl (fun s t => s.fanTo id t.1 t.2) s
  let s := if own then s.servePart none (some id) chart launch key else s
  match s.search.parts.find? (·.id == id) with
  | some p => if p.fanout.isEmpty then s.relayAnswer p else s
  | none => s

/-- The device of this flight at the other end of a flight link. -/
def flightPeer (s : State) (link : Nat) : Nat := (s.linkAt link).peerDevice

/-- Note a CANAL part request that comes on a flight link, and count those of its launch before it. -/
def noteFlightPart (s : State) (origin chart launch : Nat) : State × Nat :=
  let (c, t, n) := Table.get (0, 0, 0) s.search.lastParts origin
  let n := if c = chart && t = launch then n else 0
  ({ s with search := { s.search with lastParts := Table.set (0, 0, 0) s.search.lastParts origin (chart, launch, n + 1) } }, n)

/-- The other flights whose parts an origin sends over this device, in order (R218). -/
def detoursFor (s : State) (origin : Nat) (x : Chart) : List Nat :=
  (List.range 32).filter fun f => f != s.flight && (x.members.any fun d => d / 32 == f) && s.relayPosition origin f == some s.position

/-- PART_REQUEST: a part arrives on a link. From a reach link a CANAL part is fanned out; a ROUTED part for another device is passed on; any other part is searched here. On a flight link an origin's parts for this member come first and those of the flights that it reaches over this device behind them, in order; the request names no flight, so their number tells them apart (DEDUCED, R218, R352). -/
def partArrives (s : State) (link chart gen : Nat) (stamp : BitVec 32) (launch : Nat) (key : BitVec 512) : State :=
  let launch := launch % 4096
  let own := s.deviceNumber
  let refuse (s : State) (reason : Nat) : State :=
    let (id, s) := s.fresh
    let p : Part := { id := id, link := some link, chart := chart, key := key, arrived := s.now, launch := launch }
    ({ s with search := { s.search with parts := s.search.parts ++ [p] } } : State).answerPart p { result := 0, reason := reason, lacked := 0 }
  if s.power.device = .warmResetting then refuse (s.bump64 0x3430 4) 4
  else if !s.partAccepted chart gen stamp then refuse (s.noteMismatch chart link) 6
  else
    let x := s.chart chart
    let reach := decide (62 ≤ link) && decide (link < 124)
    match cdSpan x.desc1 with
    | 1 =>
      let target := Table.get 0 x.dmap (selectValue key (dselPositions x.desc1 x.desc0))
      if target = own then s.servePart (some link) none chart launch key
      else s.relayPart link chart launch key
        [(target, if target / 32 = own / 32 then s.flightSrch (target % 32) else s.reachSrch (target / 32))] false true
    | 3 =>
      if reach then
        s.relayPart link chart launch key
          ((x.members.filter fun d => d / 32 == own / 32 && d != own).map fun d => (d, s.flightSrch (d % 32))) (x.members.contains own) false
      else
        let origin := s.flightPeer link
        let (s, n) := s.noteFlightPart origin chart launch
        match (if n = 0 then none else (s.detoursFor origin x)[n - 1]?) with
        | some f => s.relayPart link chart launch key [(f * 32 + s.position, s.reachSrch f)] false true
        | none => s.servePart (some link) none chart launch key
    | _ => s.servePart (some link) none chart launch key

/-- PART_NO_SLOT: a part was not issued within 8 cycles (R218). -/
def partNoSlot (s : State) (id : Nat) : State :=
  match s.search.waiting.find? fun r => r.id == id && r.cls == .cascade with
  | none => s
  | some r =>
    if s.now < r.arrived + 8 then s
    else
      let s := { s with search := { s.search with waiting := s.search.waiting.filter (·.id != id) } }
      (s.bump64 0x3430 4).partDone id { result := 0, reason := 4, lacked := 0 }

/-- The deadline of a relayed part, in ticks of canal time after the launch: 295.5 ns; of a detour that is only passed on, the 365 ns after which its answer could not reach the origin by 426 ns any more (DESIGN CHOICE: the manual gives that one no deadline; R218). -/
def relayLimit (x : Chart) (p : Part) : Nat := if p.pass && cdSpan x.desc1 = 3 then 1460 else 1182

/-- RELAY_DEADLINE: an answer that is not complete by the deadline leaves as it is (R218). -/
def relayDue (s : State) (id : Nat) : State :=
  match s.search.parts.find? fun p => p.id == id && p.relay && p.answer.isNone with
  | none => s
  | some p =>
    let elapsed := (s.canalTime + 16384 - p.launch * 4) % 16384
    if elapsed < relayLimit (s.chart p.chart) p || decide (8192 ≤ elapsed) then s
    else
      let s := { s with search := { s.search with
          waiting := s.search.waiting.filter fun r => !(s.search.parts.any fun q => q.parent == some id && q.id == r.id)
          parts := s.search.parts.filter fun q => q.parent != some id } }
      s.relayAnswer p

/-! ### Delivery of a search result (R188, R197) -/

/-- SEARCH_RESULT: 28 ns after issue the record is delivered to the unit that asked; the search window of a LOCAL result that is delivered later is missed (R9, R293). -/
def searchResult (s : State) (id : Nat) : State :=
  match s.search.runs.find? fun r => r.id == id && r.source != SearchFor.cascade 0 with
  | none => s
  | some r =>
    if s.now < r.issued + 28 then s
    else
      let s := { s with search := { s.search with runs := s.search.runs.filter (·.id != id) } }
      let late := r.issued + 28 < s.now && (match r.source with
        | .cascade _ => false
        | _ => true)
      let s := if late then s.windowMissed r.chart s.deviceNumber 5 else s
      match r.source with
      | .lookup u =>
        s.modLook u fun l => { l with misses := mapIf (·.search == id) (fun m => { m with result := some r.result }) l.misses }
      | .queue q pos part => s.toQueue { queue := q, pos := pos, part := part, record := some r.result }
      | .cascade pid =>
        let other := (s.search.parts.find? (·.id == pid)).any (·.own.isNone)
        let s := if other then s.bump64 0x3430 3 else s
        s.partDone pid { result := r.result, reason := if rrError r.result then 7 else 0, lacked := 0 }

end State

/-! ### Rows -/

/-- SEARCH_RESULT (R188). -/
def execSearchResult (id : Nat) (s : State) : Host.Outcome State Fault Refusal := run (.searchResult id) s fun s => s.searchResult id

/-- CASCADE_LAUNCH (R218). -/
def execCascadeLaunch (id : Nat) (s : State) : Host.Outcome State Fault Refusal := run (.cascadeLaunch id) s fun s => s.launch id

/-- PART_REQUEST (R217). -/
def execPartRequest (link chart gen : Nat) (stamp : BitVec 32) (launch : Nat) (key : BitVec 512) (s : State) :
    Host.Outcome State Fault Refusal :=
  run (.partRequest link chart gen stamp launch key) s fun s => s.partArrives link chart gen stamp launch key

/-- PART_NO_SLOT (R218). -/
def execPartNoSlot (id : Nat) (s : State) : Host.Outcome State Fault Refusal := run (.partNoSlot id) s fun s => s.partNoSlot id

/-- PART_ANSWER (R219). -/
def execPartAnswer (link member launch : Nat) (answer : PartAnswer) (s : State) : Host.Outcome State Fault Refusal :=
  run (.partAnswer link member launch answer) s fun s => s.partAnswered link member launch answer

/-- RELAY_DEADLINE (R218). -/
def execRelayDeadline (id : Nat) (s : State) : Host.Outcome State Fault Refusal := run (.relayDeadline id) s fun s => s.relayDue id

/-- CASCADE_RELEASE (R219). -/
def execCascadeRelease (id : Nat) (s : State) : Host.Outcome State Fault Refusal := run (.cascadeRelease id) s fun s => s.release id

end Sys2Proof.Machine
end

