-- ==== Sys2Proof/Machine/Queues.lean ====
section
/-! DEFINITION. Work queues: queue control, doorbells, Chamber RAM, the fetch and the issue of entries with their order, sector operations, fences, completions and interrupts (R133 to R168, R278, R336). -/

namespace Sys2Proof.Machine

/-! ### Configuration word (R167) -/

def qcStrict (w : Word128) : Bool := w.getLsbD 127
def qcHost (w : Word128) : Bool := w.getLsbD 126
def qcErrIntr (w : Word128) : Bool := w.getLsbD 125
def qcSqLog (w : Word128) : Nat := fld w 120 5
def qcCqLog (w : Word128) : Nat := fld w 115 5
def qcPort (w : Word128) : Nat := fld w 108 7
def qcAgent (w : Word128) : Nat := 8192 + fld w 95 13
def qcVector (w : Word128) : Nat := fld w 84 11
def qcDepth (w : Word128) : Nat := fld w 76 8

/-- The sizes of the rings. -/
def Queue.sqSize (q : Queue) : Nat := 2 ^ qcSqLog q.cfg
def Queue.cqSize (q : Queue) : Nat := 2 ^ qcCqLog q.cfg

/-- Whether the queue fetches. -/
def Queue.fetches (q : Queue) : Bool := q.st == .active || q.st == .recovery

/-- The Chamber RAM areas of a queue: start and length. -/
def Queue.areas (q : Queue) : List (Nat × Nat) :=
  if qcHost q.cfg then []
  else [(q.sqBase, 64 * q.sqSize), (q.cqBase, 16 * q.cqSize)] ++ if q.dataSize = 0 then [] else [(q.dataBase, q.dataSize)]

/-- Positions counted modulo 2N: how far `a` lies ahead of `b`. -/
def ahead (a b n : Nat) : Nat := (a % (2 * n) + 2 * n - b % (2 * n)) % (2 * n)

/-- Whether two areas overlap. -/
def areasMeet (a b : Nat × Nat) : Bool := decide (a.1 < b.1 + b.2) && decide (b.1 < a.1 + a.2)

/-- The Chamber RAM area of a dump ring. -/
def ringArea (r : DumpRing) : List (Nat × Nat) :=
  if drHost r.cfg then [] else [(r.base, 2 ^ drSizeLog2 r.cfg * drRecordBytes r.cfg)]

/-- Pointers at 0 and the recovery flag set (R137). -/
def Queue.restart (x : Queue) : Queue :=
  { x with sqHead := 0, sqTail := 0, cqHead := 0, cqTail := 0, recoveryFlag := true, resetPending := false, st := .disabled }

/-- An entry that DISABLE meets: not issued, it is ABORTED, a WRITE that has not left the store buffer too (R153); a bulk command stops at its next sector boundary (R136). -/
def QEntry.abort (e : QEntry) : QEntry :=
  if e.ended then e
  else if !e.issued then { e with ended := true, status := 11 }
  else if e.opcode = 0x20 || e.opcode = 0x21 then
    if e.stopped then e else { e with stopped := true, status := 11 }
  else e

def QEntry.isLoad (e : QEntry) : Bool := e.opcode == 1

def QEntry.isStore (e : QEntry) : Bool := e.opcode == 2

def QEntry.isAtomic (e : QEntry) : Bool := e.opcode == 0x10 || e.opcode == 0x11 || e.opcode == 0x12

def QEntry.isFence (e : QEntry) : Bool := e.opcode == 0x40 || e.opcode == 0x41 || e.opcode == 0x42

/-- Whether a store's bytes overlap a range. -/
def QStore.meets (t : QStore) (off len : Nat) : Bool := areasMeet (t.offset, t.len) (off, len)

/-- Whether a COPY goes from its last sector down: the ranges overlap and the destination lies above the source. -/
def QEntry.descending (e : QEntry) : Bool :=
  areasMeet (e.addr0, 64 * e.length) (e.addr1, 64 * e.length) && decide (e.addr1 < e.addr0)

/-- The sector that the `i`-th operation of a bulk command works on. -/
def QEntry.sectorNo (e : QEntry) (i : Nat) : Nat := if e.descending then e.length - 1 - i else i

/-- The reads of the first `i + 1` sectors of a COPY have returned. -/
def QEntry.readThrough (e : QEntry) (i : Nat) : Bool := (List.range (min e.readsIssued (i + 1) - min e.next (i + 1))).all fun k =>
  !(e.out.contains (2 * (e.next + k)))

namespace State

/-- Whether a port is host-facing: the role of its first quad is HOST (R331). -/
def hostFacing (s : State) (p : Nat) : Bool := Table.get 0 s.link.quads (pcFirstQuad (s.port p).cfg) == 1

/-- An event of a queue: logged, and kept as the queue's last (R166, R168). -/
def queueEvent (s : State) (q code : Nat) (cls : FaultClass) : State :=
  (s.modQueue q fun x => { x with lastEvent := code }).raise code cls (.count q 0) (some (qcPort (s.queueAt q).cfg))

/-! ### Chamber RAM (R15, R277 to R279) -/

def chamberPoisoned (s : State) (w : Nat) : Bool := s.queue.chamberPoison.contains w

def setChamberPoison (s : State) (w : Nat) (p : Bool) : State :=
  { s with queue := { s.queue with
      chamberPoison := if p then (if s.chamberPoisoned w then s.queue.chamberPoison else s.queue.chamberPoison ++ [w])
        else s.queue.chamberPoison.filter (· != w) } }

/-- A word is stored with the bits of `e` of its codeword flipped, and correct check bits (R274, R275). -/
def flipChamber (s : State) (w : Nat) (e : BitVec 138) : State :=
  if e = 0 then s
  else
    let b := flipBytes (memRead s.queue.chamber (16 * w) 16) 0 (eccDataFlips e)
    let s := s.setChamberPoison w (s.chamberPoisoned w != e.getLsbD 137)
    { s with queue := { s.queue with chamber := memWrite s.queue.chamber (16 * w) b } }

/-- Read a word through its checker: whether it reads as poison (R277). -/
def checkChamber (s : State) (w : Nat) (src : Source) : State × Bool :=
  let e := s.damageAt 368 w
  if e = 0 then (s, s.chamberPoisoned w)
  else
    let v := eccCheck e
    let syn := syndromeField v
    let src := s.errSource 368 w src
    let det : Detail := .location 368 w syn 0
    match v with
    | .clean =>
      let s := (s.setDamage 368 w 0).flipChamber w (eccResidue e)
      (s, s.chamberPoisoned w)
    | .correctable _ =>
      let s := ((s.setDamage 368 w 0).flipChamber w (eccResidue e)).reportError 368 false
        { code := 0x7002, cls := .note, source := src, detail := det } w syn
      (s, s.chamberPoisoned w)
    | .uncorrectable _ _ =>
      (s.reportError 368 true { code := 0x7003, cls := .contained, source := src, detail := det } w syn, true)

/-- The words that hold `n` bytes from an address up. -/
def chamberWords (a n : Nat) : List Nat := (List.range ((a % 16 + n + 15) / 16)).map (a / 16 + ·)

/-- Bytes of words that keep an error: as their cells give them (R274, R277). -/
def chamberRaw (s : State) (a : Nat) (b : List Byte) : List Byte :=
  b.mapIdx fun i x => x ^^^ BitVec.ofNat 8 (fld (eccDataFlips (s.damageAt 368 ((a + i) / 16))) (8 * ((a + i) % 16)) 8)

/-- Read bytes: whether any of their words reads as poison. -/
def chamberRead (s : State) (a n : Nat) : State × List Byte × Bool :=
  let (s, bad) := (chamberWords a n).foldl (init := (s, false)) fun (s, bad) w =>
    let (s, p) := s.checkChamber w .access
    (s, bad || p)
  let b := memRead s.queue.chamber a n
  (s, if bad then s.chamberRaw a b else b, bad)

/-- Prepare the write of part or all of a word: poison of the data, or of the old word under a partial write (R275, R278). -/
def chamberTouch (s : State) (a n : Nat) (poison : Bool) (w : Nat) : State :=
  let full := decide (a ≤ 16 * w) && decide (16 * w + 16 ≤ a + n)
  if full then (s.wordWritten 368 w).setChamberPoison w poison
  else
    let src := s.errSource 368 w .access
    let (s, old) := s.checkChamber w .access
    let e := s.damageAt 368 w
    let s := if e != 0 then (s.flipChamber w e).setDamage 368 w 0
      else if old then s.raise 0x7003 .contained (.location 368 w 0 0) none src else s
    (s.wordWritten 368 w).setChamberPoison w (poison || old)

/-- Write bytes, with the poison mark that comes with them. -/
def chamberWrite (s : State) (a : Nat) (b : List Byte) (poison : Bool) : State :=
  let s := (chamberWords a b.length).foldl (fun s w => s.chamberTouch a b.length poison w) s
  { s with queue := { s.queue with chamber := memWrite s.queue.chamber a b } }

/-! ### Queue control (R137, R138) -/

/-- Whether ENABLE of a queue passes the checks of R138 and R419. -/
def enableOk (s : State) (q : Nat) : Bool :=
  let x := s.queueAt q
  let mine := x.areas
  let others := (s.queue.queues.filter fun (p : Nat × Queue) => p.1 != q && p.2.st != .disabled).map fun (p : Nat × Queue) => p.2.areas
  let rings := (s.counter.rings.filter fun (p : Nat × DumpRing) => p.2.enabled).map fun (p : Nat × DumpRing) => ringArea p.2
  !s.power.windowOpen && s.hostFacing (qcPort x.cfg) && qcDepth x.cfg != 0 && decide (qcSqLog x.cfg ≤ 16) && decide (qcCqLog x.cfg ≤ 16) &&
    x.sqBase % 4096 == 0 && x.cqBase % 4096 == 0 && (qcHost x.cfg || x.dataBase % 4096 == 0) &&
    mine.all (fun a => decide (a.1 + a.2 ≤ 2 ^ 23)) &&
    !(mine.any fun a => others.flatten.any (areasMeet a) || rings.flatten.any (areasMeet a))

/-- Enter ACTIVE, or RECOVERY when the recovery flag is set. -/
def enterActive (s : State) (q : Nat) : State :=
  s.modQueue q fun x => { x with st := if x.recoveryFlag then .recovery else .active }



/-! ### Completions (R141, R142, R149, R150) -/

/-- Write bytes of a queue to its space: Chamber RAM, or host memory on HOST_PORT. False when they cannot be delivered. -/
def queueWrite (s : State) (q addr : Nat) (b : List Byte) (poison : Bool) : State × Bool :=
  let x := s.queueAt q
  if !qcHost x.cfg then
    let (s, b, lost) := s.payloadBytes 374 b
    (s.chamberWrite addr b (poison || lost), true)
  else if (s.port (qcPort x.cfg)).st == .up then
    let (s, b, lost) := s.payloadBytes 370 b
    (s.emit (.hostWrite (qcPort x.cfg) addr b (poison || lost)), true)
  else (s, false)

/-- HALTED: what was not issued is dropped, and the recovery flag clears when the queue leaves RECOVERY (R136, R137). -/
def haltQueue (s : State) (q code : Nat) : State :=
  (s.modQueue q fun x => { x with
    st := .halted, recoveryFlag := x.recoveryFlag && x.st != .recovery
    stores := x.stores.filter (·.issued), entries := x.entries.filter fun e => e.issued && !e.ended }).queueEvent q code .contained

/-- The result of an issued entry is written, in a HALTED queue too; one that cannot be delivered is discarded while the queue drains for a port reset or is HALTED, else event 4002 (R136, R164, R168). -/
def deliverResult (s : State) (q addr : Nat) (b : List Byte) (poison : Bool) : State :=
  match s.queueWrite q addr b poison with
    | (s, true) => s
    | (s, false) => if (s.queueAt q).st = .draining || (s.queueAt q).st = .halted then s else s.haltQueue q 0x4002

/-- The completion entry (Table: Completion entry). -/
def completionOf (x : Queue) (e : QEntry) : Nat :=
  (if x.cqTail / x.cqSize % 2 = 0 then 2 ^ 127 else 0) + x.sqHead % 2 ^ 17 * 2 ^ 110 + e.cid * 2 ^ 80 + e.status * 2 ^ 64 + e.detail.toNat

/-- Post one completion, with its interrupt. -/
def postOne (s : State) (q : Nat) (e : QEntry) : State :=
  let x := s.queueAt q
  let pop (s : State) (posted : Bool) : State := s.modQueue q fun x => { x with
    entries := x.entries.drop 1, cqTail := if posted then (x.cqTail + 1) % (2 * x.cqSize) else x.cqTail }
  match s.queueWrite q (x.cqBase + x.cqTail % x.cqSize * 16) (leBytes (completionOf x e) 16) false with
  | (s, true) =>
    let s := pop s true
    let p := qcPort x.cfg
    if (e.intr || (qcErrIntr x.cfg && e.status != 0)) && (s.port p).st == .up then s.emit (.msix p (qcVector x.cfg)) else s
  | (s, false) => if x.st = .draining then pop s false else s.haltQueue q 0x4002

/-- Post every completion whose turn has come; a HALTED queue discards them. -/
def postAll (s : State) (q : Nat) : Nat → State
  | 0 => s
  | n + 1 =>
    let x := s.queueAt q
    if x.st = .halted then s.modQueue q fun x => { x with entries := x.entries.filter fun e => !e.ended }
    else match x.entries with
      | e :: _ => if e.ended then (s.postOne q e).postAll q n else s
      | [] => s

def post (s : State) (q : Nat) : State := s.postAll q ((s.queueAt q).entries.length + 1)

def modEntryAt (s : State) (q pos : Nat) (f : QEntry → QEntry) : State :=
  s.modQueue q fun x => { x with entries := mapIf (·.pos == pos) f x.entries }

def entryIn (s : State) (q pos : Nat) : Option QEntry := (s.queueAt q).entries.find? (·.pos == pos)

/-- End an entry with a status. -/
def endEntry (s : State) (q pos status : Nat) (detail : Nat) : State :=
  s.modEntryAt q pos fun e => { e with
    ended := true, issued := true, status := status, detail := BitVec.ofNat 64 (detail + if status = 0 && e.split then 2 else 0) }

/-! ### The control writes (R137) -/

/-- ENABLE, none when refused. -/
def queueEnable (s : State) (q : Nat) : Option State :=
  match (s.queueAt q).st with
  | .disabled => if s.enableOk q then some (s.enterActive q) else none
  | .active | .recovery => some s
  | .draining => if (s.queueAt q).deferredEnable || s.power.windowOpen then none else some (s.modQueue q fun x => { x with deferredEnable := true })
  | .halted => none

/-- DISABLE. -/
def queueDisable (s : State) (q : Nat) : Option State :=
  match (s.queueAt q).st with
  | .active | .recovery =>
    let s := s.modQueue q fun x => { x with
      st := .draining, recoveryFlag := if x.st = .recovery then false else x.recoveryFlag, entries := x.entries.map QEntry.abort
      stores := x.stores.filter (·.issued) }
    let s := s.modQueue q fun x => { x with
      entries := mapIf (fun e => e.stopped && e.out.isEmpty && e.copied.isEmpty && !e.ended)
        (fun e => { e with ended := true, detail := BitVec.ofNat 64 (e.done * 2 ^ 32) }) x.entries }
    some (s.post q)
  | .draining => some (s.modQueue q fun x => { x with deferredEnable := false })
  | _ => some s

/-- RESET, none when refused. -/
def queueReset (s : State) (q : Nat) : Option State :=
  match (s.queueAt q).st with
  | .disabled => some (s.modQueue q Queue.restart)
  | .halted =>
    if (s.queueAt q).entries.isEmpty then some (s.modQueue q Queue.restart)
    else some (s.modQueue q fun x => { x with resetPending := true })
  | _ => none

/-- A write of QUEUE_CONTROL. -/
def queueControl (s : State) (q v : Nat) : Option State :=
  match v with
  | 1 => s.queueEnable q
  | 2 => s.queueDisable q
  | 3 => s.queueReset q
  | _ => none

/-- QUEUE_DRAIN_DONE: every issued entry of a DRAINING queue has ended, or of a HALTED queue that RESET waits on (R137). -/
def queueDrained (s : State) (q : Nat) : State :=
  let x := s.queueAt q
  if !x.entries.isEmpty then s
  else match x.st with
    | .draining =>
      let s := s.modQueue q fun x => { x with st := .disabled, deferredEnable := false }
      if x.deferredEnable then (s.queueEnable q).getD s else s
    | .halted => if x.resetPending then s.modQueue q Queue.restart else s
    | _ => s

/-! ### Doorbells and the window (R139, R140, R325, R336) -/

/-- An ignored doorbell or access. -/
def ignored (s : State) (q code : Nat) (cls : FaultClass) (port : Nat) : State :=
  (((s.modQueue q fun x => { x with lastEvent := code }).bump32 0x2601 3).raise code cls (.count q 0) (some port))

/-- The checks that both doorbells of a queue share; the value counts modulo 2N. -/
def doorbell (s : State) (port q : Nat) (v : BitVec 32) (size : Queue → Nat) (own limit : Queue → Nat) (take : Queue → Nat → Queue) : State :=
  let x := s.queueAt q
  let n := size x
  let v := fld v 0 17 % (2 * n)
  if qcPort x.cfg ≠ port then s.ignored q 0x4006 .contained port
  else if !x.fetches then s.ignored q 0x4005 .note port
  else if v = own x % (2 * n) then s
  else if ahead v (own x) n ≤ limit x then s.modQueue q fun x => take x v
  else s.ignored q 0x4004 .note port

/-- SQ tail doorbell (R140). -/
def sqDoorbell (s : State) (port q : Nat) (v : BitVec 32) : State :=
  s.doorbell port q v Queue.sqSize (·.sqTail) (fun x => x.sqSize - ahead x.sqTail x.sqHead x.sqSize) fun x v => { x with sqTail := v }

/-- CQ head doorbell (R140). -/
def cqDoorbell (s : State) (port q : Nat) (v : BitVec 32) : State :=
  s.doorbell port q v Queue.cqSize (·.cqHead) (fun x => ahead x.cqTail x.cqHead x.cqSize) fun x v => { x with cqHead := v }

/-- The Chamber RAM areas that a port reaches: queues' areas, and for reads also reader rings (R139, R327). -/
def portAreas (s : State) (p : Nat) (reads : Bool) : List (Nat × Nat) :=
  ((s.queue.queues.filter fun (x : Nat × Queue) => qcPort x.2.cfg == p && x.2.st != .disabled).map fun (x : Nat × Queue) => x.2.areas).flatten ++
    if reads then ((s.counter.rings.filter fun (r : Nat × DumpRing) => r.2.enabled && drReaderValid r.2.cfg && drPort r.2.cfg == p).map
      fun (r : Nat × DumpRing) => ringArea r.2).flatten else []

/-- An access through the Chamber RAM window; every byte must lie in an area of the port. It crosses from its quad into the management pound, and what a read gives crosses back (R277). -/
def windowAccess (s : State) (p off len : Nat) (w : Option (List Byte)) : State :=
  let (s, known) := s.control 374
  if !known then s else
  let areas := s.portAreas p w.isNone
  let len := (w.map (·.length)).getD len
  let ok := (List.range len).all fun i => areas.any fun a => decide (a.1 ≤ off + i) && decide (off + i < a.1 + a.2)
  match w with
  | some b =>
    if ok then
      let (s, b, lost) := s.payloadBytes 374 b
      s.chamberWrite off b lost
    else (s.bump32 0x2601 3).raise 0x4006 .contained .none (some p)
  | none =>
    if ok then
      let (s, b, poison) := s.chamberRead off len
      let (s, b, lost) := s.payloadBytes 370 b
      s.emit (.barRead p off b (poison || lost))
    else ((s.bump32 0x2601 3).raise 0x4006 .contained .none (some p)).emit (.barRead p off (List.replicate len 0) false)

/-! ### Fetch (R133, R141, R143 to R145) -/

/-- Whether queues run: not in the start-up window, a reset, a power fail or the fatal state (R162, R163, R298). -/
def queuesRun (s : State) : Bool := s.power.device == .running

/-- Whether a queue may fetch its next entry (R141). -/
def mayFetch (s : State) (q : Nat) : Bool :=
  let x := s.queueAt q
  x.fetches && x.sqHead != x.sqTail && decide (x.entries.length < qcDepth x.cfg) &&
    decide (ahead x.cqTail x.cqHead x.cqSize + x.entries.length < x.cqSize)

/-- The queue that a processor serves next, in rotation (R133). -/
def nextServed (s : State) (p : Nat) : Option Nat :=
  let last := Table.get 0 s.queue.rotation p
  ((List.range 128).map fun i => ((last + 1 + i) % 128) * 32 + p).find? s.mayFetch

end State

/-- A submission entry from its 64 bytes (R143). -/
def parseEntry (pos : Nat) (w : BitVec 512) : QEntry where
  pos := pos
  opcode := fld w 0 8
  intr := w.getLsbD 8
  pair := w.getLsbD 9
  cid := fld w 16 16
  length := fld w 32 32
  chart := fld w 64 8
  reserved := fld w 10 6 ≠ 0 || fld w 72 56 ≠ 0
  addr0 := fld w 128 64
  addr1 := fld w 192 64
  data := BitVec.ofNat 256 (fld w 256 256)

/-- The opcodes of Table: Commands. -/
def queueOpcodes : List Nat := [0x01, 0x02, 0x10, 0x11, 0x12, 0x20, 0x21, 0x30, 0x31, 0x32, 0x40, 0x41, 0x42]

/-- Whether `n` bytes at an address lie in a queue's data window; host-memory addresses are the host's own affair (R138, R144). -/
def inWindow (x : Queue) (a n : Nat) : Bool := qcHost x.cfg || (decide (x.dataBase ≤ a) && decide (a + n ≤ x.dataBase + x.dataSize))

/-- Whether an entry's fields are valid by themselves (R144, R145): LENGTH, window offsets, and the result's place. -/
def fieldsOk (x : Queue) (e : QEntry) : Bool :=
  let off (a : Nat) : Bool := decide (a < 2 ^ 46)
  let n := e.length
  !e.reserved && match e.opcode with
    | 0x01 => decide (1 ≤ n) && decide (n ≤ 64) && off e.addr0 && decide (e.addr0 % 64 + n ≤ 64) && inWindow x e.addr1 n
    | 0x02 => decide (1 ≤ n) && decide (n ≤ 32) && off e.addr0 && decide (e.addr0 % 64 + n ≤ 64)
    | 0x10 | 0x11 => n == 16 && off e.addr0 && inWindow x e.addr1 16
    | 0x12 => n == 8 && off e.addr0 && inWindow x e.addr1 8
    | 0x20 => decide (1 ≤ n) && off e.addr0
    | 0x21 => decide (1 ≤ n) && off e.addr0 && off e.addr1
    | 0x30 => decide (1 ≤ n) && decide (n ≤ 2) && inWindow x e.addr1 (16 * n)
    | 0x31 => decide (1 ≤ n) && decide (n ≤ 4096) && inWindow x e.addr1 (16 * n)
    | 0x32 => inWindow x e.addr1 32
    | _ => true

/-- Whether the addresses of a bulk command are sector aligned and the results of a search 64 B aligned (R145). -/
def QEntry.placed (e : QEntry) : Bool :=
  match e.opcode with
  | 0x20 => e.addr0 % 64 == 0
  | 0x21 => e.addr0 % 64 == 0 && e.addr1 % 64 == 0
  | 0x30 | 0x31 => e.addr1 % 64 == 0
  | _ => true

/-- What the fetch decides of an entry: INVALID_OPCODE, INVALID_FIELD or MISALIGNED. The status that refuses a misaligned bulk command or search result is not given: one of those two, by the free bit `field` (DESIGN CHOICE, log entry 59). -/
def checkEntry (x : Queue) (field : Bool) (e : QEntry) : QEntry :=
  let bad (n : Nat) : QEntry := { e with ended := true, status := n }
  if !queueOpcodes.contains e.opcode then bad 4
  else if !fieldsOk x e then bad 5
  else if (e.opcode == 0x10 || e.opcode == 0x11) && e.addr0 % 16 != 0 then bad 6
  else if e.opcode == 0x12 && e.addr0 % 8 != 0 then bad 6
  else if !e.placed then bad (if field then 5 else 6)
  else e

namespace State

/-- A fetched entry is checked and joins those that execute, and SQ_HEAD passes it (R141, R144). -/
def enterEntry (s : State) (q : Nat) (w : BitVec 512) : State :=
  let x := s.queueAt q
  let (v, s) := if (parseEntry x.sqHead w).placed then (0, s) else s.drawFree
  let e := checkEntry x (v.getLsbD 0) (parseEntry x.sqHead w)
  let s := s.modQueue q fun x => { x with sqHead := (x.sqHead + 1) % (2 * x.sqSize), entries := x.entries ++ [e] }
  s.post q

/-- ENTRY_FETCH: the entry at SQ_HEAD of the queue whose turn it is. -/
def fetchEntry (s : State) (q : Nat) (hostRead : Option Sector) : State :=
  if !s.queuesRun || s.nextServed (q % 32) != some q then s
  else
    let s := { s with queue := { s.queue with rotation := Table.set 0 s.queue.rotation (q % 32) (q / 32) } }
    let x := s.queueAt q
    let (s, got) :=
      if qcHost x.cfg then (s.emit (.hostRead (qcPort x.cfg) (x.sqBase + x.sqHead % x.sqSize * 64) 64), hostRead)
      else
        let (s, b, bad) := s.chamberRead (x.sqBase + x.sqHead % x.sqSize * 64) 64
        (s, if bad then none else some (BitVec.ofNat 512 (ofLe b)))
    match got with
    | none => s.haltQueue q 0x4001
    | some w => s.enterEntry q w

/-! ### Issue: the order of R153 to R157 -/

/-- Strict service (R160). -/
def strictService (s : State) (q : Nat) : Bool :=
  qcStrict (s.queueAt q).cfg || s.reg 0x2601 1 == 1 || s.reg 0x6002 1 != 0 || (s.queueAt q).st == .recovery

/-- The entries before a position. -/
def earlier (s : State) (q pos : Nat) : List QEntry := (s.queueAt q).entries.takeWhile fun e => e.pos != pos


/-- Whether an earlier entry no longer holds a later load, store or atomic back: it has issued or ended, or is a WRITE in the store buffer. A WRITE that waits for room in a full buffer holds later loads back as well as the stores and atomics that R155 names (DESIGN CHOICE). -/
def issuedBefore (s : State) (q : Nat) (e : QEntry) : Bool :=
  e.issued || e.ended || (s.queueAt q).stores.any (·.pos == e.pos)

/-- Whether an entry may issue: it has the opcode, is not issued, no earlier fence holds it, and for loads, stores and atomics every earlier one of them has issued and no atomic is still running. -/
def mayIssue (s : State) (q pos opcode : Nat) (ordered : Bool) : Option QEntry :=
  match s.entryIn q pos with
  | none => none
  | some e =>
    let before := s.earlier q pos
    if !s.queuesRun || !(s.queueAt q).fetches || e.opcode ≠ opcode || e.issued || e.ended || before.any (fun b => b.isFence && !b.ended) then none
    else if ordered && before.any (fun b => ((b.isLoad || b.isStore || b.isAtomic) && !s.issuedBefore q b) || (b.isAtomic && !b.ended)) then none
    else some e

/-- The agent context of a queue, with its bound port and marker (R134). -/
def queueCtx (s : State) (q : Nat) : Nat × Nat × Nat :=
  let c := qcAgent (s.queueAt q).cfg
  (c, ctxBoundPort (s.ctxWord c), ctxBoundMarker (s.ctxWord c))

/-- Whether a queue processor can take one more access: its admission buffer has room (R311). -/
def processorTakes (s : State) (q : Nat) : Bool := decide (s.awaiting (.qp (q % 32)) < 64)

/-- Send one sector operation of an entry toward the regulator (R135). -/
def submitOp (s : State) (q pos part off : Nat) (access : AccessOp) (r : Req) (forwarded : Option SectorData := none) : State :=
  let (c, p, m) := s.queueCtx q
  let (id, s) := s.fresh
  let u := LookUnit.qp (q % 32)
  let t : Txn := {
    req := { r with
      id := id, origin := .queue q pos part, ctx := c, agent := true
      opcode := ((s.entryIn q pos).map (·.opcode)).getD 0, pair := (s.entryIn q pos).any (·.pair) && !r.bulk }
    unit := u, access := access, port := p, marker := m, offset := off, forwarded := forwarded }
  let s := s.holdTxn t
  if 2 ^ 46 ≤ off then
    let (s, t) := s.decodeFault t 0x8101
    s.afterDecode u t
  else s.decodeTxn u t

/-- Send one search of an entry toward the regulator (R135). -/
def submitSearch (s : State) (q pos part chart : Nat) (key : BitVec 512) : State :=
  let (c, p, m) := s.queueCtx q
  let (id, s) := s.fresh
  let u := LookUnit.qp (q % 32)
  let t : Txn := {
    req := { id := id, origin := .queue q pos part, cls := .rdNc, ctx := c, agent := true }
    unit := u, access := .search, port := p, marker := m, offset := 0, searchKey := some (chart, key) }
  let s := s.holdTxn t
  if s.ctxOpen c then s.afterDecode u t
  else
    let (s, t) := s.decodeFault t 0x8104
    s.afterDecode u t

/-- Write data of up to 32 bytes in its place in a sector. -/
def placeBytes (off len : Nat) (d : BitVec 256) : WriteData :=
  let o := off % 64
  { data := BitVec.ofNat 512 (d.toNat % 2 ^ (8 * len) * 2 ^ (8 * o)), mask := BitVec.ofNat 64 ((2 ^ len - 1) * 2 ^ o), poison := false }


/-- The youngest buffered byte at an offset. -/
def bufferedByte (l : List QStore) (o : Nat) : Option Byte :=
  match (l.filter fun t => decide (t.offset ≤ o) && decide (o < t.offset + t.len)).getLast? with
  | none => none
  | some t => some (BitVec.ofNat 8 (fld t.data (8 * (o - t.offset)) 8))

/-- The count of a queue processor's event counter (Table: Event counters). -/
def countQueue (s : State) (q n : Nat) : State := s.count (1280 + 8 * (q % 32) + n)

/-- READ (R145, R153, R155): from the home, or from the store buffer. A load that the buffer serves is not decoded, so PERM, FROZEN and VALID are not looked at for it (DESIGN CHOICE); with PAIR it is, for the test of its target (R159). -/
def issueRead (s : State) (q pos : Nat) : State :=
  match s.mayIssue q pos 1 true with
  | none => s
  | some e =>
    let stores := (s.queueAt q).stores
    if (s.earlier q pos).any fun b => b.isLoad && !b.ended then s
    else if !(stores.any fun t => t.meets e.addr0 e.length) then
      if !s.processorTakes q then s
      else
        let s := (s.modEntryAt q pos fun e => { e with issued := true }).countQueue q 0
        s.submitOp q pos 0 (sectorOf e.addr0) .read { cls := .rdNc, off := e.addr0 % 64, len := e.length }
    else if s.strictService q then s
    else
      let bytes := (List.range e.length).map fun i => bufferedByte stores (e.addr0 + i)
      if bytes.any (·.isNone) then s
      else if e.pair then
        if !s.processorTakes q then s
        else
          let s := ((s.modEntryAt q pos fun e => { e with issued := true }).countQueue q 0).countQueue q 6
          let d := BitVec.ofNat 512 (ofLe (bytes.map (·.getD 0)) * 2 ^ (8 * (e.addr0 % 64)))
          s.submitOp q pos 0 (sectorOf e.addr0) .read { cls := .rdNc, off := e.addr0 % 64, len := e.length } (some { data := d })
      else
        let s := (s.countQueue q 0).countQueue q 6
        let s := s.modEntryAt q pos fun e => { e with issued := true, split := e.length == 32 && e.addr0 % 32 == 0 }
        ((s.deliverResult q e.addr1 (bytes.map (·.getD 0)) false).endEntry q pos 0 0).post q

/-- WRITE: into the store buffer of 16 (R153, R155). -/
def issueWrite (s : State) (q pos : Nat) : State :=
  match s.mayIssue q pos 2 true with
  | none => s
  | some e =>
    if 16 ≤ (s.queueAt q).stores.length || s.issuedBefore q e then s
    else
      let t : QStore := { pos := pos, offset := e.addr0, len := e.length, data := e.data }
      (s.modQueue q fun x => { x with stores := x.stores ++ [t] }).countQueue q 1

/-- STORE_BUFFER_ISSUE: the oldest store, once the one before it is ordered and every earlier load is served (R153). -/
def issueStore (s : State) (q : Nat) : State :=
  match (s.queueAt q).stores with
  | [] => s
  | t :: _ =>
    if !s.queuesRun || t.issued || (s.earlier q t.pos).any (fun b => b.isLoad && !b.ended) || !s.processorTakes q then s
    else
      let s := s.modQueue q fun x => { x with
        stores := mapIf (·.pos == t.pos) (fun t => { t with issued := true }) x.stores
        entries := mapIf (·.pos == t.pos) (fun e => { e with issued := true }) x.entries }
      s.submitOp q t.pos 0 (sectorOf t.offset) .write
        { cls := .wrNc, w := placeBytes t.offset t.len t.data, off := t.offset % 64, len := t.len }

/-- An atomic issues when the store buffer is empty and no earlier load is outstanding (R153). -/
def issueAtomic (s : State) (q pos opcode : Nat) (op : QEntry → AtomicOp) : State :=
  match s.mayIssue q pos opcode true with
  | none => s
  | some e =>
    if !(s.queueAt q).stores.isEmpty || (s.earlier q pos).any (fun b => b.isLoad && !b.ended) || !s.processorTakes q then s
    else
      let s := (s.modEntryAt q pos fun e => { e with issued := true }).countQueue q 2
      s.submitOp q pos 0 e.addr0 .atomic { cls := .atomic, op := some (op e), len := e.length }

/-- ZERO and COPY issue at once; their sectors follow one by one (R147, R153). -/
def issueBulk (s : State) (q pos opcode : Nat) : State :=
  match s.mayIssue q pos opcode false with
  | none => s
  | some _ => s.modEntryAt q pos fun e => { e with issued := true }

/-! ### Searches and table commands of a queue (R35, R148, R197) -/

/-- A bit of the chart permission set of a queue's context: search, or update; chart 0 is never permitted. -/
def chartAllowed (s : State) (q chart : Nat) (update : Bool) : Bool :=
  let set := ctxChartSet (s.ctxWord (qcAgent (s.queueAt q).cfg))
  let w := Table.get 0 s.tenant.psets (set * 4 + bit update * 2 + chart / 128)
  chart != 0 && w.getLsbD (chart % 128)

/-- Take up a search entry with its keys: one search for each. -/
def startSearch (s : State) (q pos : Nat) (keys : List (BitVec 512)) : State :=
  (s.modEntryAt q pos fun e => { e with issued := true, keys := keys }).countQueue q 4

/-- SEARCH: keys inline (R148). -/
def issueSearchEntry (s : State) (q pos : Nat) : State :=
  match s.mayIssue q pos 0x30 false with
  | none => s
  | some e =>
    let x := s.chart e.chart
    if !s.chartAllowed q e.chart false then (s.endEntry q pos 8 0).post q
    else if !cdValid x.desc1 then s.startSearch q pos (List.replicate e.length 0)
    else match cdWidth x.desc1 with
      | 0 => s.startSearch q pos ((List.range e.length).map fun i => BitVec.ofNat 512 (fld e.data (128 * i) 128))
      | 1 => if e.length = 1 then s.startSearch q pos [BitVec.ofNat 512 e.data.toNat] else (s.endEntry q pos 5 0).post q
      | _ => (s.endEntry q pos 5 0).post q

/-- The keys of a list of bytes. -/
def splitKeys (b : List Byte) (w n : Nat) : List (BitVec 512) :=
  (List.range n).map fun i => BitVec.ofNat 512 (ofLe (b.drop (i * w) |>.take w))

/-- A search record of a key that arrived poisoned (R282). -/
def poisonedKeyRecord (s : State) (q pos part : Nat) : State :=
  (s.raise 0x5006 .contained (.location 372 0 0 0)).toQueue
    { queue := q, pos := pos, part := part, record := some (mkResult 0 0 0 s.deviceNumber 0 true false false) }

/-- SEARCH_BURST: keys from the key list (R148). Poisoned keys give records with ERROR. An entry that is refused for two reasons is CHART_DENIED before its key list is looked at (DESIGN CHOICE; TABLE too). -/
def issueBurst (s : State) (q pos : Nat) (hostKeys : List Byte) : State :=
  match s.mayIssue q pos 0x31 false with
  | none => s
  | some e =>
    let x := s.chart e.chart
    let w := keyBits (cdWidth x.desc1) / 8
    let c := (s.queueAt q).cfg
    if !s.chartAllowed q e.chart false then (s.endEntry q pos 8 0).post q
    else if !cdValid x.desc1 then s.startSearch q pos (List.replicate e.length 0)
    else if qcHost c then (s.emit (.hostRead (qcPort c) e.addr0 (w * e.length))).startSearch q pos (splitKeys hostKeys w e.length)
    else if !inWindow (s.queueAt q) e.addr0 (w * e.length) then (s.endEntry q pos 5 0).post q
    else
      let b := memRead s.queue.chamber e.addr0 (w * e.length)
      let (s, bad) := (List.range e.length).foldl (init := (s, ([] : List Nat))) fun (s, bad) i =>
        let (s, _, p) := s.chamberRead (e.addr0 + i * w) w
        (s, if p then bad ++ [i] else bad)
      let s := s.startSearch q pos (splitKeys b w e.length)
      let s := s.modEntryAt q pos fun e => { e with out := bad }
      bad.foldl (fun s i => s.poisonedKeyRecord q pos i) s

/-- TABLE: the command block goes to firmware (R145, R200). -/
def issueTable (s : State) (q pos : Nat) (hostBlock : List Byte) : State :=
  match s.mayIssue q pos 0x32 false with
  | none => s
  | some e =>
    if !s.chartAllowed q e.chart true then (s.endEntry q pos 8 0).post q
    else if !qcHost (s.queueAt q).cfg && !inWindow (s.queueAt q) e.addr0 e.length then (s.endEntry q pos 5 0).post q
    else
      let c := (s.queueAt q).cfg
      let (s, b, bad) :=
        if qcHost c then (s.emit (.hostRead (qcPort c) e.addr0 e.length), hostBlock.take e.length, false)
        else s.chamberRead e.addr0 e.length
      if bad then (s.endEntry q pos 2 1).post q
      else if b.length ≠ e.length || !s.tableLengthOk e.chart b then (s.endEntry q pos 5 0).post q
      else
        let s := (s.modEntryAt q pos fun e => { e with issued := true }).countQueue q 4
        s.submitTable (.queue q pos) e.chart b

/-! ### Sector operations of bulk commands and searches (R146, R147) -/




/-- The next operation of an entry: a write of a ZERO sector, a COPY write or read, or one search. -/
def nextOp (s : State) (q : Nat) (e : QEntry) : Option State :=
  let out (s : State) (part : Nat) (f : QEntry → QEntry) : State := s.modEntryAt q e.pos fun e => f { e with out := e.out ++ [part] }
  let zero : WriteData := { data := 0, mask := 0xFFFFFFFFFFFFFFFF, poison := false }
  if !e.issued || e.ended then none
  else if e.opcode = 0x20 then
    if e.stopped || decide (e.length ≤ e.next) || decide (64 ≤ e.out.length) then none
    else
      let s := (out s e.next fun e => { e with next := e.next + 1 }).countQueue q 3
      some (s.submitOp q e.pos e.next (e.addr0 + 64 * e.next) .write { cls := .wrNc, w := zero, bulk := true })
  else if e.opcode = 0x21 then
    match e.copied.find? fun c => c.1 == e.next && e.readThrough e.next with
    | some (i, d) =>
      if 64 ≤ e.out.length then none
      else
        let s := (out s (2 * i + 1) fun e => { e with next := e.next + 1, copied := e.copied.filter (·.1 != i) }).countQueue q 3
        let w : WriteData := { data := d.data, mask := 0xFFFFFFFFFFFFFFFF, poison := d.isPoisoned }
        some (s.submitOp q e.pos (2 * i + 1) (e.addr0 + 64 * e.sectorNo i) .write { cls := .wrNc, w := w, bulk := true })
    | none =>
      if e.stopped || decide (e.length ≤ e.readsIssued) || decide (64 ≤ e.out.length) || decide (e.next + 64 ≤ e.readsIssued) then none
      else
        let i := e.readsIssued
        let s := (out s (2 * i) fun e => { e with readsIssued := i + 1 }).countQueue q 3
        some (s.submitOp q e.pos (2 * i) (e.addr1 + 64 * e.sectorNo i) .read { cls := .rdNc, bulk := true })
  else if e.opcode = 0x30 || e.opcode = 0x31 then
    match (List.range e.keys.length).find? fun i => decide (e.next ≤ i) && !e.out.contains i with
    | none => none
    | some i =>
      let s := out s i fun e => { e with next := i + 1 }
      some (s.submitSearch q e.pos i e.chart (e.keys.getD i 0))
  else none

/-- The next sector operation of a queue processor, its queues in rotation and each queue's entries in order (R133, R147). -/
def bulkStep (s : State) (p : Nat) : State :=
  if !s.queuesRun || decide (64 ≤ s.awaiting (.qp p)) then s
  else
    let last := Table.get 0 s.queue.rotation (32 + p)
    let live := (s.queue.queues.filter fun (x : Nat × Queue) => x.1 % 32 == p && !x.2.entries.isEmpty && x.2.st != .disabled).map (·.1)
    let order := live.filter (fun q => decide (last < q / 32)) ++ live.filter fun q => decide (q / 32 ≤ last)
    match order.findSome? fun q => (s.queueAt q).entries.findSome? fun e => (s.nextOp q e).map (q, ·) with
    | none => s
    | some (q, s) => { s with queue := { s.queue with rotation := Table.set 0 s.queue.rotation (32 + p) (q / 32) } }

/-- ADMISSION_REQUEST: the oldest request at the unit's regulator interface; with none there, a queue processor brings its next sector operation (R147, R306). -/
def admission (s : State) (u : LookUnit) : State :=
  match u with
  | .quad _ => s.admitOldest u
  | .qp p => if (s.look u).toRegulator.isEmpty then s.bulkStep p else s.admitOldest u

/-! ### Fences (R157, R161) -/

/-- Every earlier load, atomic, COPY read and search has its value. -/
def loadsServed (l : List QEntry) : Bool :=
  l.all fun e => e.ended || match e.opcode with
    | 0x01 | 0x10 | 0x11 | 0x12 | 0x30 | 0x31 => false
    | 0x21 => decide (e.length ≤ e.readsDone)
    | _ => true

/-- Every earlier store, bulk write and TABLE command has ended, and none is left in a write buffer, here or at a peer home. -/
def storesRetired (s : State) (q : Nat) (l : List QEntry) : Bool :=
  let mine (o : Origin) : Bool := match o with
    | .queue p _ _ => p == q
    | _ => false
  (l.all fun e => e.ended || !([0x02, 0x10, 0x11, 0x12, 0x20, 0x21, 0x32].contains e.opcode)) &&
    !(s.link.stores.any fun x => x.queue == q) && s.slices.all fun (k : Nat × Slice) => k.2.writeBuf.all fun w => !mine w.origin

/-- A fence ends with what it has to report; a RECOVERY queue becomes ACTIVE at its first FENCE.F (R160, R161). -/
def endFence (s : State) (q pos opcode : Nat) : State :=
  let x := s.queueAt q
  let loss := x.lostStores + x.lostSectors * 2 ^ 32
  let s :=
    if opcode ≠ 0x40 && loss ≠ 0 then
      ((s.modQueue q fun x => { x with lostStores := 0, lostSectors := 0 }).endEntry q pos 1 loss).queueEvent q 0x4003 .contained
    else s.endEntry q pos 0 0
  let s := if opcode = 0x42 && x.st = .recovery then s.modQueue q fun x => { x with st := .active, recoveryFlag := false } else s
  s.post q

/-- A fence row: the fence ends when its condition is met (R157). -/
def issueFence (s : State) (q pos opcode : Nat) : State :=
  match s.entryIn q pos with
  | none => s
  | some e =>
    let before := s.earlier q pos
    if !s.queuesRun || (s.queueAt q).st == .disabled || e.opcode ≠ opcode || e.ended || before.any (fun b => b.isFence && !b.ended) then s
    else
      let s := (s.modEntryAt q pos fun e => { e with issued := true }).expireStores
      let l := opcode = 0x41 || loadsServed before
      let t := opcode = 0x40 || s.storesRetired q before
      if l && t then s.endFence q pos opcode else s

/-! ### Responses (R150 to R152) -/

/-- Release the slot of the operation that a response answers. -/
def releaseFor (s : State) (r : QResponse) : State :=
  match s.tenant.txns.find? fun t => t.req.origin == .queue r.queue r.pos r.part with
  | some t => s.releaseSlot t.req.id
  | none => s

/-- The status of a refused access: UNSUPPORTED_TARGET, or ACCESS_FAULT with its event. -/
def faultStatus (f : Nat) : Nat × Nat := if f = 1 then (7, 0) else (3, f)

/-- The answer of a single access. -/
def singleDone (s : State) (q : Nat) (e : QEntry) (r : QResponse) : State :=
  let s := s.modQueue q fun x => { x with stores := x.stores.filter (·.pos != e.pos) }
  if r.fault ≠ 0 then s.endEntry q e.pos (faultStatus r.fault).1 (faultStatus r.fault).2
  else if e.opcode = 2 then (s.modEntryAt q e.pos fun e => { e with split := r.split }).endEntry q e.pos 0 0
  else if e.opcode = 1 then
    let b := (leBytes r.data.data.toNat 64).drop (e.addr0 % 64) |>.take e.length
    let s := s.modEntryAt q e.pos fun e => { e with split := r.split }
    (s.deliverResult q e.addr1 b r.poison).endEntry q e.pos (if r.poison then 2 else 0) (bit r.poison)
  else if r.poison then s.endEntry q e.pos 2 1
  else (s.deliverResult q e.addr1 (leBytes r.data.data.toNat e.length) false).endEntry q e.pos 0 (bit (r.swapped && e.opcode == 0x10))

/-- A bulk command ends when nothing of it is out and nothing more will go. -/
def bulkEnd (s : State) (q pos : Nat) : State :=
  match s.entryIn q pos with
  | none => s
  | some e =>
    let all := decide (e.length ≤ e.next) && e.copied.isEmpty
    if !e.out.isEmpty || !(all || (e.stopped && e.copied.isEmpty)) then s
    else if e.stopped && e.status != 0 && !(all && e.status == 11) then
      s.endEntry q pos e.status (e.detail.toNat + e.done * 2 ^ 32)
    else if e.poisoned ≠ 0 then s.endEntry q pos 2 e.poisoned
    else s.endEntry q pos 0 0

/-- The answer of one sector of a bulk command (R147). -/
def bulkDone (s : State) (q : Nat) (e : QEntry) (r : QResponse) : State :=
  let s := s.modEntryAt q e.pos fun e =>
    let e := { e with out := e.out.erase r.part }
    let i := if e.opcode = 0x21 then r.part / 2 else r.part
    if r.fault ≠ 0 then
      let first := e.status != 3 || e.stopAt.all fun j => decide (i < j)
      { e with
        stopped := true, stopAt := some (min i (e.stopAt.getD i))
        status := if first then (faultStatus r.fault).1 else e.status
        detail := if first then BitVec.ofNat 64 (faultStatus r.fault).2 else e.detail
        copied := e.copied.filter fun c => decide (c.1 < i) }
    else if e.opcode = 0x21 && r.part % 2 = 0 then
      { e with
        copied := if e.stopAt.any fun j => decide (j ≤ i) then e.copied else e.copied ++ [(i, r.data)]
        readsDone := e.readsDone + 1, poisoned := e.poisoned + bit (r.poison) }
    else { e with done := e.done + 1 }
  s.bulkEnd q e.pos

/-- A search record arrives: it is placed in key order (R197). -/
def recordDone (s : State) (q : Nat) (e : QEntry) (r : QResponse) : State :=
  let v := r.record.getD 0
  let s := if r.fault ≠ 0 then s else s.deliverResult q (e.addr1 + 16 * r.part) (leBytes v.toNat 16) false
  let s := s.modEntryAt q e.pos fun e => { e with
    done := e.done + 1
    matched := e.matched + bit (rrMatch v && r.fault == 0)
    incomplete := e.incomplete + bit (rrIncomplete v && r.fault == 0)
    status := if r.fault ≠ 0 then 3 else e.status
    detail := if r.fault ≠ 0 then BitVec.ofNat 64 r.fault else e.detail }
  match s.entryIn q e.pos with
  | none => s
  | some e =>
    if e.done < e.length then s
    else if e.status = 3 then s.endEntry q e.pos 3 e.detail.toNat
    else if e.incomplete ≠ 0 then s.endEntry q e.pos 9 e.incomplete
    else s.endEntry q e.pos 0 e.matched

/-- A table command's result arrives: written at ADDR1 (R202). -/
def blockDone (s : State) (q : Nat) (e : QEntry) (b : List Byte) : State :=
  let s := if inWindow (s.queueAt q) e.addr1 b.length then s.deliverResult q e.addr1 b false else s
  if !inWindow (s.queueAt q) e.addr1 b.length then s.endEntry q e.pos 5 0
  else if resultCode b = 0 then s.endEntry q e.pos 0 0
  else s.endEntry q e.pos 10 (resultCode b)

/-- A response gives back its operation's slot, and the entry that it answers carries on or ends (R135, R150). -/
def answerEntry (s : State) (r : QResponse) : State :=
  let s := s.releaseFor r
  let q := r.queue
  match s.entryIn q r.pos with
  | none => s
  | some e =>
    if e.ended || !e.issued then s
    else
      let s := match r.block with
        | some b => s.blockDone q e b
        | none =>
          match e.opcode with
          | 0x20 | 0x21 => s.bulkDone q e r
          | 0x30 | 0x31 => s.recordDone q e r
          | _ => s.singleDone q e r
      s.post q

/-- QUEUE_RESPONSE: the oldest response of a queue processor's queues. -/
def queueResponse (s : State) (p : Nat) : State :=
  match s.queue.responses.find? (·.queue % 32 == p) with
  | none => s
  | some r =>
    ({ s with queue := { s.queue with responses := s.queue.responses.erase r } } : State).answerEntry r

end State

/-! ### Rows -/

/-- QUEUE_DRAIN_DONE (R137). -/
def execQueueDrainDone (queue : Nat) (s : State) : Host.Outcome State Fault Refusal := run (.queueDrainDone queue) s fun s => s.queueDrained queue

/-- SQ_TAIL_DOORBELL (R140). -/
def execSqTailDoorbell (port queue : Nat) (value : BitVec 32) (s : State) : Host.Outcome State Fault Refusal :=
  run (.sqTailDoorbell port queue value) s fun s => s.sqDoorbell port queue value

/-- CQ_HEAD_DOORBELL (R140). -/
def execCqHeadDoorbell (port queue : Nat) (value : BitVec 32) (s : State) : Host.Outcome State Fault Refusal :=
  run (.cqHeadDoorbell port queue value) s fun s => s.cqDoorbell port queue value

/-- CHAMBER_WINDOW_ACCESS (R139). -/
def execChamberWindowAccess (port offset len : Nat) (write : Option (List Byte)) (s : State) : Host.Outcome State Fault Refusal :=
  run (.chamberWindowAccess port offset len write) s fun s => s.windowAccess port offset len write

/-- ENTRY_FETCH (R141). -/
def execEntryFetch (queue : Nat) (hostRead : Option Sector) (s : State) : Host.Outcome State Fault Refusal :=
  run (.entryFetch queue hostRead) s fun s => s.fetchEntry queue hostRead

/-- READ (R145). -/
def execRead (queue pos : Nat) (s : State) : Host.Outcome State Fault Refusal := run (.read queue pos) s fun s => s.issueRead queue pos

/-- WRITE (R145). -/
def execWrite (queue pos : Nat) (s : State) : Host.Outcome State Fault Refusal := run (.write queue pos) s fun s => s.issueWrite queue pos

/-- CAS128 (R145). -/
def execCas128 (queue pos : Nat) (s : State) : Host.Outcome State Fault Refusal :=
  run (.cas128 queue pos) s fun s =>
    s.issueAtomic queue pos 0x10 fun e => .cas (BitVec.ofNat 128 (fld e.data 0 128)) (BitVec.ofNat 128 (fld e.data 128 128))

/-- SWAP128 (R145). -/
def execSwap128 (queue pos : Nat) (s : State) : Host.Outcome State Fault Refusal :=
  run (.swap128 queue pos) s fun s => s.issueAtomic queue pos 0x11 fun e => .swap (BitVec.ofNat 128 (fld e.data 0 128))

/-- FADD64 (R145). -/
def execFadd64 (queue pos : Nat) (s : State) : Host.Outcome State Fault Refusal :=
  run (.fadd64 queue pos) s fun s => s.issueAtomic queue pos 0x12 fun e => .fadd (BitVec.ofNat 64 (fld e.data 0 64))

/-- ZERO (R145). -/
def execZero (queue pos : Nat) (s : State) : Host.Outcome State Fault Refusal := run (.zero queue pos) s fun s => s.issueBulk queue pos 0x20

/-- COPY (R145, R146). -/
def execCopy (queue pos : Nat) (s : State) : Host.Outcome State Fault Refusal := run (.copy queue pos) s fun s => s.issueBulk queue pos 0x21

/-- SEARCH (R145, R148). -/
def execSearch (queue pos : Nat) (s : State) : Host.Outcome State Fault Refusal := run (.search queue pos) s fun s => s.issueSearchEntry queue pos

/-- SEARCH_BURST (R145, R148). -/
def execSearchBurst (queue pos : Nat) (hostKeys : List Byte) (s : State) : Host.Outcome State Fault Refusal :=
  run (.searchBurst queue pos hostKeys) s fun s => s.issueBurst queue pos hostKeys

/-- TABLE (R145, R200). -/
def execTable (queue pos : Nat) (hostBlock : List Byte) (s : State) : Host.Outcome State Fault Refusal :=
  run (.table queue pos hostBlock) s fun s => s.issueTable queue pos hostBlock

/-- FENCE.L (R157). -/
def execFenceL (queue pos : Nat) (s : State) : Host.Outcome State Fault Refusal := run (.fenceL queue pos) s fun s => s.issueFence queue pos 0x40

/-- FENCE.S (R157). -/
def execFenceS (queue pos : Nat) (s : State) : Host.Outcome State Fault Refusal := run (.fenceS queue pos) s fun s => s.issueFence queue pos 0x41

/-- FENCE.F (R157). -/
def execFenceF (queue pos : Nat) (s : State) : Host.Outcome State Fault Refusal := run (.fenceF queue pos) s fun s => s.issueFence queue pos 0x42

/-- STORE_BUFFER_ISSUE (R153). -/
def execStoreBufferIssue (queue : Nat) (s : State) : Host.Outcome State Fault Refusal := run (.storeBufferIssue queue) s fun s => s.issueStore queue

/-- QUEUE_RESPONSE (R150). -/
def execQueueResponse (qp : Nat) (s : State) : Host.Outcome State Fault Refusal := run (.queueResponse qp) s fun s => s.queueResponse qp

/-- ADMISSION_REQUEST (R306). -/
def execAdmissionRequest (unit : LookUnit) (s : State) : Host.Outcome State Fault Refusal := run (.admissionRequest unit) s fun s => s.admission unit

end Sys2Proof.Machine
end

