-- ==== Sys2Proof/Machine/Counters.lean ====
section
/-! DEFINITION. Reading counters, and the dump engine: snapshot instants, rings, records and their deadline (R316 to R327). -/

namespace Sys2Proof.Machine

/-! ### Reading counters (R318) -/

/-- The value that takes the place of a counter with bad parity. -/
def counterLost : BitVec 64 := BitVec.allOnes 64

namespace State

/-- The dump ring with a number. -/
def ring (s : State) (r : Nat) : DumpRing := Table.get {} s.counter.rings r

def modRing (s : State) (r : Nat) (f : DumpRing → DumpRing) : State :=
  { s with counter := { s.counter with rings := Table.modify {} s.counter.rings r f } }

/-- A counter as stored: an event counter, or one of a context's two by `ctxCounterNo`. -/
def counterValue (s : State) (n : Nat) : BitVec 64 :=
  if n < 2048 then Table.get 0 s.counter.counters n
  else if n % 2 = 0 then (s.acct ((n - 2048) / 2)).txns else (s.acct ((n - 2048) / 2)).occ

/-- A counter whose parity is found bad restarts from 0, with event 8201. -/
def restartCounter (s : State) (n : Nat) : State :=
  let s := if n < 2048 then { s with counter := { s.counter with counters := Table.set 0 s.counter.counters n 0 } }
    else s.modAcct ((n - 2048) / 2) fun a => if n % 2 = 0 then { a with txns := 0 } else { a with occ := 0 }
  { s with counter := { s.counter with
      badParity := s.counter.badParity.filter (· != n), restarted := s.counter.restarted ++ [n] } }

/-- Read a counter through its parity check. -/
def readCounter (s : State) (n : Nat) : State × BitVec 64 :=
  if s.counter.badParity.contains n then (s.restartCounter n, counterLost) else (s, s.counterValue n)

/-! ### Snapshot instants (R320) -/

/-- DUMP_BASE_INTERVAL in ticks. -/
def dumpBase (s : State) : Nat := 4000 * s.reg 0x4620 1

/-- Multiples of `d` above `a` and up to `b`. -/
def multiplesIn (d a b : Nat) : Nat := b / d - a / d

/-- The instants at which a ring was due, after `last` and before `t`; and whether it is due at `t`. -/
def dueBefore (s : State) (x : DumpRing) (last t : Nat) : Nat := multiplesIn (s.dumpBase * drMultiple x.cfg) (max last x.since) (max (max last x.since) (t - 1))

def dueAt (s : State) (x : DumpRing) (t : Nat) : Bool := decide (x.since < t) && t % (s.dumpBase * drMultiple x.cfg) == 0

/-- Copy every counter into the other bank; those with bad parity restart, and the bank carries all ones (R318). -/
def takeSnapshot (s : State) : State :=
  let bad := s.counter.badParity
  let s := bad.foldl (fun s n => s.restartCounter n) s
  let events := s.counter.counters.filter fun (p : Nat × BitVec 64) => !bad.contains p.1
  let ctxs := (s.tenant.acct.map fun (p : Nat × CtxAccount) =>
    [(ctxCounterNo p.1 0, p.2.txns), (ctxCounterNo p.1 1, p.2.occ)]).flatten.filter fun (p : Nat × BitVec 64) =>
      !bad.contains p.1 && p.2 != 0
  let bank := bad.foldl (fun b n => Table.set 0 b n counterLost) (events ++ ctxs)
  { s with counter := { s.counter with
      bank0 := if s.counter.bankSel then bank else s.counter.bank0
      bank1 := if s.counter.bankSel then s.counter.bank1 else bank
      bankSel := !s.counter.bankSel
      bankBad := bad } }

/-- The bank of the latest instant. -/
def bank (s : State) : Table (BitVec 64) := if s.counter.bankSel then s.counter.bank1 else s.counter.bank0

/-! ### Records (R321, R323) -/

/-- Whether a ring shows a context: rings with a reader show the contexts of the reader's port only. -/
def ringShows (s : State) (w : Word128) (c : Nat) : Bool :=
  !drReaderValid w || ctxPort c (s.ctxWord c) == ctxPort (drReaderCtx w) (s.ctxWord (drReaderCtx w))

/-- The counters of a record's body, by number. -/
def recordCounters (w : Word128) : List Nat := (List.range (drCtrCount w)).map (drCtrFirst w + ·)

/-- The contexts of a record's body. -/
def recordContexts (w : Word128) : List Nat := (List.range (drCtxCount w)).map (drCtxFirst w + ·)

/-- The header of a record (Table: Dump record header). -/
def recordHeader (s : State) (r seq t skipped : Nat) (lost : Bool) (w : Word128) : Nat :=
  seq % 2 ^ 64 * 2 ^ 448 + t % 2 ^ 64 * 2 ^ 384 + min skipped (2 ^ 32 - 1) * 2 ^ 352 + s.deviceNumber * 2 ^ 342 +
    bit (!s.canal.trusted) * 2 ^ 341 + bit lost * 2 ^ 340 + r % 16 * 2 ^ 336 + drMultiple w * 2 ^ 316 +
    s.reg 0x4620 1 * 2 ^ 296 + drCtrFirst w * 2 ^ 285 + drCtrCount w * 2 ^ 273 + drCtxFirst w * 2 ^ 259 + drCtxCount w * 2 ^ 244

/-- The bytes of the record of an instant from the bank just taken. -/
def recordBytes (s : State) (r t : Nat) : List Byte :=
  let x := s.ring r
  let w := x.cfg
  let shown := (recordContexts w).filter (s.ringShows w)
  let lost := s.counter.bankBad.any fun n =>
    (recordCounters w).contains n || (decide (2048 ≤ n) && shown.contains ((n - 2048) / 2))
  let b := s.bank
  let ctrs := ((recordCounters w).map fun n => leBytes (Table.get 0 b n).toNat 8).flatten
  let ctxs := ((recordContexts w).map fun c =>
    if s.ringShows w c then
      leBytes (Table.get 0 b (ctxCounterNo c 0)).toNat 8 ++ leBytes (Table.get 0 b (ctxCounterNo c 1)).toNat 8
    else List.replicate 16 0).flatten
  let bytes := leBytes (s.recordHeader r (x.lastSeq + 1) t x.skippedSince lost w) 64 ++ ctrs ++ ctxs
  bytes ++ List.replicate (drRecordBytes w - bytes.length) 0

end State

/-- The records of a ring. -/
def DumpRing.size (x : DumpRing) : Nat := 2 ^ drSizeLog2 x.cfg

/-- Where a ring's next record begins. -/
def DumpRing.place (x : DumpRing) : Nat := x.base + x.tail % x.size * drRecordBytes x.cfg

/-- A WAIT_HEAD ring that is full (R325). -/
def DumpRing.full (x : DumpRing) : Bool := !drOverwrite x.cfg && ahead x.tail x.head x.size == x.size

/-- The offset in the record of the `i`-th 16 B piece that follows the zero of SEQ: header bytes 0 to 47, the body, then bytes 48 to 63 (R324). -/
def pieceOffset (len i : Nat) : Nat := if i < 3 then 16 * i else if 16 * i + 16 < len then 16 * i + 16 else 48

/-- The skipped instants since the previous record, and since ENABLE. -/
def DumpRing.skip (x : DumpRing) (n : Nat) : DumpRing :=
  { x with skippedSince := x.skippedSince + n, skipped := sat32 (x.skipped + n) }

namespace State

/-- Write bytes of a ring into its space; false when the port of a host-memory ring is not UP. -/
def ringWrite (s : State) (x : DumpRing) (addr : Nat) (b : List Byte) : State × Bool :=
  if !drHost x.cfg then (s.chamberWrite addr b false, true)
  else if (s.port (drPort x.cfg)).st == .up then (s.emit (.hostWrite (drPort x.cfg) addr b false), true)
  else (s, false)

/-- A delivery failed: the ring's record ends and the ring is disabled at the next instant (R326). -/
def failRing (s : State) (r : Nat) : State :=
  s.modRing r fun x => { (x.skip (if x.record.isSome then 1 else 0)) with record := none, dropPending := true }

/-- A record not complete by T + b is abandoned, with event 8202 (R324). -/
def missDeadline (s : State) (r : Nat) : State :=
  match (s.ring r).record with
  | none => s
  | some d =>
    if s.canalTime < d.instant + s.dumpBase then s
    else
      let s := s.modRing r fun x => { (x.skip 1) with record := none }
      (s.deadlineMiss 6).raise 0x8202 .contained (.count r 0)

/-- A due ring's record begins, with SEQ written 0; a full WAIT_HEAD ring skips the instant (R324, R325). -/
def startRecord (s : State) (r t : Nat) : State :=
  let x := s.ring r
  if x.full then (s.modRing r fun x => x.skip 1).raise 0x8203 .note (.count r 0)
  else
    let (s, ok) := s.ringWrite x (x.place + 56) (List.replicate 8 0)
    if !ok then (s.modRing r fun x => x.skip 1).failRing r
    else
      let bytes := s.recordBytes r t
      s.modRing r fun x => { x with record := some { instant := t, bytes := bytes } }

/-- A record's last piece is written: TAIL advances and the interrupt leaves (R324). -/
def endRecord (s : State) (r : Nat) : State :=
  let x := s.ring r
  let s := s.modRing r fun x => { x with
    record := none, tail := (x.tail + 1) % (2 * x.size), lastSeq := (x.lastSeq + 1) % 2 ^ 64, skippedSince := 0 }
  if drIntr x.cfg && (s.port (drPort x.cfg)).st == .up then s.emit (.msix (drPort x.cfg) (drVector x.cfg)) else s

/-- The engine writes the next 16 B of the first unfinished record whose deadline has not passed (R322, R324). -/
def dumpPiece (s : State) : State :=
  match s.counter.rings.find? fun (p : Nat × DumpRing) => p.2.record.any fun d => decide (s.canalTime < d.instant + s.dumpBase) with
  | none => s
  | some (r, x) =>
    match x.record with
    | none => s
    | some d =>
      let off := pieceOffset d.bytes.length d.written
      let (s, ok) := s.ringWrite x (x.place + off) (d.bytes.drop off |>.take 16)
      if !ok then s.failRing r
      else if off = 48 then s.endRecord r
      else s.modRing r fun x => { x with record := some { d with written := d.written + 1 } }

/-! ### Control (R322, R325, R326) -/

/-- Whether ENABLE of a ring passes the checks of R322. -/
def ringOk (s : State) (r : Nat) : Bool :=
  let x := s.ring r
  let w := x.cfg
  let b := s.reg 0x4620 1
  let rc := s.ctxWord (drReaderCtx w)
  let others := s.counter.rings.filter fun (p : Nat × DumpRing) => p.1 != r && p.2.enabled
  let queues := (s.queue.queues.filter fun (p : Nat × Queue) => p.2.st != .disabled).map fun (p : Nat × Queue) => p.2.areas
  let total := others.foldl (fun n (p : Nat × DumpRing) => n + drRecordBytes p.2.cfg) (drRecordBytes w)
  decide (1 ≤ drSizeLog2 w) && decide (drSizeLog2 w ≤ 16) && decide (1 ≤ drMultiple w) && decide (drMultiple w ≤ 1000000) &&
    decide (b * drMultiple w ≤ 1000000) &&
    decide (drCtrFirst w + drCtrCount w ≤ 2048) && decide (drCtxFirst w + drCtxCount w ≤ 16384) &&
    (drCtrCount w != 0 || drCtxCount w != 0) && x.base % 4096 == 0 &&
    (if drHost w then s.hostFacing (drPort w)
     else decide (x.base + x.size * drRecordBytes w ≤ 2 ^ 23) &&
       (ringArea x).all fun a => !((others.map fun (p : Nat × DumpRing) => ringArea p.2).flatten.any (areasMeet a)) &&
         !(queues.flatten.any (areasMeet a))) &&
    (!drReaderValid w || (ctxValid rc && ctxCtrRead rc && ctxPort (drReaderCtx w) rc == drPort w &&
      (drCtrCount w == 0 || (s.inEffect 0x4600 4).testBit (drPort w)))) &&
    decide (total ≤ 8000 * b)

/-- Enter ENABLED: HEAD and TAIL are 0. -/
def startRing (s : State) (r : Nat) : State :=
  s.modRing r fun x => { x with
    enabled := true, head := 0, tail := 0, skipped := 0, skippedSince := 0, deferredEnable := false, disablePending := false
    dropPending := false, since := s.canalTime, record := none }

/-- ENABLE of a ring, none when refused: at once, or deferred to the instant at which a DISABLE takes effect (R322, R431). -/
def ringEnable (s : State) (r : Nat) : Option State :=
  let x := s.ring r
  if !x.enabled then (if s.ringOk r then some (s.startRing r) else none)
  else if !x.disablePending then some s
  else if x.deferredEnable || !s.ringOk r then none
  else some (s.modRing r fun x => { x with deferredEnable := true })

/-- DISABLE of a ring takes effect at the next instant and clears a deferred enable (R326, R431). -/
def ringDisable (s : State) (r : Nat) : State :=
  s.modRing r fun x => if x.enabled then { x with disablePending := true, deferredEnable := false } else x

/-- A write of DUMP_CONTROL. -/
def ringControl (s : State) (r v : Nat) : Option State :=
  match v with
  | 1 => s.ringEnable r
  | 2 => some (s.ringDisable r)
  | _ => none

/-- Advance HEAD to a position; any value outside the records present has no effect (R325). -/
def moveHead (s : State) (r v : Nat) : State :=
  let x := s.ring r
  let v := v % 2 ^ 17 % (2 * x.size)
  if ahead v x.head x.size != 0 && decide (ahead v x.head x.size ≤ ahead x.tail x.head x.size) then s.modRing r fun x => { x with head := v }
  else s

/-- A head doorbell; one from another port has no effect (R325). -/
def headDoorbell (s : State) (port r : Nat) (v : BitVec 32) : State :=
  if drPort (s.ring r).cfg = port then s.moveHead r v.toNat else s

/-- Every ring of a port is disabled at the next instant (R326, R338). -/
def dropRings (s : State) (port : Nat) : State :=
  { s with counter := { s.counter with
      rings := Table.mapVals {} (fun x => if x.enabled && drPort x.cfg == port then { x with dropPending := true } else x) s.counter.rings } }

/-- Every ring is disabled at once: a warm reset, or a power failure (R326, R428). -/
def stopRings (s : State) : State :=
  { s with counter := { s.counter with
      rings := Table.mapVals {} (fun x => { x with
        enabled := false, deferredEnable := false, disablePending := false, dropPending := false, record := none }) s.counter.rings } }

/-- What an instant does to the state of a ring: a pending DISABLE takes effect, then a deferred ENABLE; a ring whose reader lost its permission, or whose delivery failed, is disabled with event 8204 (R326). -/
def settleRing (s : State) (r : Nat) : State :=
  let x := s.ring r
  let rc := s.ctxWord (drReaderCtx x.cfg)
  if !x.enabled then s
  else if x.dropPending || (drReaderValid x.cfg && !(ctxValid rc && ctxCtrRead rc)) then
    (s.modRing r fun x => { x with
      enabled := false, dropPending := false, disablePending := false, deferredEnable := false, record := none }).raise
      0x8204 .contained (.count r 0) (some (drPort x.cfg))
  else if x.disablePending then
    let s := s.modRing r fun x => { x with enabled := false, disablePending := false, deferredEnable := false, record := none }
    if x.deferredEnable && s.ringOk r then s.startRing r else s
  else s

/-- The rings that are ENABLED. -/
def enabledRings (s : State) : List Nat := (s.counter.rings.filter fun (p : Nat × DumpRing) => p.2.enabled).map (·.1)

/-- A grid instant is taken: records that are late are abandoned, rings that were to change do, and every ring that is due starts a record of the one snapshot (R320 to R324). -/
def takeInstant (s : State) (t : Nat) : State :=
  let last := s.counter.lastInstant
  let s := s.enabledRings.foldl (fun s r => s.missDeadline r) s
  let kept := s.enabledRings.filter fun r => !(s.ring r).disablePending
  let s := s.enabledRings.foldl (fun s r => s.settleRing r) s
  let live := kept.filter fun r => (s.ring r).enabled
  let s := live.foldl (fun s r => s.modRing r fun x => x.skip (s.dueBefore x last t)) s
  let due := live.filter fun r => s.dueAt (s.ring r) t
  let s := if due.isEmpty then s else s.takeSnapshot
  let s := due.foldl (fun s r => s.startRecord r t) s
  { s with counter := { s.counter with lastInstant := t } }

/-- SNAPSHOT_INSTANT: the latest grid instant, when it has not been taken (R320). -/
def snapshot (s : State) : State :=
  let b := s.dumpBase
  let t := s.canalTime / b * b
  if t ≤ s.counter.lastInstant then s
  else s.takeInstant t

end State

/-! ### The rows -/

/-- SNAPSHOT_INSTANT: a canal-time grid instant (R320). -/
def execSnapshotInstant (s : State) : Host.Outcome State Fault Refusal := run .snapshotInstant s State.snapshot

/-- DUMP_RECORD_DEADLINE: the dump-interval deadline of a ring's record (R324). -/
def execDumpRecordDeadline (ring : Nat) (s : State) : Host.Outcome State Fault Refusal :=
  run (.dumpRecordDeadline ring) s fun s => s.missDeadline ring

/-- DUMP_HEAD_DOORBELL: a head doorbell write through a queue BAR (R325). -/
def execDumpHeadDoorbell (port ring : Nat) (value : BitVec 32) (s : State) : Host.Outcome State Fault Refusal :=
  run (.dumpHeadDoorbell port ring value) s fun s => s.headDoorbell port ring value

end Sys2Proof.Machine
end

