-- ==== Sys2Proof/Machine/Canal.lean ====
section
/-! DEFINITION. Canal time and membership: the servo, trust, PPS_IN, records, joining, quarantine, departure, epochs and canal-shared objects (R358 to R372, R433). -/

namespace Sys2Proof.Machine

/-- The canal-shared objects in ascending order (R371). -/
def sharedObjects : List (Nat × Nat) := [(0x1200, 6), (0x1201, 8), (0x2400, 3), (0x3400, 2), (0x5201, 3)]

/-- The codes of the membership states (object 1201:03). -/
def MemberState.code : MemberState → Nat
  | .absent => 0
  | .joining => 1
  | .active => 2
  | .quarantined => 3
  | .departed => 4

namespace State

/-! ### The digest and the published record (R364, R371) -/

/-- The digest: the first 64 bits of SHA-384 over the canal-shared objects. -/
def digest (s : State) : BitVec 64 :=
  let m := (sharedObjects.map fun (i, j) => leBytes i 2 ++ leBytes j 1 ++ leBytes (s.reg i j) 8).flatten
  BitVec.ofNat 64 (ofLe ((beBytes (sha384 m) 48).take 8))

/-- PPS_IN is qualified: three accepted edges in a row, the last no more than 2 s ago (R433). -/
def ppsGood (s : State) : Bool := s.canal.pps.qualified && s.canal.pps.lastEdge.any fun t => decide (s.now ≤ t + 2000000000)

/-- The record that this device publishes. -/
def ownRecord (s : State) : MemberRecord where
  device := s.deviceNumber
  state := s.canal.member.code
  leader := s.canal.leader
  flightSize := s.flightSize
  fwLevel := 3
  stepping := 0x42
  digest := s.digest
  epoch := s.canal.epoch
  time := s.canalTime
  errorPs := s.canal.errorPs
  trusted := s.canal.trusted
  timeMaster := s.power.straps.getLsbD 24
  ppsQualified := s.ppsGood
  reason := s.canal.reason

end State

/-- The words of a record on the MGMT channel. -/
def recordWords (r : MemberRecord) : List Nat :=
  [r.device, r.state, r.leader, r.flightSize, r.fwLevel, r.stepping, r.digest.toNat, r.epoch, r.time, r.errorPs, bit r.trusted,
    bit r.timeMaster, bit r.ppsQualified, r.reason]

namespace State

/-- Send one MGMT message to every neighbour. -/
def tellNeighbours (s : State) (kind : Nat) (words : List Nat) : State :=
  s.neighbours.foldl (fun s d => s.sendMgmt d kind words) s

/-! ### Trust (R363) -/

/-- Whether the device is the time master. -/
def isMaster (s : State) : Bool := s.canal.master == s.deviceNumber

/-- Settle trust from the time state and the error estimate: event A002 on each loss of it. -/
def settleTrust (s : State) : State :=
  let now := (s.canal.timeState == .locked || (s.isMaster && s.canal.member == .active)) && decide (s.canal.errorPs ≤ 4000)
  let s' := { s with canal := { s.canal with trusted := now } }
  if s.canal.trusted && !now then s'.raise 0xA002 .degraded (.count s.canal.errorPs 0) else s'

/-! ### The upstream (R360, R362) -/

/-- The upstream link: on a fewest-hop path to the master, the lowest number among equals. -/
def chooseUpstream (s : State) : Option Nat :=
  let m := s.canal.master
  let up := (List.range 128).filter fun l => (s.linkAt l).st == .active || (s.linkAt l).st == .activeSlow
  if s.isMaster then none
  else match up.find? fun l => (s.linkAt l).peerDevice == m with
    | some l => some l
    | none => up.find? fun l =>
        let d := (s.linkAt l).peerDevice
        d / 32 == m / 32 || d % 32 == m % 32

/-- Follow the upstream as links and the master change: ACQUIRING on gaining one, HOLDOVER on losing the last. -/
def settleUpstream (s : State) : State :=
  let u := s.chooseUpstream
  let c := s.canal
  let acquire : CanalSt := { c with
    upstream := u, timeState := .acquiring, samples := 0, acquiringAt := s.now, lockMissed := false }
  let c := match u, c.upstream with
    | some _, none => acquire
    | some _, some _ => if c.timeState == .free || c.timeState == .holdover then acquire else { c with upstream := u }
    | none, some _ =>
      if s.isMaster then { c with upstream := none, timeState := .free, errorPs := 0 }
      else { c with upstream := none, timeState := .holdover }
    | none, none => if s.isMaster then { c with timeState := .free, errorPs := 0 } else c
  ({ s with canal := c } : State).settleTrust

/-! ### The time master (R358) -/

/-- The last record heard from a device (object 1202:02). -/
def heardRecord (s : State) (d : Nat) : Option MemberRecord :=
  (s.canal.peers.find? fun (p : Nat × PeerView) => p.1 == d).map fun (p : Nat × PeerView) => p.2.record

/-- The record of a device as this device knows it. -/
def recordOf (s : State) (d : Nat) : Option MemberRecord :=
  if d = s.deviceNumber then some s.ownRecord else s.heardRecord d

/-- The device that is the time master of a member set: trusted devices, or all when none is; first those with STRAP_TIMEMASTER and a qualified PPS_IN, then those with STRAP_TIMEMASTER, then any, the lowest number within each rank. -/
def chooseMaster (s : State) (members : List Nat) : Option Nat :=
  let known := members.filter fun d => !s.canal.quarantined.contains d
  let has (f : MemberRecord → Bool) (d : Nat) : Bool := match s.recordOf d with
    | some r => f r
    | none => false
  let trusted := known.filter (has (·.trusted))
  let eligible := if trusted.isEmpty then known else trusted
  let first := eligible.filter (has fun r => r.timeMaster && r.ppsQualified)
  let second := eligible.filter (has (·.timeMaster))
  (first ++ second ++ eligible).head?

/-- Take a master: event A003 when it changes. -/
def takeMaster (s : State) (m : Nat) : State :=
  let s := if m ≠ s.canal.master then
      ({ s with canal := { s.canal with master := m } } : State).raise 0xA003 .note (.peer m 0 0 0 s.canal.master)
    else s
  s.settleUpstream

/-! ### Stepping canal time (R370) -/

/-- Set canal time; no dump ring takes an instant twice. -/
def setCanalTime (s : State) (t : Nat) : State :=
  { s with
    canalTime := t % 2 ^ 64
    counter := { s.counter with rings := Table.mapVals {} (fun x => { x with since := min x.since t }) s.counter.rings } }

/-- Before the step to a winning view's time: cascade searches are released, and span commands and applications of the losing view end. -/
def beforeStep (s : State) : State :=
  (s.search.launches.foldl (fun s l => s.releaseLaunch l) s).dropSpans

/-- Step canal time back by a signed offset in 1/256 tick. -/
def stepBy (s : State) (offset : Int) : State :=
  s.setCanalTime (((Int.ofNat s.canalTime) - offset / 256).toNat)

/-! ### TIME flits (R360, R362) -/

/-- The offset of this device against its upstream, in 1/256 tick. -/
def offsetOf (t1 t2 t3 t4 : Nat) : Int := ((Int.ofNat t2 - Int.ofNat t1) - (Int.ofNat t4 - Int.ofNat t3)) / 2

/-- A TIME flit arrives. The upstream's drives the servo: 16 samples in a row below 500 ps (512 of 1/256 tick) lock it. -/
def timeFlit (s : State) (l t1 t2 t3 t4 err : Nat) : State :=
  let k := s.linkAt l
  if !(k.st == .active || k.st == .activeSlow) then s
  else
    let s := s.modLink l fun k => { k with lastTimeRx := s.canalTime * 256, lastValid := s.now }
    if s.canal.upstream ≠ some l then s
    else
      let off := offsetOf t1 t2 t3 t4
      let small := decide (off.natAbs < 512)
      let samples := if small then s.canal.samples + 1 else 0
      let s : State := { s with canal := { s.canal with errorPs := min (err + off.natAbs * 250 / 256) (2 ^ 32 - 1) } }
      if s.canal.timeState == .acquiring then
        let step := decide (1024000 < off.natAbs)
        let armed := s.canal.stepArmed
        let before := s.canalTime
        let s := if step && armed then s.beforeStep else s
        let s := if step then s.stepBy off else s
        let s : State := { s with canal := { s.canal with
          stepArmed := false
          slew := if step then 0 else -off
          samples := samples
          timeState := if 16 ≤ samples then .locked else .acquiring } }
        let s := if step && armed then s.raise 0xA005 .note (.count 0 (before % 2 ^ 34 * 2 ^ 34 + s.canalTime % 2 ^ 34)) else s
        s.settleTrust
      else ({ s with canal := { s.canal with slew := -off, samples := samples } } : State).settleTrust

/-- The lock deadline of R362. -/
def lockTimeout (s : State) : State :=
  let c := s.canal
  if c.timeState != .acquiring || c.lockMissed || decide (s.now < c.acquiringAt + s.reg 0x1200 6 * 1000000) then s
  else (({ s with canal := { c with lockMissed := true } } : State).deadlineMiss 8).raise 0xA001 .degraded

/-- Every 10 µs a TIME flit leaves on every ACTIVE link. -/
def sendTime (s : State) : State :=
  if s.now < s.canal.nextTimeSend then s
  else
    let up := (List.range 128).filter fun l => (s.linkAt l).st == .active || (s.linkAt l).st == .activeSlow
    let s := up.foldl (fun s l => s.emit (.timeFlit l (s.canalTime * 256) (s.linkAt l).lastTimeRx s.canal.errorPs)) s
    { s with canal := { s.canal with nextTimeSend := s.now + 10000 } }

/-! ### PPS_IN (R359, R433) -/

/-- One second of canal time in ticks. -/
def secondTicks : Nat := 4000000000

/-- A master with a qualified PPS_IN steers its seconds: a step at the edge that first qualifies it, then a slew. -/
def steerPps (s : State) (first : Bool) : State :=
  if !s.isMaster || !s.canal.pps.qualified then s
  else
    let r := s.canalTime % secondTicks
    if first then (if r = 0 then s else s.setCanalTime (s.canalTime + (secondTicks - r)))
    else
      let d : Int := if r * 2 ≤ secondTicks then -(Int.ofNat r) else Int.ofNat (secondTicks - r)
      { s with canal := { s.canal with slew := d * 256 } }

/-- An edge of PPS_IN that is taken: the third in a row qualifies the input, and a master steers by it (R359, R433). -/
def takeEdge (s : State) (fresh : Bool) : State :=
  let p := s.canal.pps
  let n := if fresh then 1 else p.accepted + 1
  let q : Pps := { lastEdge := some s.now, lastAny := some s.now, accepted := n, qualified := decide (3 ≤ n), stuck := false }
  let lost := p.qualified && fresh && s.isMaster
  let s := ({ s with canal := { s.canal with pps := q } } : State).steerPps (!p.qualified)
  if lost then s.raise 0xA004 .note else s

/-- A rising edge of PPS_IN. -/
def ppsEdge (s : State) : State :=
  let p := s.canal.pps
  let fresh := match p.lastEdge with
    | none => true
    | some t => decide (t + 2000000000 < s.now)
  let inWindow := match p.lastEdge with
    | none => false
    | some t => decide (t + 999900000 ≤ s.now) && decide (s.now ≤ t + 1000100000)
  if fresh || inWindow then s.takeEdge fresh
  else
    ({ s with
        canal := { s.canal with pps := { p with lastAny := some s.now, stuck := false } }
        power := { s.power with ppsRejected := sat32 (s.power.ppsRejected + 1) } } : State).raise 0xB009 .note

/-- No edge of PPS_IN for more than 2 s: it is unqualified until an edge arrives, and a master notes the loss. -/
def ppsStuck (s : State) : State :=
  let p := s.canal.pps
  if p.stuck || decide (s.now ≤ p.lastAny.getD s.power.windowAt + 2000000000) then s
  else
    let s : State := ({ s with canal := { s.canal with pps := { lastAny := p.lastAny, stuck := true } } } : State).raise 0xB00A .degraded
    if p.qualified && s.isMaster then s.raise 0xA004 .note else s

/-! ### The member set (R122, R365) -/

/-- The lowest-numbered ACTIVE, unquarantined device. -/
def leaderOf (s : State) (members : List Nat) : Nat :=
  ((sortDevices members).find? fun d => !s.canal.quarantined.contains d).getD s.deviceNumber

/-- A flight peer leaves active membership or is quarantined: its pointers and E sectors go, with one event 3008 for the departure (R122). -/
def purgePeer (s : State) (d : Nat) : State :=
  if d / 32 ≠ s.flight || d = s.deviceNumber || s.canal.purged.contains d then s
  else
    let s := { s with canal := { s.canal with purged := s.canal.purged ++ [d] } }
    let (s, n) := s.purgeHolders (fun h => h.pos == d % 32) (d % 32) none
    s.raise 0x3008 .contained (.peer d 0 0 n 0)

/-- Note the peers that no working path reaches: event 9015 once per peer per change (R354). -/
def settlePaths (s : State) : State :=
  let lost := s.canal.active.filter fun d => d != s.deviceNumber && (s.pathTo d 0).isNone
  let fresh := lost.filter fun d => !s.link.noPath.contains d
  fresh.foldl (fun s d => s.raise 0x9015 .degraded (.peer d 0 3 0 0)) { s with link := { s.link with noPath := lost } }

/-- The digest of the leader, as this device knows it. -/
def leaderDigest (s : State) : BitVec 64 :=
  match s.recordOf s.canal.leader with
  | some r => r.digest
  | none => s.digest

/-- The event of a quarantine reason. -/
def quarantineEvent (reason : Nat) : Nat := if reason = 4 then 0xA011 else 0xA010

/-- This device is QUARANTINED, with the reason's event (R366, R367). -/
def quarantineSelf (s : State) (reason : Nat) : State :=
  ({ s with canal := { s.canal with member := .quarantined, reason := reason } } : State).raise (quarantineEvent reason) .degraded
    (.peer s.deviceNumber 0 reason 0 0)

/-- The leader announces epoch e + 1 with a new member set, 200 µs ahead; while a change is in progress the next one waits. -/
def announce (s : State) (members : List Nat) : State :=
  let m := sortDevices members
  let p : PendingEpoch := { epoch := (s.canal.epoch + 1) % 2 ^ 32, leader := s.deviceNumber, members := m, instant := s.canalTime + 800000 }
  let s : State := { s with canal := { s.canal with pending := some p, wanted := [] } }
  (sortDevices (m ++ s.canal.active)).foldl (fun s d =>
    if d = s.deviceNumber then s else s.sendMgmt d mkEpoch ([p.epoch, p.leader, p.instant] ++ m)) s

/-- The member set with the wanted changes made: 0 departs or is quarantined, 1 is admitted. -/
def wantedSet (s : State) : List Nat :=
  s.canal.wanted.foldl (fun l (d, v) => if v = 0 then l.filter (· != d) else l.filter (· != d) ++ [d]) s.canal.active

/-- The leader announces what is wanted once no change is in progress. -/
def announceWanted (s : State) : State :=
  if s.canal.leader == s.deviceNumber && s.canal.member == .active && s.canal.pending.isNone && !s.canal.wanted.isEmpty then
    s.announce s.wantedSet
  else s

/-- Want a change of a member, at the leader. -/
def want (s : State) (d v : Nat) : State :=
  if s.canal.leader != s.deviceNumber || (s.canal.active.contains d == (v == 1)) ||
      (s.canal.pending.any fun p => p.members.contains d == (v == 1)) then s
  else ({ s with canal := { s.canal with wanted := s.canal.wanted.filter (·.1 != d) ++ [(d, v)] } } : State).announceWanted

/-- A device alone in its canal is its own leader and master and becomes ACTIVE at once (R358, R366). -/
def becomeAlone (s : State) : State :=
  let own := s.deviceNumber
  (({ s with canal := { s.canal with
      member := .active, epoch := (s.canal.epoch + 1) % 2 ^ 32, leader := own, active := [own], reason := 0, pending := none } } : State).takeMaster own).settleTrust

/-- A span chart's release that could not reach a device is sent to it when it is a member again (R214). -/
def sendReleases (s : State) (d : Nat) : State :=
  (s.search.released.filter (·.2 == d)).foldl (fun s (c, _) =>
    let x := s.chart c
    let j : SpanJob := { coordinator := s.deviceNumber, generation := x.generation, word1 := x.desc1, word0 := x.desc0
                         dmap := dmapList x.dmap, members := x.members, drop := true, instant := s.canalTime + 120000
                         started := s.now }
    ({ s with search := { s.search with released := s.search.released.filter (· != (c, d)) } } : State).sendPrepare d c j) s

/-- The notes of a device that joins: A013 when its quarantine is resolved, else A016. -/
def noteJoin (s : State) (d : Nat) : State :=
  let resolved := s.canal.quarantined.contains d || (d == s.deviceNumber && s.canal.reason != 0)
  let s : State := { s with canal := { s.canal with
      quarantined := s.canal.quarantined.filter (· != d), reasons := Table.set 0 s.canal.reasons d 0
      duplicates := s.canal.duplicates.filter (·.1 != d)
      reason := if d = s.deviceNumber then 0 else s.canal.reason } }
  ((s.raise (if resolved then 0xA013 else 0xA016) .note (.peer d 0 0 0 0)).sendReleases d).tellPendings d

/-- The notes and effects of a device that leaves the member set: A015, but for one that is QUARANTINED and has its own event (R122, R367, R368). -/
def noteDeparture (s : State) (d : Nat) : State :=
  let s : State := { s with canal := { s.canal with duplicates := s.canal.duplicates.filter (·.1 != d) } }
  let s := if s.isQuarantined d then s else s.raise 0xA015 .note (.peer d 0 0 0 0)
  (s.purgePeer d).pendingLeft d

/-- This device has been taken out of the member set: QUARANTINED where its digest differs from the leader's, else DEPARTED; its flight peers share nothing with it any more (R122, R368, R371). -/
def leaveSet (s : State) (members : List Nat) : State :=
  let own := s.deviceNumber
  let s := if !s.canal.left && s.digest != s.leaderDigest then s.quarantineSelf 4
    else ({ s with canal := { s.canal with member := .departed } } : State).noteDeparture own
  (members.filter (· != own)).foldl (fun s d => s.purgePeer d) s

/-- Apply an announced member set (R365). -/
def applyEpoch (s : State) (p : PendingEpoch) : State :=
  let own := s.deviceNumber
  let old := s.canal.active
  let mine := p.members.contains own
  let was := s.canal.member == .active
  let joined := if was then p.members.filter fun d => !old.contains d else if mine then [own] else []
  let gone := old.filter fun d => d != own && !p.members.contains d
  let s := if was && !mine then s.leaveSet old else s
  let s : State := { s with canal := { s.canal with
      epoch := p.epoch, pending := none, active := if mine then p.members else []
      member := if mine then .active else s.canal.member
      purged := s.canal.purged.filter fun d => !((if was then joined else p.members).contains d) } }
  let s := joined.foldl (fun s d => s.noteJoin d) s
  let s := gone.foldl (fun s d => s.noteDeparture d) s
  let s : State := { s with canal := { s.canal with leader := if mine then s.leaderOf p.members else own } }
  let s := match s.chooseMaster s.canal.active with
    | some m => s.takeMaster m
    | none => s
  s.announceWanted.settlePaths

/-! ### Canal-shared objects (R371) -/

/-- Every member has confirmed and the instant has passed: the command ends. -/
def canalSetDone (s : State) : State :=
  match s.canal.set with
  | none => s
  | some j =>
    if !j.applied || !j.unconfirmed.isEmpty then s
    else ({ s with canal := { s.canal with set := none } } : State).endCmd j.ticket 0

/-- At its instant a CANAL_SET takes effect here. -/
def canalSetApply (s : State) : State :=
  match s.canal.set with
  | none => s
  | some j =>
    if j.applied || decide (s.canalTime < j.instant) then s
    else (({ s with canal := { s.canal with set := some { j with applied := true } } } : State).setReg j.index j.sub j.value).canalSetDone

/-- EPOCH_APPLY: what was announced for an instant that has come takes effect. -/
def epochApply (s : State) : State :=
  let s := s.canalSetApply
  match s.canal.pending with
  | none => s
  | some p => if s.canalTime < p.instant then s else s.applyEpoch p

/-- A member that has not confirmed within 1 ms: event A018, and the command ends CANAL_UNCONFIRMED. -/
def canalSetTimeout (s : State) (d : Nat) : State :=
  match s.canal.set with
  | none => s
  | some j =>
    if !j.unconfirmed.contains d || decide (s.now < j.started + 1000000) then s
    else
      let late := j.unconfirmed
      let s := late.foldl (fun s d => s.raise 0xA018 .degraded (.peer d 0 0 0 0)) s
      ({ s with canal := { s.canal with
          set := none, suspects := sortDevices (s.canal.suspects ++ late) } } : State).endCmd j.ticket 0x1212

/-- CANAL_SET (R371, R372). -/
def canalSet (s : State) (ticket index sub v : Nat) : State :=
  let inRange := match objDef index sub with
    | some d => decide (d.lo ≤ v) && decide (v ≤ d.hi)
    | none => false
  if !sharedObjects.contains (index, sub) then s.endCmd ticket 0x1210
  else if s.canal.pending.isSome then s.endCmd ticket 0x1211
  else if !inRange then s.endCmd ticket 0x0011
  else
    let others := s.canal.active.filter (· != s.deviceNumber)
    let j : CanalSetJob := {
      ticket := ticket, index := index, sub := sub, value := v, instant := s.canalTime + 800000, unconfirmed := others, started := s.now }
    let s : State := { s with canal := { s.canal with set := some j } }
    others.foldl (fun s d => s.sendMgmt d mkCanalSet [index, sub, v, j.instant]) s

/-- CANAL_LEAVE (R368, R372). -/
def canalLeave (s : State) (ticket : Nat) : State :=
  if s.canal.pending.isSome then s.endCmd ticket 0x1211
  else
    let own := s.deviceNumber
    let s : State := { s with canal := { s.canal with left := true } }
    let s := s.tellNeighbours mkDeparture [own, 4]
    let s := if s.canal.member == .active then
        (if s.canal.leader == own then s.announce (s.canal.active.filter (· != own)) else s)
      else { s with canal := { s.canal with member := .departed } }
    s.endCmd ticket 0

/-- CANAL_JOIN (R366, R372). -/
def canalJoin (s : State) (ticket : Nat) : State :=
  if s.canal.pending.isSome then s.endCmd ticket 0x1211
  else
    let s : State := { s with canal := { s.canal with
        left := false, member := if s.canal.member == .active then .active else .joining } }
    s.endCmd ticket 0

/-! ### Records (R364, R366 to R369) -/

/-- Whether a record of an ACTIVE device was heard in the last 3 ms. -/
def hearsCanal (s : State) : Bool :=
  s.canal.peers.any fun (p : Nat × PeerView) => p.2.record.state == 2 && decide (s.now < p.2.heard + 3000000)

/-- The membership record leaves; a device that hears no canal becomes ACTIVE alone, and one that has departed without leaving joins again (R364, R366, R368). -/
def publishNow (s : State) : State :=
  let waits := s.canal.member == .absent || s.canal.member == .joining || s.canal.member == .departed
  let s := if !waits || s.canal.left then s
    else if !s.hearsCanal then s.becomeAlone
    else { s with canal := { s.canal with member := .joining } }
  let s := s.tellNeighbours mkRecord (recordWords s.ownRecord)
  { s with canal := { s.canal with nextPublish := s.now + 1000000 } }

/-- MEMBERSHIP_PUBLISH: every 1 ms (R364). -/
def publish (s : State) : State :=
  let runs := s.power.device == .window || s.power.device == .running
  if s.now < s.canal.nextPublish || !runs || s.testMode != 0 then s
  else s.publishNow

/-- Whether a view's last record was heard in the last 3 ms. -/
def viewFresh (s : State) (v : PeerView) : Bool := decide (s.now < v.heard + 3000000)

/-- The first join check: a JOINING or QUARANTINED device carries the number of a member that is heard as ACTIVE and is not to depart (Table: Join checks). -/
def isDuplicate (s : State) (r : MemberRecord) : Bool :=
  (r.state == 1 || r.state == 3) && s.canal.member == .active && s.canal.active.contains r.device && !s.isQuarantined r.device &&
    !(s.canal.pending.any fun p => !p.members.contains r.device) && !s.canal.wanted.contains (r.device, 0) &&
    s.canal.peers.any fun (p : Nat × PeerView) =>
      p.1 == r.device && p.2.record.state == 2 && p.2.record.leader == s.canal.leader && s.viewFresh p.2

/-- A table of views with one more record. -/
def noteView (t : Table PeerView) (r : MemberRecord) (now : Nat) : Table PeerView :=
  t.filter (·.1 < r.device) ++ (r.device, { record := r, heard := now }) :: t.filter fun (p : Nat × PeerView) => r.device < p.1

/-- A duplicate's record: it is forwarded once, and event A010 is logged when the duplicate is first heard; the member of that number keeps its place (R364, R366, R367). -/
def heardDuplicate (s : State) (r : MemberRecord) : State :=
  let old := s.canal.duplicates.find? fun (p : Nat × PeerView) => p.1 == r.device
  let s := if old.any fun p => p.2.record.time == r.time then s else s.tellNeighbours mkRecord (recordWords r)
  let s : State := { s with canal := { s.canal with duplicates := noteView s.canal.duplicates r s.now } }
  if old.any fun p => s.viewFresh p.2 then s else s.raise (quarantineEvent 1) .degraded (.peer r.device 0 1 0 0)

/-- The join checks after the first, in their order: the quarantine reason of the first that fails, 0 when all pass (Table: Join checks). -/
def joinCheck (s : State) (r : MemberRecord) : Nat :=
  if r.flightSize ≠ s.flightSize then 2
  else if r.fwLevel < 3 then 3
  else if r.digest ≠ s.leaderDigest then 4
  else 0

/-- Quarantine a device, with its event once per reason; a member leaves the set, and coherence forgets it (R122, R367). -/
def quarantine (s : State) (d reason : Nat) : State :=
  if Table.get 0 s.canal.reasons d = reason && s.canal.quarantined.contains d then s
  else
    let member := s.canal.active.contains d
    let s : State := { s with canal := { s.canal with
        quarantined := sortDevices (d :: s.canal.quarantined), reasons := Table.set 0 s.canal.reasons d reason } }
    let s := s.raise (quarantineEvent reason) .degraded (.peer d 0 reason 0 0)
    if member then (s.purgePeer d).want d 0 else s

/-- The own join checks against the record of a canal's member: a device that fails one is QUARANTINED. -/
def checkSelf (s : State) (r : MemberRecord) : State :=
  let reason := if r.device = s.deviceNumber then 1 else if r.flightSize ≠ s.flightSize then 2 else if r.fwLevel < 3 then 3
    else if r.device = r.leader && r.digest ≠ s.digest then 4 else 0
  if s.canal.member == .joining && reason ≠ 0 then s.quarantineSelf reason else s

/-- Whether a record shows another view than this device's: another leader, or an ACTIVE device that is no member here; a record of the epoch before or after a change is of the same view. -/
def otherView (s : State) (r : MemberRecord) : Bool :=
  r.state == 2 && s.canal.member == .active && (r.leader != s.canal.leader || !s.canal.active.contains r.device) &&
    !(s.canal.pending.any fun p => p.members.contains r.device)

/-- Drop a view that has lost: publish as JOINING and acquire the winner's time (R369, R370). -/
def dropView (s : State) (r : MemberRecord) : State :=
  let own := s.deviceNumber
  let gone := s.canal.active.filter (· != own)
  let s : State := { s with canal := { s.canal with
      member := .joining, active := [], pending := none, wanted := [], epoch := r.epoch, leader := r.leader
      master := r.leader, upstream := none, timeState := .acquiring, samples := 0, acquiringAt := s.now, lockMissed := false
      stepArmed := true } }
  let s := gone.foldl (fun s d => s.purgePeer d) s
  s.settleUpstream.settlePaths

/-- Resolve a conflict of views: the higher epoch wins, then the lower leader (R369). -/
def meetView (s : State) (r : MemberRecord) : State :=
  let mine := s.canal.epoch
  let s := s.raise 0xA014 .note (.peer r.device 0 0 mine (r.epoch % 2 ^ 32))
  if mine < r.epoch || (r.epoch = mine && r.leader < s.canal.leader) then s.dropView r
  else if s.canal.active.contains r.device then (s.purgePeer r.device).want r.device 0
  else s

/-- A device that is not ACTIVE follows the view of a canal that it hears. -/
def followView (s : State) (r : MemberRecord) : State :=
  if r.state == 2 && s.canal.member != .active && !s.canal.left && s.canal.epoch ≤ r.epoch then
    ({ s with canal := { s.canal with
        epoch := r.epoch, leader := r.leader
        master := if s.canal.master = s.deviceNumber then r.leader else s.canal.master } } : State).settleUpstream
  else s

/-- The record of a peer that has its number to itself (R364 to R368). -/
def heardMember (s : State) (r : MemberRecord) : State :=
  let newer := match s.recordOf r.device with
    | some x => decide (x.time < r.time) || x.epoch != r.epoch || x.state != r.state
    | none => true
  let s := if newer then s.tellNeighbours mkRecord (recordWords r) else s
  let s : State := { s with canal := { s.canal with
      peers := noteView s.canal.peers r s.now } }
  let s := match s.canal.set with
    | some j =>
      if j.applied && j.unconfirmed.contains r.device && r.digest = s.digest then
        ({ s with canal := { s.canal with set := some { j with unconfirmed := j.unconfirmed.erase r.device } } } : State).canalSetDone
      else s
    | none => s
  let suspect := s.canal.suspects.contains r.device
  let s : State := { s with canal := { s.canal with suspects := s.canal.suspects.filter (· != r.device) } }
  if suspect && r.digest ≠ s.leaderDigest then s.quarantine r.device 4
  else if s.otherView r then s.meetView r
  else match r.state with
    | 1 | 3 =>
      if s.canal.member != .active then s
      else
        let reason := s.joinCheck r
        if reason ≠ 0 then s.quarantine r.device reason else s.want r.device 1
    | 2 => (s.followView r).checkSelf r
    | 4 => if s.canal.active.contains r.device then s.want r.device 0 else s
    | _ => s

/-- A peer's record arrives (R364 to R368). -/
def heardPeer (s : State) (r : MemberRecord) : State := if s.isDuplicate r then s.heardDuplicate r else s.heardMember r

/-- MEMBERSHIP_RECORD: a record arrives; the device's own tells it of a view that it is to follow. -/
def heard (s : State) (r : MemberRecord) : State :=
  if r.device = s.deviceNumber then (if r.state == 2 then s.checkSelf r else s)
  else s.heardPeer r

/-- MEMBER_SILENCE: no record of a member for 3 ms; the lowest member left is the leader and lets it depart (R365, R368). -/
def memberSilent (s : State) (d : Nat) : State :=
  let silent (x : Nat) : Bool := x != s.deviceNumber && match Table.get none (s.canal.peers.map fun (p : Nat × PeerView) => (p.1, some p.2.heard)) x with
    | some t => decide (t + 3000000 ≤ s.now)
    | none => true
  if !s.canal.active.contains d || !silent d || s.canal.member != .active then s
  else
    let left := s.canal.active.filter fun x => !silent x
    let lead := s.leaderOf left
    let s := if silent s.canal.leader then { s with canal := { s.canal with leader := lead } } else s
    s.want d 0

/-- EPOCH_ANNOUNCE: the leader's announcement arrives. -/
def epochAnnounced (s : State) (epoch leader : Nat) (members : List Nat) (instant : Nat) : State :=
  if epoch ≤ s.canal.epoch || (s.canal.pending.any fun p => epoch ≤ p.epoch) || leader = s.deviceNumber then s
  else
    let p : PendingEpoch := { epoch := epoch, leader := leader, members := sortDevices members, instant := instant }
    { s with canal := { s.canal with pending := some p } }

/-- QUARANTINE_REPORT: the quarantine events are logged again (R367). -/
def reportQuarantine (s : State) : State :=
  let all := s.canal.quarantined.map (fun d => (d, Table.get 0 s.canal.reasons d)) ++
    (s.canal.duplicates.filter fun (p : Nat × PeerView) => s.viewFresh p.2).map fun (p : Nat × PeerView) => (p.1, 1)
  let all := if s.canal.member == .quarantined then all ++ [(s.deviceNumber, s.canal.reason)] else all
  if all.isEmpty || decide (s.now < s.canal.nextQuarReport) then s
  else
    let s := all.foldl (fun s (d, r) => s.logEvent {
      code := quarantineEvent r, cls := .degraded, detail := .peer d 0 r 0 0, ownInterval := true }) s
    { s with canal := { s.canal with nextQuarReport := s.now + s.reg 0x1201 8 * 1000000 } }

end State

/-! ### The rows -/

/-- TIME_FLIT_SEND (R360). -/
def execTimeFlitSend (s : State) : Host.Outcome State Fault Refusal := run .timeFlitSend s State.sendTime

/-- TIME_FLIT (R360). -/
def execTimeFlit (link t1 t2 t3 t4 errorPs : Nat) (s : State) : Host.Outcome State Fault Refusal :=
  run (.timeFlit link t1 t2 t3 t4 errorPs) s fun s => s.timeFlit link t1 t2 t3 t4 errorPs

/-- TIME_LOCK_TIMEOUT (R362). -/
def execTimeLockTimeout (s : State) : Host.Outcome State Fault Refusal := run .timeLockTimeout s State.lockTimeout

/-- PPS_EDGE (R433). -/
def execPpsEdge (s : State) : Host.Outcome State Fault Refusal := run .ppsEdge s State.ppsEdge

/-- PPS_STUCK (R433). -/
def execPpsStuck (s : State) : Host.Outcome State Fault Refusal := run .ppsStuck s State.ppsStuck

/-- MEMBERSHIP_PUBLISH (R364). -/
def execMembershipPublish (s : State) : Host.Outcome State Fault Refusal := run .membershipPublish s State.publish

/-- MEMBERSHIP_RECORD (R364). -/
def execMembershipRecord (record : MemberRecord) (s : State) : Host.Outcome State Fault Refusal :=
  run (.membershipRecord record) s fun s => s.heard record

/-- MEMBER_SILENCE (R368). -/
def execMemberSilence (device : Nat) (s : State) : Host.Outcome State Fault Refusal :=
  run (.memberSilence device) s fun s => s.memberSilent device

/-- EPOCH_ANNOUNCE (R365). -/
def execEpochAnnounce (epoch leader : Nat) (members : List Nat) (instant : Nat) (s : State) : Host.Outcome State Fault Refusal :=
  run (.epochAnnounce epoch leader members instant) s fun s => s.epochAnnounced epoch leader members instant

/-- EPOCH_APPLY (R365). -/
def execEpochApply (s : State) : Host.Outcome State Fault Refusal := run .epochApply s State.epochApply

/-- QUARANTINE_REPORT (R367). -/
def execQuarantineReport (s : State) : Host.Outcome State Fault Refusal := run .quarantineReport s State.reportQuarantine

/-- CANAL_SET_CONFIRM_TIMEOUT (R371). -/
def execCanalSetConfirmTimeout (device : Nat) (s : State) : Host.Outcome State Fault Refusal :=
  run (.canalSetConfirmTimeout device) s fun s => s.canalSetTimeout device

end Sys2Proof.Machine
end

