-- ==== Sys2Proof/Machine/Ports.lean ====
section
/-! DEFINITION. Quads, host and pool ports and pool targets: their configuration, training, the per-port reset and link loss (R331 to R343). -/

namespace Sys2Proof.Machine
namespace State

/-! ### Configuration (R331, R332, R341) -/

/-- The role of a quad: 0 DISABLED, 1 HOST, 2 POOL. -/
def quadRole (s : State) (q : Nat) : Nat := Table.get 0 s.link.quads q

/-- The role of a port: that of its first quad. -/
def portRole (s : State) (p : Nat) : Nat := s.quadRole (pcFirstQuad (s.port p).cfg)

/-- The enabled port that uses a quad. -/
def quadUser (s : State) (q : Nat) : Option Nat :=
  (List.range 128).find? fun p =>
    let c := (s.port p).cfg
    pcEnable c && decide (pcFirstQuad c ≤ q) && decide (q < pcFirstQuad c + pcQuads c)

/-- A write of QUAD_ROLE, or the abort that refuses it. -/
def writeQuadRole (s : State) (q v : Nat) : Except Nat State :=
  if (s.quadUser q).isSome then .error abortWrongState
  else if 2 < v then .error abortInvalidValue
  else .ok { s with link := { s.link with quads := Table.set 0 s.link.quads q v } }

/-- The conditions on an enabled port's configuration word (R332). -/
def portConfigOk (s : State) (p : Nat) (w : BitVec 32) : Bool :=
  let quads := (List.range (pcQuads w)).map (pcFirstQuad w + ·)
  let role := s.quadRole (pcFirstQuad w)
  pcFirstQuad w % pcQuads w == 0 && role != 0 &&
    quads.all fun q => s.quadRole q == role && match s.quadUser q with
      | none => true
      | some u => u == p

/-- A write of PORT_CONFIG, or the abort that refuses it. -/
def writePortConfig (s : State) (p : Nat) (w : BitVec 32) : Except Nat State :=
  let w := setFld w 0 18 0
  if pcEnable (s.port p).cfg then .error abortWrongState
  else if pcWidth w = 3 || pcMaxSpeed w = 3 || (pcEnable w && !s.portConfigOk p w) then .error abortInvalidValue
  else .ok (s.modPort p fun x => { x with cfg := w, st := if pcEnable w then .down else .disabled })

/-- Whether an ACTIVE region, or a protected region that is not EMPTY, lies in a pool target (R341). -/
def targetUsed (s : State) (t : Nat) : Bool :=
  let d := Table.get 0 s.link.targets t
  let lo := ptDpaBase d / 2 ^ 21
  let hi := (ptDpaBase d + ptDpaSize d) / 2 ^ 21
  (s.tenant.regions.any fun (p : Nat × Region) => (p.2.st == .active || p.2.st == .committing) && rdKind p.2.desc1 == 0 &&
    decide (rdDpaBase p.2.desc0 < hi) && decide (lo < rdDpaBase p.2.desc0 + rdUnits p.2.desc0)) ||
  s.prot.regions.any fun (p : Nat × ProtRegion) => p.2.st != .empty &&
    pdTarget (if p.2.st == .staged then p.2.staged1 else p.2.desc1) == t

/-- The checks on a VALID target (R341). -/
def targetOk (s : State) (t : Nat) (w : Word128) : Bool :=
  let others := s.link.targets.filter fun (p : Nat × Word128) => p.1 != t && ptValid p.2
  s.portRole (ptPort w) == 2 && decide (ptDpaSize w ≤ ptPoolSize w) && decide (ptDpaBase w + ptDpaSize w ≤ 2 ^ 44) &&
    others.all fun (p : Nat × Word128) =>
      !(areasMeet (ptDpaBase w, ptDpaSize w) (ptDpaBase p.2, ptDpaSize p.2)) &&
        !(ptPort p.2 == ptPort w && areasMeet (ptPoolBase w, ptPoolSize w) (ptPoolBase p.2, ptPoolSize p.2))

/-- A write of a pool target descriptor, or the abort that refuses it. -/
def writeTarget (s : State) (t : Nat) (w : Word128) : Except Nat State :=
  if ptValid (Table.get 0 s.link.targets t) && s.targetUsed t then .error abortWrongState
  else if ptReserved w || (ptValid w && !s.targetOk t w) then .error abortInvalidValue
  else .ok { s with link := { s.link with targets := Table.set 0 s.link.targets t w } }

/-! ### Training (R333, R337, R338, R340) -/

/-- The widest width that both sides support, in lanes; 0 when none is. -/
def widthOf (mine partner : Nat) : Nat :=
  if 16 ≤ min mine partner then 16 else if 8 ≤ min mine partner then 8 else if 4 ≤ min mine partner then 4 else 0

/-- The speed of a code in GT/s. -/
def speedOf (code : Nat) : Nat := if code = 0 then 64 else if code = 1 then 32 else 16

/-- A port finishes training: a host port is UP, a pool port is enumerated first; a speed below 64 GT/s and a width below the configured one each raise event 9003 (R333, R340). -/
def portTrained (s : State) (p code lanes : Nat) : State :=
  let c := (s.port p).cfg
  let width := widthOf (4 * pcQuads c) lanes
  let speed := speedOf (max (pcMaxSpeed c) code)
  if !pcEnable c || (s.port p).st != .down || width = 0 || s.testMode == 1 || s.isFatal then s
  else
    let s := s.modPort p fun x => { x with
      st := if s.portRole p = 2 then .enumerating else .up, speed := speed, lanes := width, ide := 0 }
    let s := if speed < 64 then s.raise 0x9003 .degraded (.count p 0) (some p) else s
    if width < 4 * pcQuads c then s.raise 0x9003 .degraded (.count p 0) (some p) else s

/-- Enumeration of a pool expander ends (R340). -/
def enumerated (s : State) (p : Nat) (usable : Bool) : State :=
  if (s.port p).st != .enumerating then s
  else if usable then s.modPort p fun x => { x with st := .up }
  else (s.modPort p fun x => { x with st := .failed }).raise 0x9006 .degraded (.count p 0) (some p)

/-- A pool port's link goes down (R342). -/
def poolLinkLost (s : State) (p : Nat) : State :=
  let st := (s.port p).st
  if s.portRole p != 2 || !(st == .up || st == .enumerating || st == .failed) then s
  else (s.modPort p fun x => { x with st := .down, speed := 0, lanes := 0 }).failPort p

/-- CXL IDE is active in containment mode (R337). -/
def ideActive (s : State) (p : Nat) : State :=
  if s.portRole p = 1 && (s.port p).st == .up then s.modPort p fun x => { x with ide := 1 } else s

/-- The host commits its HDM decoder over one 4 PiB range (R16, R338). -/
def commitHdm (s : State) (p base : Nat) : State :=
  if s.portRole p = 1 && (s.port p).st == .up && base % 2 ^ 52 = 0 then s.modPort p fun x => { x with hdmBase := some base } else s

/-! ### The per-port reset (R338, R339) -/

/-- The port that a transaction's responses go to. -/
def txnPort (t : Txn) : Option Nat :=
  match t.req.origin with
  | .host p _ _ => some p
  | .io p _ _ => some p
  | _ => none

/-- Requests of a port that have no decode yet are discarded, those that wait in an ingress store among them (R338, step 1). -/
def dropUndecoded (s : State) (p : Nat) : State :=
  let gone := (s.tenant.txns.filter fun t => txnPort t == some p && !t.decoded).map (·.req.id)
  let kept (ids : List Nat) : List Nat := ids.filter fun id => !gone.contains id
  let strip (l : Lookaside) : Lookaside :=
    { l with
      misses := l.misses.map fun m => { m with txns := kept m.txns }
      held := kept l.held
      ingress := l.ingress.filter (·.port != p) }
  { s with tenant := { s.tenant with
      look := Table.mapVals {} strip s.tenant.look
      txns := s.tenant.txns.filter fun t => !gone.contains t.req.id } }

/-- The walk of R122 for a port of this device: its pointers go, its E sectors are poisoned and its snoops end; snoops of peers' homes there are answered. -/
def purgePort (s : State) (p : Nat) : State :=
  let (s, _) := s.purgeHolders (fun h => h.pos == s.position && h.port == p) s.position (some p)
  s.home.peerSnoops.foldl (fun s x => s.answerPeerSnoop x.id) s

/-- The lookaside buffers of a port's quads and its lines of the snoop translation buffer are purged (R338, step 4). -/
def purgeBuffers (s : State) (p : Nat) : State :=
  let c := (s.port p).cfg
  let s := (List.range (pcQuads c)).foldl (fun s i =>
    s.modLook (.quad (pcFirstQuad c + i)) fun l => { l with entries := [], purges := l.purges + 1 }) s
  { s with home := { s.home with stb := s.home.stb.filter (·.port != p) } }

/-- The queues of a port that run. -/
def portQueues (s : State) (p : Nat) : List Nat :=
  (s.queue.queues.filter fun (x : Nat × Queue) => qcPort x.2.cfg == p &&
    (x.2.st == .active || x.2.st == .recovery || x.2.st == .draining)).map fun (x : Nat × Queue) => x.1

/-- Queues with HOST_PORT = p drain, with one event 4009 for the reset, or halt when the link was lost (R164). The manual leaves open, and the model chooses (DESIGN CHOICE): a queue that drains already goes on as it was, with a deferred ENABLE that it has; 4009 is raised when some queue was ACTIVE or RECOVERY; and QUEUE_LAST_EVENT of the drained queues stays as it was (R166). -/
def stopPortQueues (s : State) (p : Nat) (lost : Bool) : State :=
  let qs := s.portQueues p
  if lost then qs.foldl (fun s q => s.haltQueue q 0x4002) s
  else
    let running := qs.filter fun q => (s.queueAt q).st != .draining
    let s := running.foldl (fun s q => (s.queueDisable q).getD s) s
    if running.isEmpty then s else s.raise 0x4009 .note (.count p 0) (some p)

/-- The steps of a per-port reset that are done at once: ingress stops, snoops to the port end, buffers are purged, queues drain or halt and dump rings are dropped (R338, R339). The event tells the cause. -/
def portDown (s : State) (p ide code : Nat) (cls : FaultClass) (lost disabling : Bool) : State :=
  let s := s.modPort p fun x => { x with
    st := .resetting, ide := ide, suspect := false, hdmBase := none, disabling := disabling, speed := 0, lanes := 0 }
  let s := if s.portRole p = 1 then ((((s.dropUndecoded p).purgePort p).purgeBuffers p).stopPortQueues p lost).dropRings p
    else s.failPort p
  s.raise code cls (.count p 0) (some p)

/-- A hot reset, secondary bus reset or CXL Reset of a host port. -/
def portReset (s : State) (p : Nat) : State :=
  if s.portRole p = 1 && (s.port p).st == .up then s.portDown p 0 0x9002 .note false false else s

/-- A host link goes down without a reset (R339). -/
def hostLinkLost (s : State) (p : Nat) : State :=
  if s.portRole p = 1 && (s.port p).st == .up then s.portDown p 0 0x9001 .contained true false else s

/-- An IDE integrity or key failure (R337). -/
def ideFailed (s : State) (p : Nat) : State :=
  if s.portRole p = 1 && (s.port p).st == .up then s.portDown p 2 0x9004 .contained false false else s

/-- Whether requests of a port are still held. -/
def portBusy (s : State) (p : Nat) : Bool := s.tenant.txns.any fun t => txnPort t == some p

/-- The port's requests have ended: what they were granted meanwhile is removed, and training is allowed again, or ENABLE is cleared (R332, R338). -/
def portDrained (s : State) (p : Nat) : State :=
  if (s.port p).st != .resetting || s.portBusy p then s
  else
    let s := if s.portRole p = 1 then (s.purgePort p).purgeBuffers p else s
    s.modPort p fun x =>
      if x.disabling then { x with st := .disabled, disabling := false, cfg := setFld x.cfg 31 1 0 } else { x with st := .down }

/-- A write of PORT_CONTROL, or the abort that refuses it: DISABLE runs the per-port reset first (R332, R338). -/
def writePortControl (s : State) (p v : Nat) : Except Nat State :=
  if v ≠ 2 then .error abortInvalidValue
  else if !pcEnable (s.port p).cfg then .ok s
  else if (s.port p).st == .resetting then .ok (s.modPort p fun x => { x with disabling := true })
  else .ok (s.portDown p 0 0x9002 .note false true)

end State

/-! ### The rows -/

/-- PER_PORT_CXL_RESET (R338). -/
def execPerPortCxlReset (port : Nat) (s : State) : Host.Outcome State Fault Refusal :=
  run (.perPortCxlReset port) s fun s => s.portReset port

/-- PORT_RESET_DRAIN_DONE (R338, step 6). -/
def execPortResetDrainDone (port : Nat) (s : State) : Host.Outcome State Fault Refusal :=
  run (.portResetDrainDone port) s fun s => s.portDrained port

/-- HOST_LINK_DOWN (R339). -/
def execHostLinkDown (port : Nat) (s : State) : Host.Outcome State Fault Refusal :=
  run (.hostLinkDown port) s fun s => s.hostLinkLost port

/-- PORT_LINK_UP (R333). -/
def execPortLinkUp (port speed lanes : Nat) (s : State) : Host.Outcome State Fault Refusal :=
  run (.portLinkUp port speed lanes) s fun s => s.portTrained port speed lanes

/-- IDE_FAILURE (R337). -/
def execIdeFailure (port : Nat) (s : State) : Host.Outcome State Fault Refusal :=
  run (.ideFailure port) s fun s => s.ideFailed port

/-- IDE_ACTIVATION (R337). -/
def execIdeActivation (port : Nat) (s : State) : Host.Outcome State Fault Refusal :=
  run (.ideActivation port) s fun s => s.ideActive port

/-- HDM_DECODER_COMMIT (R338). -/
def execHdmDecoderCommit (port base : Nat) (s : State) : Host.Outcome State Fault Refusal :=
  run (.hdmDecoderCommit port base) s fun s => s.commitHdm port base

/-- POOL_ENUMERATION_DONE (R340). -/
def execPoolEnumerationDone (port : Nat) (usable : Bool) (s : State) : Host.Outcome State Fault Refusal :=
  run (.poolEnumerationDone port usable) s fun s => s.enumerated port usable

/-- POOL_LINK_DOWN (R342). -/
def execPoolLinkDown (port : Nat) (s : State) : Host.Outcome State Fault Refusal :=
  run (.poolLinkDown port) s fun s => s.poolLinkLost port

end Sys2Proof.Machine
end

