-- ==== Sys2Proof/Machine/Ras.lean ====
section
/-! DEFINITION. Integrity and fault reporting: the patrol scrub, the management stores, leaking buckets, notifications and error injection (R277, R283, R286 to R289, R292, R299 to R301). -/

namespace Sys2Proof.Machine

/-! ### Patrol scrub (R286 to R289) -/

/-- The reads of a scrub pass over the structure of a bucket; 0 for a structure that the scrub does not read (R286). A read takes a sector of data or directory, a set of tags, the image of a pattern-store row, and a word elsewhere. -/
def scrubReads (b : Nat) : Nat :=
  match bucketClass b with
  | some 0 => 1048576
  | some 1 => 4096
  | some 2 => 98304
  | some 5 => 1048576
  | some 6 => 8192
  | some 7 => 8192
  | some 8 => 524288
  | some 9 => 786432
  | some 10 => 1048576
  | some 12 => 524288
  | some 13 => 131072
  | _ => 0

/-- The structures that the scrub reads. -/
def scrubStores : List Nat := (List.range 375).filter fun b => scrubReads b != 0

namespace State

def scrubOf (s : State) (b : Nat) : Scrub := Table.get {} s.ras.scrubs b

def modScrub (s : State) (b : Nat) (f : Scrub → Scrub) : State :=
  { s with ras := { s.ras with scrubs := Table.modify {} s.ras.scrubs b f } }

/-- The counter-cache block that stands in a set and way of a pound. -/
def blockAt (s : State) (pound set way : Nat) : Option (Nat × CcBlock) :=
  s.prot.cc.find? fun (p : Nat × CcBlock) =>
    ccRootOf p.1 % 2 == pound && ccSet (ccRootOf p.1) (ccLevelOf p.1) (ccIndexOf p.1) == set && p.2.way == way

/-- Whether the owner of what a scrub read takes holds it in a working copy: a directory set with a running tracker, a pinned block, a row that is apply-pending (R289). -/
def scrubHeld (s : State) (b n : Nat) : Bool :=
  match bucketClass b with
  | some 2 => (s.slice (b - 128)).trackers.any fun t => dirSet t.dpa == n / 3
  | some 5 => match s.blockAt (b - 352) (n / 64) (n / 4 % 16) with
    | some p => p.2.pinned
    | none => false
  | some 8 => s.applyPending ((b - 358) * 524288 + n)
  | _ => false

/-- A word of the management private SRAM (R277): the regulator's words are checked by its own rule (R314). -/
def checkSram (s : State) (w : Nat) (src : Source) : State :=
  if w < 40960 then (s.regCheckWord (w % 20480) src).1 else s.checkPrivate w src

/-- A firmware-table word, numbered stack × 786,432 + word, has been restored from its mirror (R277). -/
def firmwareRestored (s : State) (n : Nat) : State :=
  if !s.ras.fwRestore.contains n then s
  else
    let k := n / fwWords
    let w := n % fwWords
    ({ s with ras := { s.ras with fwRestore := s.ras.fwRestore.filter (· != n) } } : State).setDamage (362 + k) w 0

/-- The address of the data in a set and way of a slice, for a record. -/
def wayDpa (s : State) (k set way sector : Nat) : Nat :=
  (if s.wayMode k way == .moored then blockDpa k set (65536 + (15 - way)) else blockDpa k set (s.tagAt k set way).tag) + 64 * sector

/-- The scrub reads a data sector of a slice (R288). -/
def scrubData (s : State) (k n : Nat) : State :=
  let set := n / 256
  let way := n / 16 % 16
  let sector := n % 16
  match s.wayMode k way with
  | .cache => (s.readWays k set way sector (s.wayDpa k set way sector) 0 0 false .scrub).1
  | .moored => (s.readWays k set way sector (s.wayDpa k set way sector) 0 0 true .scrub).1
  | _ => s

/-- The scrub reads a tag set: only CACHE ways have tags in use (R288). -/
def scrubTags (s : State) (k set : Nat) : State :=
  (s.cacheWays k).foldl (fun s w => s.checkTag k set w (blockDpa k set (s.tagAt k set w).tag) .scrub) s

/-- The scrub reads a Chamber RAM word: a correctable one is written back, an uncorrectable one is kept with event 7009 (R288). -/
def scrubChamber (s : State) (w : Nat) : State :=
  let v := eccCheck (s.damageAt 368 w)
  let src := s.errSource 368 w .scrub
  match v with
  | .uncorrectable _ _ =>
    s.reportError 368 true
      { code := 0x7009, cls := .contained, source := src, detail := .location 368 w (syndromeField v) 0 } w (syndromeField v)
  | _ => (s.checkChamber w .scrub).1

/-- One read of the scrub of a structure (R286, R288). -/
def scrubWord (s : State) (b n : Nat) : State :=
  match bucketClass b with
  | some 0 => s.scrubData b n
  | some 1 => s.scrubTags (b - 64) n
  | some 2 => (List.range 4).foldl (fun s i => s.checkDir (b - 128) (n / 3) (n % 3 * 4 + i) .scrub) s
  | some 5 => match s.blockAt (b - 352) (n / 64) (n / 4 % 16) with
    | some p => (s.ccRead (ccRootOf p.1) (ccLevelOf p.1) (ccIndexOf p.1) .scrub [n % 4]).1
    | none => s
  | some 6 => s.rootRead (n / 4 * 2 + (b - 354)) .scrub [n % 4]
  | some 7 => (s.useKey (b - 356) (n / 2) .scrub [n % 2]).1
  | some 8 => (s.checkImage ((b - 358) * 524288 + n) .scrub).1
  | some 9 => s.checkFirmware (b - 362) n .scrub
  | some 10 => (s.checkDatum (2 * n) .scrub).1
  | some 12 => s.scrubChamber n
  | some 13 => s.checkSram n .scrub
  | _ => s

/-- A pass ends when every word is read; the next begins at once. -/
def endPass (s : State) (b : Nat) : State :=
  let c := s.scrubOf b
  if c.word < scrubReads b || s.ras.skipped.any (fun x => x / 2 ^ 32 == b) then s
  else s.modScrub b fun c => { word := 0, passes := sat32 (c.passes + 1), began := s.now, late := false }

/-- The next read of the scrub of a structure: a read whose word its owner holds is skipped, and returned to before the pass ends (R289). -/
def scrubNext (s : State) (b : Nat) : State :=
  let c := s.scrubOf b
  if s.reg 0x4200 2 = 0 || scrubReads b = 0 then s
  else if c.word < scrubReads b then
    let s := s.modScrub b fun c => { c with word := c.word + 1 }
    if s.scrubHeld b c.word then
      { s with ras := { s.ras with skipped := s.ras.skipped ++ [b * 2 ^ 32 + c.word] } }
    else (s.scrubWord b c.word).endPass b
  else
    match s.ras.skipped.find? fun x => x / 2 ^ 32 == b && !s.scrubHeld b (x % 2 ^ 32) with
    | none => s
    | some x =>
      let s := { s with ras := { s.ras with skipped := s.ras.skipped.filter (· != x) } }
      (s.scrubWord b (x % 2 ^ 32)).endPass b

/-- SCRUB_PERIOD in ns. -/
def scrubPeriod (s : State) : Nat := s.reg 0x4200 1 * 3600000000000

/-- The first structure whose pass has not ended after SCRUB_PERIOD raises event 700A (R287, R293). -/
def scrubMissed (s : State) : State :=
  match scrubStores.find? fun b => !(s.scrubOf b).late && decide ((s.scrubOf b).began + s.scrubPeriod ≤ s.now) with
  | none => s
  | some b =>
    (((s.modScrub b fun c => { c with late := true }).deadlineMiss 3).bump32 0x4200 5).raise 0x700A .degraded
      (.location b (s.scrubOf b).word 0 0) none .scrub

/-- The passes and the progress in percent of the slowest structure (R302). -/
def slowestScrub (s : State) : Nat × Nat :=
  let l := scrubStores.map fun b => ((s.scrubOf b).passes, (s.scrubOf b).word * 100 / scrubReads b)
  match l with
  | [] => (0, 0)
  | x :: xs => xs.foldl (fun a y => if y.1 < a.1 || (y.1 == a.1 && decide (y.2 < a.2)) then y else a) x

/-! ### Leaky buckets (R283) -/

/-- A multiple of a class's leak interval has passed: its buckets lose 1. -/
def bucketLeak (s : State) (cls : Nat) : State :=
  if !s.leakDue cls (s.regAt 0x4211 3 cls) then s
  else
    let s := s.leakStep cls
    { s with ras := { s.ras with buckets :=
        ((s.ras.buckets.map fun (p : Nat × Bucket) =>
          (p.1, if bucketClass p.1 == some cls then { p.2 with level := p.2.level - 1 } else p.2)).filter
            fun p => decide (p.2 ≠ {})) } }

/-- The leak grid of a class, 15 for the drydock buckets, counts anew (R78, R283). -/
def restartGrid (s : State) (cls : Nat) : State :=
  { s with ras := { s.ras with
      leakStart := Table.set 0 s.ras.leakStart cls s.now
      leakDone := Table.set 0 s.ras.leakDone cls 0 } }

/-! ### Notifications (R300, R301) -/

/-- The record with a sequence number, while the log holds it. -/
def logRecord (s : State) (seq : Nat) : Option LogRecord := s.ras.log.find? (·.seq == seq)

/-- A host port's interrupt for the records that wait for it, at most one per 10 µs (R300). -/
def hostNotify (s : State) (p : Nat) : State :=
  let last := Table.get 0 s.ras.hostNotified p
  if s.mgmt.dead || Table.get 0 s.ras.hostPending p = 0 || s.portRole p ≠ 1 || (s.port p).st != .up ||
      (last != 0 && decide (s.now + 1 < last + 10000)) then s
  else
    ({ s with ras := { s.ras with
        hostPending := Table.set 0 s.ras.hostPending p 0
        hostNotified := Table.set 0 s.ras.hostNotified p (s.now + 1) } } : State).emit
      (.msix p (s.regAt 0x7020 3 p))

/-- The data of an EVENT frame (R392). -/
def eventData (r : LogRecord) : List Byte :=
  leBytes (r.seq % 2 ^ 32 + r.event % 2 ^ 16 * 2 ^ 32 + r.cls.code * 2 ^ 48 + r.device % 1024 * 2 ^ 64) 10

/-- An EVENT frame leaves on a field bus that is UP (R301, R398). -/
def sendEvent (s : State) (r : LogRecord) (bus : Nat) : State :=
  if s.mgmt.fbState.getLsbD bus then
    s.emit (.eventFrame (bus == 1) s.mgmt.notifyAddr (frameHeader 7 0 0 0 0 0 10 0) (eventData r))
  else s

/-- The board controller's or the field bus's notification of the latest record that waits for it, at most one per 100 µs (R301). -/
def notifyBus (s : State) (which : Nat) : State :=
  let last := Table.get 0 s.ras.busNotified which
  match s.logRecord (Table.get 0 s.ras.busPending which) with
  | none => s
  | some r =>
    if s.mgmt.dead || (last != 0 && decide (s.now + 1 < last + 100000)) || (which == 1 && s.mgmt.fbState == 0) then s
    else
      let s := { s with ras := { s.ras with
          busPending := Table.set 0 s.ras.busPending which 0
          busNotified := Table.set 0 s.ras.busNotified which (s.now + 1) } }
      if which = 0 then s.emit (.ibi (BitVec.ofNat 8 (0xE0 + r.cls.code)))
      else (s.sendEvent r 0).sendEvent r 1

/-- The pace of a transport allows its notification; a mailbox has none but its port's MSI-X (R397). -/
def transportNotify (s : State) (t : Transport) : State :=
  match t with
  | .i3c => s.notifyBus 0
  | .fieldBusA | .fieldBusB => s.notifyBus 1
  | .mailbox _ => s

/-! ### Writes of RAS objects -/

/-- ALERT_ACK: ALERT_N is released when the number covers every record that asserted it (R299). -/
def ackAlert (s : State) (seq : Nat) : State :=
  if s.ras.alertSeq ≤ seq then { s with ras := { s.ras with alertN := false, alertSeq := 0 } } else s

/-- FAULT_SUMMARY_CLEAR (R303). -/
def clearSummary (s : State) : State := { s with ras := { s.ras with summary := 0 } }

/-- FATAL_LOG_CLEAR (R303). -/
def clearFatalLog (s : State) : State := { s with ras := { s.ras with fatalLog := [] } }

end State

/-- Whether words of a structure can be injected (R292). -/
def injectable (b : Nat) : Bool :=
  match bucketClass b with
  | none => false
  | some c => !(c == 6 || c == 7 || c == 9 || c == 13 || c == 14)

/-- Whether an injection kind fits the code of a structure (R292). -/
def kindFits (b kind : Nat) : Bool :=
  match bucketClass b with
  | none => false
  | some c => if parityClass c then kind == 4 else decide (1 ≤ kind) && decide (kind ≤ 3)

namespace State

/-- INJECT_BUCKET, or the abort that refuses it (R292). -/
def writeInjectBucket (s : State) (b : Nat) : Except Nat State :=
  if injectable b then .ok (s.setReg 0x4230 2 b) else .error abortInvalidValue

/-- INJECT_ARM, or the abort that refuses it (R292). -/
def armInjection (s : State) : Except Nat State :=
  if s.inEffect 0x4230 1 = 0 then .error abortWrongState
  else if !kindFits (s.reg 0x4230 2) (s.reg 0x4230 3) then .error abortInvalidValue
  else .ok { s with ras := { s.ras with injectState := 1 } }

/-- INJECT_ENABLE: clearing it takes an arm back (R292). -/
def writeInjectEnable (s : State) (v : Nat) : State :=
  let s := s.setReg 0x4230 1 v
  if v = 0 && s.ras.injectState = 1 then { s with ras := { s.ras with injectState := 0 } } else s

end State

/-! ### The meanings -/

/-- SCRUB_READ (R286). -/
def execScrubRead (bucket : Nat) (s : State) : Host.Outcome State Fault Refusal :=
  run (.scrubRead bucket) s fun s => s.scrubNext bucket

/-- SCRUB_PERIOD_MISS (R287). -/
def execScrubPeriodMiss (s : State) : Host.Outcome State Fault Refusal := run .scrubPeriodMiss s State.scrubMissed

/-- BUCKET_LEAK (R283). -/
def execBucketLeak (cls : Nat) (s : State) : Host.Outcome State Fault Refusal :=
  run (.bucketLeak cls) s fun s => s.bucketLeak cls

/-- HOST_NOTIFY (R300). -/
def execHostNotify (port : Nat) (s : State) : Host.Outcome State Fault Refusal :=
  run (.hostNotify port) s fun s => s.hostNotify port

/-- TRANSPORT_NOTIFY (R301). -/
def execTransportNotify (transport : Transport) (s : State) : Host.Outcome State Fault Refusal :=
  run (.transportNotify transport) s fun s => s.transportNotify transport

/-- FIRMWARE_TABLE_RESTORE (R277). -/
def execFirmwareTableRestore (word : Nat) (s : State) : Host.Outcome State Fault Refusal :=
  run (.firmwareTableRestore word) s fun s => s.firmwareRestored word

end Sys2Proof.Machine
end

