-- ==== Sys2Proof/Machine/Wiboni.lean ====
section
/-! DEFINITION. Wiboni links: training, flits and their retry, messages as they arrive, failover and re-sending, paths and link-state vectors (R344 to R356). -/

namespace Sys2Proof.Machine

/-! ### Fields of flits and messages (R348, R352) -/

def flType (f : Flit) : Nat := fld f 1020 4
def flFirst (f : Flit) : Nat := fld f 1013 7
def flCreditVc (f : Flit) : Nat := fld f 1010 3
def flCredits (f : Flit) : Nat := fld f 1000 10
def flPayload (f : Flit) : List Byte := beBytes (fld f 64 928) 116
def flSeq (f : Flit) : Nat := fld f 52 12
def flAck (f : Flit) : Nat := fld f 40 12
def flNak (f : Flit) : Bool := f.getLsbD 39

/-- Whether a flit's CRC passes. -/
def flGood (f : Flit) : Bool := flitCrc f.toNat == fld f 0 32

/-- The header of a message: its first 8 B. -/
def msgHeader (m : WibMessage) : Nat := ofBe (m.take 8)
def mhVc (h : Nat) : Nat := bits h 61 3
def mhOp (h : Nat) : Nat := bits h 53 8
def mhSource (h : Nat) : Nat := bits h 43 10
def mhEpoch (h : Nat) : Nat := bits h 35 8
def mhTag (h : Nat) : Nat := bits h 19 16
def mhLen (h : Nat) : Nat := bits h 12 7
def mhPoison (h : Nat) : Bool := h.testBit 11
def mhReplay (h : Nat) : Bool := h.testBit 10
def mhPort (h : Nat) : Nat := bits h 3 7

/-- A message with REPLAY set. -/
def withReplay (m : WibMessage) : WibMessage := m.set 6 (m.getD 6 0 ||| 4)

/-- The request class of an OP. -/
def classOf (op : Nat) : Option ReqClass :=
  [ReqClass.rdS, .rdAny, .rdOwn, .upg, .rdNc, .invNc, .wrNc, .wbI, .wbS, .wbE, .clnEvict].find? fun c => opClass c == op

namespace State

/-! ### Paths (R354) -/

/-- The links that are usable for SRCH, as the vector says it. -/
def ownVector (s : State) : Word128 :=
  BitVec.ofNat 128 ((List.range 128).foldl (fun n l => if s.linkSrch l then n + 2 ^ l else n) 0)

/-- Re-send what a DOWN link held, as paths allow (R355). -/
def flushResend (s : State) (l : Nat) : State :=
  (s.linkAt l).resend.foldl (fun s m =>
    match m.dest with
    | none => s
    | some (d, par) =>
      match s.pathTo d par with
      | none => s
      | some k => (s.modLink l fun x => { x with resend := x.resend.erase m }).giveLink k m) s

/-- Re-send from every DOWN link. -/
def flushAll (s : State) : State := (List.range 128).foldl (fun s l => if (s.linkAt l).resend.isEmpty then s else s.flushResend l) s

/-! ### A link goes DOWN (R347, R350, R355) -/

/-- What a link had not delivered: the messages of unacknowledged flits, with REPLAY set, then those that wait; SRCH parts are never re-sent. -/
def undelivered (k : Link) : List Sent :=
  let sent := (k.retry.map (·.sent)).eraseDups.map fun m => { m with msg := withReplay m.msg }
  (sent ++ k.txq).filter fun m => m.dest.isSome && messageVc m.msg != vcSrch

/-- A link leaves service for a state; an ACTIVE one fails its traffic over. -/
def linkLeaves (s : State) (l : Nat) (st : LinkState) (retryAt : Nat) : State :=
  let k := s.linkAt l
  let active := k.st == .active || k.st == .activeSlow
  let s := s.modLink l fun k => { k with
    st := st, retryAt := retryAt, downAt := if active then s.now else k.downAt
    resend := if active then k.resend ++ undelivered k else k.resend
    retry := [], txq := [], partialBytes := [], nakSent := false, srchOut := [] }
  if active then ((s.flushResend l).settleUpstream).settlePaths else s

/-- A link goes DOWN and tries again 10 ms later: event 9010 when it was ACTIVE (R347). -/
def goDown (s : State) (l : Nat) : State :=
  let st := (s.linkAt l).st
  let s' := s.linkLeaves l .down (s.now + 10000000)
  if st == .active || st == .activeSlow then s'.raise 0x9010 .degraded (.count l 0) else s'

/-! ### Training (R344, R345, R347) -/

/-- Whether a link exists and is enabled: a spare must stand in for some link. -/
def linkUsable (s : State) (l : Nat) : Bool :=
  (s.linkAt l).enabled && if l < 124 then !linkAbsent s.power.straps l
    else bits (s.reg 0x5201 1) (8 * (l - 124) + 7) 1 == 1

/-- A DOWN or MISWIRED link tries again. -/
def linkRetry (s : State) (l : Nat) : State :=
  let k := s.linkAt l
  if !(k.st == .down || k.st == .miswired) || !s.linkUsable l || decide (s.now < k.retryAt) || s.testMode == 2 then s
  else s.modLink l fun k => { k with st := .training }

/-- A training step fails within its bound. -/
def trainingFails (s : State) (l : Nat) : State :=
  let k := s.linkAt l
  if k.st == .training || k.st == .identify || k.st == .measure then s.goDown l else s

/-- The peer and link that a link is cabled to, through its SPARE_MAP byte for a spare. -/
def expectedPeer (s : State) (l : Nat) (r : IdentifyRecord) : Bool :=
  if l < 124 then cabledPeer s.deviceNumber l == some (r.device, r.link)
  else match cabledPeer s.deviceNumber (bits (s.reg 0x5201 1) (8 * (l - 124)) 7) with
    | some (d, _) => d == r.device && decide (124 ≤ r.link)
    | none => false

/-- The IDENTIFY exchange: a peer that breaks the cabling, or another flight size, makes the link MISWIRED. -/
def identified (s : State) (l : Nat) (r : IdentifyRecord) : State :=
  let k := s.linkAt l
  if !(k.st == .training || k.st == .identify) then s
  else
    let s := s.modLink l fun k => { k with peerDevice := r.device, peerLink := r.link }
    if s.expectedPeer l r && r.flightSize == s.flightSize then s.modLink l fun k => { k with st := .measure }
    else (s.linkLeaves l .miswired (s.now + 1000000000)).raise 0x9012 .degraded (.count l 0)

/-- The measurement ends: the link is ACTIVE, or ACTIVE_SLOW when its SRCH leg exceeds 55 ns; its flits begin at SEQ 0 with full credits. -/
def measured (s : State) (l delayPs legPs : Nat) : State :=
  let k := s.linkAt l
  if k.st != .measure then s
  else
    let slow := decide (55000 < legPs)
    let s := s.modLink l fun k => { k with
      st := if slow then .activeSlow else .active, delayPs := delayPs % 2 ^ 32, expect := 0, nextSeq := 0, retry := [], credits := []
      partialBytes := [], nakSent := false, ackedAt := s.now, lastValid := s.now, replayCount := 0, rxCount := 0, tail := []
      srchOut := [] }
    let s := if slow then s.raise 0x9013 .degraded (.count l 0) else s
    ((s.flushAll).settleUpstream).settlePaths

/-! ### Retry (R350) -/

/-- Send every unacknowledged flit again, marked REPLAY; after REPLAY_LIMIT replays in a row of the same SEQ the link goes DOWN. -/
def replay (s : State) (l : Nat) : State :=
  let k := s.linkAt l
  match k.retry with
  | [] => s
  | x :: _ =>
    let again := if k.replaySeq = x.seq then k.replayCount + 1 else 1
    if s.reg 0x5201 3 < again then s.goDown l
    else
      let s := s.modLink l fun k => { k with
        replaySeq := x.seq, replayCount := again, ackedAt := s.now, replays := sat32 (k.replays + 1) }
      let resent (f : RetryFlit) : Flit :=
        mkFlit (flitBody (flType f.flit) (flFirst f.flit) 0 0 (fld f.flit 64 928) f.seq ((k.expect + 4095) % 4096) false true)
      let s := k.retry.foldl (fun s f => s.emit (.flit l (resent f))) s
      s.raise 0x9011 .note (.count l 0)

/-- A flit that carries no message: an acknowledgement, a NAK, or returned credits. -/
def sendIdle (s : State) (l : Nat) (nak : Bool) (vc credits : Nat) : State :=
  let k := s.linkAt l
  s.emit (.flit l (mkFlit (flitBody 0 127 vc credits 0 k.nextSeq ((k.expect + 4095) % 4096) nak false)))

/-- Take an acknowledgement: flits up to it leave the retry buffer. -/
def takeAck (s : State) (l ack : Nat) : State :=
  let k := s.linkAt l
  let done := k.retry.takeWhile fun f => decide ((ack + 4096 - f.seq) % 4096 < 2048)
  if done.isEmpty then s
  else s.modLink l fun k => { k with retry := k.retry.drop done.length, ackedAt := s.now, replayCount := 0 }

/-- Take returned credits. -/
def takeCredits (s : State) (l vc n : Nat) : State :=
  if n = 0 || 6 < vc then s else s.modLink l fun k => setCredit k vc (min 128 (creditOf k vc + n))

/-- A flit was discarded: one NAK asks for the replay, and later DATA flits are discarded until it comes. -/
def discardFlit (s : State) (l : Nat) : State :=
  if (s.linkAt l).nakSent then s
  else (s.modLink l fun k => { k with nakSent := true }).sendIdle l true 0 0

/-- The ACK has not advanced for 1 µs with flits unacknowledged. -/
def ackLate (s : State) (l : Nat) : State :=
  let k := s.linkAt l
  if !(k.st == .active || k.st == .activeSlow) || k.retry.isEmpty || decide (s.now < k.ackedAt + 1000) then s else s.replay l

/-- 200 ns without a valid flit. -/
def silent (s : State) (l : Nat) : State :=
  let k := s.linkAt l
  if !(k.st == .active || k.st == .activeSlow) || decide (s.now < k.lastValid + 200) then s else s.goDown l

/-! ### Messages as they arrive (R351 to R353, R355) -/

/-- The length that a message's header gives it in bytes, none for a header that is invalid; `width` is the key width of a chart. -/
def messageLength (s : State) (h : Nat) : Option Nat :=
  if mhVc h = 7 then none
  else if mhVc h = vcSrch then
    match bits h 58 3 with
    | 0 => some (8 + keyBits (cdWidth (s.chart (bits h 50 8)).desc1) / 8)
    | 1 => some 24
    | _ => none
  else if mhLen h < 2 then none
  else some (4 * mhLen h)

/-- A message whose VC, OP or LEN is invalid is dropped. -/
def dropMalformed (s : State) (l : Nat) : State := s.raise 0x9019 .contained (.count l 0)

/-- The atomic operation that a REQ's further units carry. -/
def atomicOf (op : Nat) (b : List Byte) : Option AtomicOp :=
  let w (i : Nat) : Word128 := BitVec.ofNat 128 (ofLe (b.drop (16 * i) |>.take 16))
  if op = 0x10 && b.length = 32 then some (.cas (w 0) (w 1))
  else if op = 0x11 && b.length = 16 then some (.swap (w 0))
  else if op = 0x12 && b.length = 16 then some (.fadd (BitVec.ofNat 64 (w 0).toNat))
  else none

/-- A queue's sector operation as its message gives it: the sector, the offset and LENGTH in it, and PAIR; none when it leaves its sector (R159, R352). -/
def queueAccess (op dpa : Nat) (b : List Byte) : Option Req :=
  let w := ofBe (b.drop 8 |>.take 8)
  let off := dpa % 64
  let len := bits w 0 16
  if len = 0 || 64 < off + len then none
  else some { cls := .rdNc, dpa := dpa - off, off := off, len := len, pair := w.testBit 16, agent := true, opcode := op, bulk := op != 1 && op != 2 }

/-- A message of the REQ channel. -/
def takeReq (s : State) (l : Nat) (h : Nat) (b : List Byte) : State :=
  let w := ofBe (b.take 8)
  let dpa := bits w 0 45
  let m := bits w 45 6
  let dev := mhSource h
  let op := mhOp h
  let origin : Origin := .peer dev (mhPort h) m (mhTag h)
  let take (r : Req) : State := s.peerRequest r dev (mhPort h) (mhTag h)
  if op = opBiConflict then
    if b.length = 8 then s.homeConflict dpa { pos := dev % 32, port := mhPort h, marker := m } origin
    else s.dropMalformed l
  else if op = opIoRead && b.length = 8 then take { origin := origin, cls := .rdNc, dpa := dpa, agent := true }
  else if (op = 0x01 || op = 0x21) && b.length = 16 then
    match queueAccess op dpa b with
    | some r => take { r with origin := origin }
    | none => s.dropMalformed l
  else if op = 0x10 || op = 0x11 || op = 0x12 then
    match atomicOf op (b.drop 16) with
    | some a => take { origin := origin, cls := .atomic, dpa := dpa, op := some a, agent := true, opcode := op }
    | none => s.dropMalformed l
  else match classOf op with
    | some c => if b.length = 8 && !c.isWrite then take { origin := origin, cls := c, dpa := dpa } else s.dropMalformed l
    | none => s.dropMalformed l

/-- A message of the RWD channel: a write with its sector and, when partial, its byte mask. -/
def takeRwd (s : State) (l : Nat) (h : Nat) (b : List Byte) : State :=
  let w := ofBe (b.take 8)
  let op := mhOp h
  let dpa := bits w 0 45
  let queue := op == 0x02 || op == 0x20 || op == 0x21
  let rest := b.drop (if queue then 16 else 8)
  let mask : Option Mask64 :=
    if rest.length = 64 then some (BitVec.allOnes 64)
    else if rest.length = 72 then some (BitVec.ofNat 64 (ofBe (rest.drop 64)))
    else none
  let req : Option Req :=
    if queue then (queueAccess op dpa b).map fun r => { r with cls := .wrNc }
    else if op = opIoWrite then some { cls := .wrNc, dpa := dpa, agent := true }
    else ((classOf op).filter ReqClass.isWrite).map fun c => { cls := c, dpa := dpa }
  match mask, req with
  | some k, some r =>
    s.peerRequest { r with
      origin := .peer (mhSource h) (mhPort h) (bits w 45 6) (mhTag h)
      w := { data := sectorOfBytes (rest.take 64), mask := k, poison := mhPoison h } } (mhSource h) (mhPort h) (mhTag h)
  | _, _ => s.dropMalformed l

/-- A message of the RSP channel: the answer to a request that this device forwarded. -/
def takeRsp (s : State) (l : Nat) (h : Nat) (b : List Byte) : State :=
  let split := if (mhOp h).testBit 6 then 8 else 0
  let op := mhOp h % 64
  let dev := mhSource h
  if op = 8 && b.isEmpty then s.forwardedResponse dev (mhTag h) none false 0
  else if op = opRefused && b.length = 8 && 16 ≤ ofBe b then s.forwardedResponse dev (mhTag h) none false (ofBe b)
  else if op < 3 && b.isEmpty then s.forwardedResponse dev (mhTag h) none (mhPoison h) (op + 1 + split)
  else if 4 ≤ op && op < 7 && b.length = 64 then
    s.forwardedResponse dev (mhTag h) (some (sectorOfBytes b)) (mhPoison h) (op - 3 + split)
  else if (op = 16 || op = 17) && b.length = 16 then
    s.forwardedResponse dev (mhTag h) (some (BitVec.ofNat 512 (ofLe b))) (mhPoison h) (op - 16)
  else s.dropMalformed l

/-- A message of the SNP channel: a snoop of a peer's home. -/
def takeSnp (s : State) (l : Nat) (h : Nat) (b : List Byte) : State :=
  let w := ofBe b
  let p := mhPort h
  let m := bits w 45 6
  let whom : SnoopWhom := if w.testBit 56 then .portAll p m
    else if w.testBit 54 then .all (if w.testBit 55 then some (p, m) else none) else .one p m
  match [SnoopKind.inv, .data, .cur].find? fun k => snoopCode k == mhOp h with
  | some k => if b.length = 8 then s.peerSnoop (mhSource h) k whom (bits w 0 45) else s.dropMalformed l
  | none => s.dropMalformed l

/-- A message of the SNR channel: a snoop's answer, or the requester's acknowledgement of a grant. -/
def takeSnr (s : State) (l : Nat) (h : Nat) (b : List Byte) : State :=
  let w := ofBe b
  if b.length ≠ 8 then s.dropMalformed l
  else if mhOp h = opAck then s.ackGrant (bits w 0 45)
  else if mhOp h ≤ 3 then s.peerAnswer (mhSource h % 32) (mhPort h) (bits w 45 6) (bits w 0 45) (mhOp h) (mhOp h == 3)
  else s.dropMalformed l

/-- A message of the SRCH channel: a part request, or the answer to the link's oldest outstanding part. -/
def takeSrch (s : State) (l : Nat) (m : WibMessage) : State :=
  let h := msgHeader m
  if bits h 58 3 = 0 then
    s.partArrives l (bits h 50 8) (bits h 46 4) (BitVec.ofNat 32 (bits h 14 32)) (bits h 0 12) (BitVec.ofNat 512 (ofLe (m.drop 8)))
  else match (s.linkAt l).srchOut with
    | (d, launch) :: _ => s.partAnswered l d launch {
        result := BitVec.ofNat 128 (ofLe (m.drop 8)), reason := bits h 54 3, lacked := BitVec.ofNat 32 (bits h 0 32) }
    | [] => s.dropMalformed l

/-- Take one message: a re-sent request that a tail record holds is answered from it or attached, anything else is carried out (R355). -/
def takeMessage (s : State) (l : Nat) (m : WibMessage) : State :=
  let h := msgHeader m
  let b := m.drop 8
  let vc := mhVc h
  if vc = vcSrch then s.takeSrch l m
  else if vc = vcMgmt then
    if mhOp h = mkViolation && b.length = 8 then s.strikeReported (mhPort h) (ofBe b)
    else if mhOp h = mkRetired && b.length = 8 then s.storeRetired (mhSource h) (mhTag h) (ofBe b % 2 == 1)
    else s.modLink l fun k => { k with rx := k.rx ++ [m] }
  else
    let request := vc = vcReq || vc = vcRwd
    let same (q : TailReq) : Bool := q.source == mhSource h && q.tag == mhTag h && q.epoch == mhEpoch h
    let seen := (s.link.links.map fun (p : Nat × Link) => p.2.tail).flatten.find? same
    match request && mhReplay h, seen with
    | true, some q =>
      if q.running then s
      else
        let parity := dpaParity (bits (ofBe (b.take 8)) 0 45)
        match s.pathTo q.source parity with
        | some k => s.giveLink k { dest := some (q.source, parity), msg := q.response }
        | none => s
    | _, _ =>
      let s := if request then s.modLink l fun k => { k with tail := k.tail ++ [
            ({ flit := k.rxCount, source := mhSource h, tag := mhTag h, epoch := mhEpoch h, running := true } : TailReq)] }
        else s
      if vc = vcReq then s.takeReq l h b
      else if vc = vcRwd then s.takeRwd l h b
      else if vc = vcRsp then s.takeRsp l h b
      else if vc = vcSnp then s.takeSnp l h b
      else s.takeSnr l h b

/-- Serve a message and return its credits; during a warm reset it waits in the link's buffer under credit (R425). -/
def serveMessage (s : State) (l : Nat) (m : WibMessage) : State :=
  let vc := messageVc m
  if s.power.device == .warmResetting && vc != vcSrch && vc != vcMgmt then s.modLink l fun k => { k with held := k.held ++ [m] }
  else (s.sendIdle l false vc (messageUnits m)).takeMessage l m

/-- After a warm reset the messages that waited are served. -/
def serveHeld (s : State) : State :=
  s.link.links.foldl (fun s (p : Nat × Link) =>
    p.2.held.foldl (fun s m => s.serveMessage p.1 m) (s.modLink p.1 fun k => { k with held := [] })) s

/-- Take the messages of a byte stream; what does not yet make a message stays. Zeros where a header would begin are fill. -/
def takeStream : Nat → State → Nat → List Byte → State
  | 0, s, _, _ => s
  | n + 1, s, l, b =>
    if b.length < 8 then s.modLink l fun k => { k with partialBytes := if b.all (· == 0) then [] else b }
    else if msgHeader b = 0 then s.modLink l fun k => { k with partialBytes := [] }
    else match s.messageLength (msgHeader b) with
      | none => (s.modLink l fun k => { k with partialBytes := [] }).dropMalformed l
      | some len =>
        if b.length < len then s.modLink l fun k => { k with partialBytes := b }
        else
          let m := b.take len
          takeStream n (s.serveMessage l m) l (b.drop len)

/-- A DATA flit in sequence: its payload joins what came before, and the tail record keeps 128 flits. -/
def takeData (s : State) (l : Nat) (f : Flit) : State :=
  let k := s.linkAt l
  let first := flFirst f
  let bytes := if k.partialBytes.isEmpty then (if first < 116 then (flPayload f).drop first else []) else k.partialBytes ++ flPayload f
  let s := s.modLink l fun k => { k with
    expect := (k.expect + 1) % 4096, nakSent := false, partialBytes := [], rxCount := k.rxCount + 1
    tail := k.tail.filter fun q => decide (k.rxCount < q.flit + 128) }
  takeStream (bytes.length + 1) (s.sendIdle l false 0 0) l bytes

/-- FLIT_RECEIVE: a flit, after FEC corrected `fec` symbols of it (R349, R350). -/
def receiveFlit (s : State) (l : Nat) (f : Flit) (fec : Nat) : State :=
  let good := flGood f
  let s := s.modLink l fun k => { k with
    crcFails := if fec != 0 || !good then sat32 (k.crcFails + 1) else k.crcFails
    fecCorrected := (k.fecCorrected + fec) % 2 ^ 64 }
  if !good then s.discardFlit l
  else if 3 < flType f then s
  else
    let s := (((s.modLink l fun k => { k with lastValid := s.now }).takeAck l (flAck f)).takeCredits l (flCreditVc f) (flCredits f))
    let s := if flNak f then s.replay l else s
    let s := if flType f ≠ 1 then s
      else if flSeq f = (s.linkAt l).expect then s.takeData l f
      else if (flSeq f + 4096 - (s.linkAt l).expect) % 4096 < 2048 then s.discardFlit l
      else s
    s.drainTxq l

/-- FLIT_RECEIVE on an ACTIVE or ACTIVE_SLOW link. -/
def flitArrives (s : State) (l : Nat) (f : Flit) (fec : Nat) : State :=
  let k := s.linkAt l
  if !(k.st == .active || k.st == .activeSlow) || s.testMode == 2 then s
  else s.receiveFlit l f fec

/-! ### Windows of R355 -/

/-- A DOWN link's tail record is dropped 64 µs after it went DOWN. -/
def tailExpires (s : State) (l : Nat) : State :=
  let k := s.linkAt l
  if k.st == .active || k.st == .activeSlow || decide (s.now < k.downAt + 64000) then s
  else s.modLink l fun k => { k with tail := [] }

/-- A request whose message could not be re-sent fails: a read is answered with poison, a write is lost and counts at WT_LOST_TOTAL (R355, R72). -/
def failForwarded (s : State) (m : Sent) : State :=
  let h := msgHeader m.msg
  match m.dest with
  | none => s
  | some (d, _) =>
    match s.link.forwarded.find? fun f => f.peer == d && f.tag == mhTag h with
    | none => s
    | some f =>
      if !(mhVc h == vcReq || mhVc h == vcRwd) then s
      else
        let s := s.endForwarded f
        let s := if f.txn.cls.isWrite then s.bump32 0x2200 7 else s
        match f.txn.origin with
        | .conflict p hpa => s.ackConflict 0 (.conflict p hpa)
        | .queue q pos part =>
          let s := s.settleStores (fun x => x.peer == f.peer && x.tag == f.tag) (f.txn.cls == .wrNc)
          s.toQueue { queue := q, pos := pos, part := part, data := poisonedSector (Config.poisonData f.txn.dpa), poison := !f.txn.cls.isWrite }
        | _ => s.respond f.txn (if f.txn.cls.isRead then some (poisonedSector (Config.poisonData f.txn.dpa)) else none) .cmp

/-- Messages that could not be re-sent within 64 µs fail, with event 9016 and their count. -/
def resendExpires (s : State) (l : Nat) : State :=
  let s := s.flushResend l
  let k := s.linkAt l
  if k.resend.isEmpty || decide (s.now < k.downAt + 64000) then s
  else
    let s := s.modLink l fun k => { k with resend := [] }
    (k.resend.foldl (fun s m => s.failForwarded m) s).raise 0x9016 .contained (.count k.resend.length 0)

/-! ### Link-state vectors (R354) -/

/-- Every 10 µs, or after a change, the vector leaves. -/
def sendVector (s : State) : State :=
  let v := s.ownVector
  if s.now < s.link.nextVectorSend && v == s.link.sentVector then s
  else
    let s := { s with link := { s.link with nextVectorSend := s.now + 10000, sentVector := v } }
    s.tellNeighbours mkVector [s.deviceNumber, v.toNat]

/-- A peer's vector arrives. -/
def takeVector (s : State) (d : Nat) (v : Word128) : State :=
  let s := { s with link := { s.link with vectors := Table.set 0 s.link.vectors d v } }
  (s.flushAll).settlePaths

/-! ### LINK_ENABLE, SPARE_MAP and LINK_RETRAIN (R344, R372, R432) -/

/-- A write of LINK_ENABLE, or the abort that refuses it: FALSE powers the link down, TRUE powers it up to train. -/
def writeLinkEnable (s : State) (l v : Nat) : Except Nat State :=
  if 1 < v then .error abortInvalidValue
  else
    let on := v == 1
    let s := s.modLink l fun k => { k with enabled := on }
    if !on then .ok (if (s.linkAt l).st == .disabled then s else s.linkLeaves l .disabled 0)
    else .ok (if (s.linkAt l).st == .disabled && s.linkUsable l then s.modLink l fun k => { k with st := .down, retryAt := s.now } else s)

/-- A write of SPARE_MAP: a spare whose byte changes must not be in service; one that now stands in for a link may train. -/
def writeSpareMap (s : State) (v : Nat) : Except Nat State :=
  let old := s.reg 0x5201 1
  let moved := (List.range 4).filter fun i => bits old (8 * i) 8 ≠ bits v (8 * i) 8
  if moved.any fun i => (s.linkAt (124 + i)).st == .active || (s.linkAt (124 + i)).st == .activeSlow then .error abortWrongState
  else
    let s := s.setReg 0x5201 1 v
    .ok (moved.foldl (fun s i => s.modLink (124 + i) fun k => { k with
      st := if s.linkUsable (124 + i) then .down else .disabled, retryAt := s.now }) s)

/-- LINK_RETRAIN: the link goes DOWN and retrains. CANAL_BUSY is not among the results that the manual gives it, and it runs during a membership change too (DEDUCED, R372). -/
def retrain (s : State) (ticket l : Nat) : State :=
  if 127 < l then s.endCmd ticket 0x5210
  else
    let s := if (s.linkAt l).st == .disabled then s else (s.goDown l).modLink l fun k => { k with retryAt := s.now }
    s.endCmd ticket 0

end State

/-! ### The rows -/

/-- LINK_RETRY_TIMER (R347). -/
def execLinkRetryTimer (link : Nat) (s : State) : Host.Outcome State Fault Refusal := run (.linkRetryTimer link) s fun s => s.linkRetry link

/-- LINK_TRAINING_FAILURE (R347). -/
def execLinkTrainingFailure (link : Nat) (s : State) : Host.Outcome State Fault Refusal :=
  run (.linkTrainingFailure link) s fun s => s.trainingFails link

/-- IDENTIFY (R347, step 4). -/
def execIdentify (link : Nat) (peer : IdentifyRecord) (s : State) : Host.Outcome State Fault Refusal :=
  run (.identify link peer) s fun s => s.identified link peer

/-- MEASURE_DONE (R347, steps 5 and 6). -/
def execMeasureDone (link delayPs legPs : Nat) (s : State) : Host.Outcome State Fault Refusal :=
  run (.measureDone link delayPs legPs) s fun s => s.measured link delayPs legPs

/-- FLIT_RECEIVE (R349). -/
def execFlitReceive (link : Nat) (flit : Flit) (fecCorrected : Nat) (s : State) : Host.Outcome State Fault Refusal :=
  run (.flitReceive link flit fecCorrected) s fun s => s.flitArrives link flit fecCorrected

/-- ACK_TIMEOUT (R350). -/
def execAckTimeout (link : Nat) (s : State) : Host.Outcome State Fault Refusal := run (.ackTimeout link) s fun s => s.ackLate link

/-- LINK_SILENCE (R350). -/
def execLinkSilence (link : Nat) (s : State) : Host.Outcome State Fault Refusal := run (.linkSilence link) s fun s => s.silent link

/-- LINK_DOWN (R355). -/
def execLinkDown (link : Nat) (s : State) : Host.Outcome State Fault Refusal :=
  run (.linkDown link) s fun s => if (s.linkAt link).st == .active || (s.linkAt link).st == .activeSlow then s.goDown link else s.trainingFails link

/-- TAIL_RECORD_EXPIRY (R355). -/
def execTailRecordExpiry (link : Nat) (s : State) : Host.Outcome State Fault Refusal :=
  run (.tailRecordExpiry link) s fun s => s.tailExpires link

/-- RESEND_WINDOW_EXPIRY (R355). -/
def execResendWindowExpiry (link : Nat) (s : State) : Host.Outcome State Fault Refusal :=
  run (.resendWindowExpiry link) s fun s => s.resendExpires link

/-- LINK_STATE_VECTOR_SEND (R354). -/
def execLinkStateVectorSend (s : State) : Host.Outcome State Fault Refusal := run .linkStateVectorSend s State.sendVector

/-- LINK_STATE_VECTOR (R354). -/
def execLinkStateVector (device : Nat) (vector : Word128) (s : State) : Host.Outcome State Fault Refusal :=
  run (.linkStateVector device vector) s fun s => s.takeVector device vector

end Sys2Proof.Machine
end

