-- ==== Sys2Proof/Machine/Startup.lean ====
section
/-! DEFINITION. Start-up, resets and power: the cold start, the start-up window, the warm reset, the power-fail drain and the sideband inputs (R413 to R436, R441, R448). -/

namespace Sys2Proof.Machine
namespace State

/-! ### The start-up window (R419, R420) -/

/-- Every slice's LFSR takes its seed: the base, with the slice number in the upper byte (R57). -/
def reseed (s : State) : State :=
  (List.range 64).foldl (fun s k => s.modSlice k fun x => { x with
    lfsr := BitVec.ofNat 16 (s.reg 0x2220 2) ^^^ BitVec.ofNat 16 (k * 256) }) s

/-- TEST_MODE takes effect: ports in loopback, or links sending PRBS31, carry no traffic (R421). -/
def enterTestMode (s : State) : State :=
  match s.testMode with
  | 1 => { s with link := { s.link with
      ports := Table.mapVals {} (fun x => if pcEnable x.cfg then { x with st := .down } else x) s.link.ports } }
  | 2 => (List.range 128).foldl (fun s l =>
      if (s.linkAt l).st == .disabled then s else s.modLink l fun x => { x with st := .down }) s
  | _ => s

/-- The window closes, and every rws value is applied in one step (R420). -/
def closeWindow (s : State) : State :=
  let s := { s with power := { s.power with
      windowOpen := false
      device := if s.power.device == DeviceState.window then DeviceState.running else s.power.device } }
  let s := s.reseed
  let s := s.modChart 0 fun _ => systemChart s.firstBank
  let s := if s.canal.timeSetWritten && s.canal.master == s.deviceNumber then s.setCanalTime (s.reg 0x1200 7) else s
  s.enterTestMode

/-- STARTUP_DONE (R406, R419). -/
def startupDone (s : State) (ticket : Nat) : State :=
  if s.power.windowOpen then s.closeWindow.endCmd ticket 0 else s.endCmd ticket 0x0015

/-- STARTUP_TIMEOUT has elapsed since the window opened (R419). -/
def startupTimeout (s : State) : State :=
  let limit := s.reg 0x6000 4
  if s.power.device != .window || limit = 0 || decide (s.now < s.power.windowAt + limit * 1000000) then s
  else (s.raise 0xB00B .note).closeWindow

/-! ### Stopping for a warm reset or a power failure (R162, R163, R422, R428) -/

/-- Whether a queue's store has left for its home with a slot. -/
def storeAdmitted (s : State) (q : Nat) (t : QStore) : Bool :=
  t.issued && s.tenant.txns.any fun x => x.req.origin == Origin.queue q t.pos 0 && x.req.slot.isSome

/-- Whether a transaction is a queue's and holds no slot. -/
def waitingQueueTxn (t : Txn) : Bool :=
  t.req.slot.isNone && match t.req.origin with
    | .queue _ _ _ => true
    | _ => false

/-- Queues stop: what they fetched is abandoned, and what they have not got admitted goes no further. Stores that never left stay to be counted as lost. -/
def haltQueues (s : State) : State :=
  let s := (s.queue.queues.map (·.1)).foldl (fun s q => s.modQueue q fun x => { x with
    entries := [], stores := x.stores.filter fun t => !s.storeAdmitted q t }) s
  let gone := (s.tenant.txns.filter waitingQueueTxn).map (·.req.id)
  { s with tenant := { s.tenant with
      txns := s.tenant.txns.filter fun t => !waitingQueueTxn t
      waiting := s.tenant.waiting.filter fun i => !gone.contains i
      look := Table.mapVals {} (fun l => { l with toRegulator := l.toRegulator.filter fun i => !gone.contains i }) s.tenant.look } }

/-- Queues stop, dump rings stop, commands end with CMD_RESET and merge entries close. Table commands that had not started end with the rest. -/
def stopWork (s : State) : State :=
  let s := s.haltQueues.stopRings
  let s := { s with
    search := { s.search with
      cmds := s.search.cmds.filter fun c => c.phase != TablePhase.queued
      subsDone := s.search.subsDone.filter fun r =>
        !(s.search.cmds.any fun c => c.phase == TablePhase.queued && c.source == TableSource.peer r.owner r.tag) }
    prot := { s.prot with job := none } }
  (s.endAllCmds 0x0014).closeAllMerges

/-- Queue losses: LOST_STORES and LOST_AT_RESET grow by the lost stores and bulk sectors, and event 4008 is logged once for each queue with a loss (R162, R163). -/
def queueLosses (s : State) (lost : List WbEntry) : State :=
  let ofQueue (q : Nat) (e : WbEntry) : Bool := match e.origin with
    | .queue n _ _ => n == q
    | _ => false
  (s.queue.queues.map (·.1)).foldl (fun s q =>
    let mine := lost.filter (ofQueue q)
    let stores := (mine.filter fun e => !e.bulk).length + (s.queueAt q).stores.length
    let sectors := (mine.filter fun e => e.bulk).length
    if stores + sectors = 0 then s
    else ((s.bump32 0x2601 4 (stores + sectors)).modQueue q fun x => { x with
      stores := [], lostStores := sat32 (x.lostStores + stores), lostSectors := sat32 (x.lostSectors + sectors) }).queueEvent
        q 0x4008 .contained) s

/-- The buffered stores of a slice that have not retired; the home's own poison writes are not among them. -/
def lostEntries (s : State) (k : Nat) : List WbEntry := (s.slice k).writeBuf.filter fun e => e.origin != Origin.poison

/-- The sectors of buffered stores. -/
def entrySectors (l : List WbEntry) : List Nat := (l.map fun e => sectorOf e.dpa).eraseDups

/-! ### Warm reset (R422 to R425) -/

/-- WARM_RESET: ACCEPTED, and the quiesce begins. -/
def warmReset (s : State) (ticket : Nat) : State :=
  let s := (s.endCmd ticket 1).raise 0xB001 .note
  let s := { s with
    power := { s.power with device := .warmResetting, warmAt := s.now, warmDrained := false }
    mgmt := { s.mgmt with clients := [], selLost := [], inbox := [] } }
  s.stopWork

/-- The entry of a sector whose data is lost becomes PP: at its way, at a free one or at one in P; a sector that finds none is poisoned after release (R423). -/
def losePP (s : State) (dpa : Nat) : State :=
  let k := homeSlice dpa
  let way (st : DirState) : Option Nat := (List.range 12).find? fun w => (s.dirAt k (dirSet dpa) w).st == st
  if (s.dirEntryOf dpa).st != .i then s.putDirEntry dpa none { st := .pp }
  else match (way .i).orElse fun _ => way .p with
    | some w => s.putDirEntry dpa (some w) { st := .pp }
    | none => { s with power := { s.power with warmPoison := s.power.warmPoison ++ [sectorOf dpa] } }

/-- The buffered stores of a slice are lost: event B002 with the number of sectors. -/
def loseBuffered (s : State) (k : Nat) : State :=
  let sectors := entrySectors (s.lostEntries k)
  if sectors.isEmpty then s
  else
    let s := sectors.foldl losePP s
    ({ s with power := { s.power with warmLost := sat32 (s.power.warmLost + sectors.length) } } : State).raise
      0xB002 .contained (.count sectors.length k)

/-- A requester is served as from a poisoned sector: poisoned data for a read, a completion for anything else (R124, R423). -/
def endPoisoned (s : State) (r : Req) : State :=
  let r := { r with todo := 0 }
  if r.answered then s
  else if r.cls == .atomic then s.answerAtomic r 0 false true
  else if r.cls.isRead then s.respond r (some (poisonAnswer r.dpa)) .cmp
  else s.respond r none .cmp

/-- Requests that a miss register holds. -/
def missRequests (x : Slice) : List Req :=
  x.missWait ++ ((x.missRegs.filter fun m => m.use == .demand).map fun m => m.req :: (m.merged ++ m.mergedNext)).flatten

/-- Whether only the pool read of a transaction is outstanding. -/
def readsPool (t : Tracker) : Bool := t.stage == .data || t.stage == .missWait || t.stage == .atomic

/-- The home transactions of a slice that still run end as at a snoop timeout, with the sector poisoned; requests whose pool read is out get poison; a grant that lacks its acknowledgement stands (R423). -/
def endRunning (s : State) (k : Nat) : State :=
  let x := s.slice k
  let cut := x.trackers.filter fun t => t.stage != .ack && !readsPool t
  let waits := x.blocked ++ x.input
  let s := (missRequests x).foldl endPoisoned s
  let s := (x.trackers.filter readsPool).foldl (fun s t => if (missRequests x).any (·.id == t.req.id) then s else s.endPoisoned t.req) s
  let s := cut.foldl (fun s t =>
    let s := s.losePP t.dpa
    let s := t.conflicts.foldl (fun s c => s.ackConflict t.dpa c) s
    s.endPoisoned t.req) s
  let s := waits.foldl (fun s r => (s.losePP r.dpa).endPoisoned r) s
  if cut.isEmpty && waits.isEmpty then s else s.raise 0xB003 .contained (.count (cut.length + waits.length) k)

/-- Host transactions that a warm reset keeps: those not admitted, which go on after release, and those that a peer still has to answer (R425). -/
def keptTxn (s : State) (t : Txn) : Bool :=
  s.link.forwarded.any (fun f => f.txn.id == t.req.id) || (t.req.slot.isNone && !waitingQueueTxn t)

/-- Slices, the regulator and the decode side are reset: every slot is free, buffers are purged (R315, R422, step 5). -/
def resetSlices (s : State) : State :=
  let s := (List.range 64).foldl (fun s k => s.modSlice k fun x => { wbHigh := x.wbHigh }) s
  let s := s.reseed
  { s with
    tenant := { s.tenant with
      txns := (s.tenant.txns.filter s.keptTxn).map fun t => { t with req := { t.req with slot := none }, slotNo := 0 }
      waiting := [], look := [], slotsG := 0, slotsShared := 0, offers := 0, regRestore := [], heldReleases := [], admitted := 0
      acct := Table.mapVals {} (fun a => { a with held := 0, guaranteed := 0 }) s.tenant.acct }
    home := { s.home with
      stb := [], bisnps := s.home.bisnps.filter (·.group != 0), walks := s.home.walks.filter (·.group != 0)
      retireWalk := false, sweepSectors := [] }
    queue := { s.queue with responses := [], queues := Table.mapVals {} (fun q => { q with stores := [] }) s.queue.queues } }

/-- The protection pounds and the search pound are reset: accesses and searches in flight are gone; what they cache stays (R269, R422, step 5). -/
def resetPounds (s : State) : State :=
  let parts := s.search.parts.filter (·.link.isSome)
  let walks := s.prot.walks.filter (·.overflow.isSome)
  let kept (m : MetaOp) : Bool := match m.owner with
    | .walk id => walks.any (·.id == id)
    | .node r l i => walks.any fun w => w.root == r && (w.overflow.any fun o => o.1 == l + 1) && w.writes.any (·.index == i)
    | _ => false
  let s := { s with
    prot := { s.prot with
      ops := [], pages := [], walks := walks, metas := s.prot.metas.filter kept, watch := [], rkNext := 0
      cc := Table.mapVals {} (fun b => { b with
        dirty := b.dirty || b.writing, pinned := false, writing := false, evicting := false, doomed := false }) s.prot.cc }
    search := { s.search with waiting := [], runs := [], launches := [], parts := parts } }
  parts.foldl (fun s p => if p.answer.isSome then s else s.answerPart p { result := 0, reason := 4, lacked := 0 }) s

/-- The tag pass runs, W becomes 0, and the cache takes its state from STRAP_CACHE; DRYDOCKED ways and their bucket levels stay (R80, R82). -/
def resetCache (s : State) : State :=
  let s := s.clearTags
  { s with cache := { s.cache with
      st := if s.power.straps.getLsbD 23 then .enabled else .clean
      deferredEnable := false, pendingInvalidate := false, moored := 0
      modes := s.cache.modes.filter fun m => m.2 == .drydocked
      handoffs := [], atomicHold := [], drainIds := [], mooring := none, zeroing := false, undrydock := none, invalidate := none } }

/-- The scrub of every structure begins a new pass. -/
def restartScrubs (s : State) : State :=
  scrubStores.foldl (fun s b => s.modScrub b fun x => { x with word := 0, began := s.now, late := false })
    { s with ras := { s.ras with skipped := [] } }

/-- The checker self-test and the ROM image check (R290, R291). -/
def testCheckers (s : State) (bad : List Nat) (romOk : Bool) : State :=
  let first := bad.foldl min 0xFFFF
  let s := { s with ras := { s.ras with
      checkerResult := if bad.isEmpty then 1 else 2, checkersTested := 689, checkerFirstFail := first
      checkersPassed := s.ras.checkersPassed || bad.isEmpty
      alertN := s.ras.alertN || (bad.isEmpty && s.ras.alertSeq != 0) } }
  let s := bad.foldl (fun s n => s.raise 0x700B .deviceFatal (.location 0 n 0 0) none .selfTest) s
  if romOk then s else s.raise 0x7006 .deviceFatal .none none .selfTest

/-- The drain window has ended: what has not retired is lost, running transactions end, the engines are reset and their checkers tested (R422, steps 4 to 6). -/
def endWarmDrain (s : State) (bad : List Nat) (romOk : Bool) : State :=
  let s := { s with power := { s.power with warmDrained := true, warmLost := 0, warmPoison := [] } }
  let lost := ((List.range 64).map s.lostEntries).flatten
  let s := (List.range 64).foldl loseBuffered s
  let s := (List.range 64).foldl endRunning s
  let s := (lost.filter (·.report)).foldl (fun s e => s.reportStore (homeSlice e.dpa) e.origin true) s
  let s := s.queueLosses lost
  (s.resetSlices.resetPounds.resetCache.restartScrubs).testCheckers bad romOk

/-- WARM_DRAIN_END, 100 µs after the reset began. -/
def warmDrainEnd (s : State) (bad : List Nat) (romOk : Bool) : State :=
  if s.power.device != .warmResetting || s.power.warmDrained || decide (s.now < s.power.warmAt + 100000) then s
  else s.endWarmDrain bad romOk

/-- Firmware applies what was pending: every apply group, in order; the clearing of DROPPING charts goes on after release (R184, R193, R422, step 7). -/
def applyAll : Nat → State → State
  | 0, s => s
  | n + 1, s =>
    match s.search.groups.find? fun g => match g.after with
        | .drop _ => false
        | _ => !(g.applies.any fun a => (s.chart (s.rowAt a.row).chart).st == .dropping && (s.rowAt a.row).chart != 0) with
    | none => s
    | some g =>
      applyAll n (({ s with search := { s.search with groups := g :: s.search.groups.erase g } } : State).applyGroup g)

/-- Moored contents do not survive: every ACTIVE LOCAL_MOORED region is frozen until it is deleted (R424). -/
def freezeMoored (s : State) : State :=
  (s.tenant.regions.filter fun (p : Nat × Region) => p.2.st == .active && rdKind p.2.desc1 == 1).foldl (fun s p =>
    let w1 := setFld p.2.desc1 126 1 1
    let s := s.modRegion p.1 fun x => { x with desc1 := w1, lost := true }
    s.writeSysRows ((p.2.rows.zip (sysRows w1 p.2.desc0)).map fun x => { row := x.1, image := sysRowImage p.1 w1 p.2.desc0 x.2 }) []) s

/-- Poison writes that the reset cut short are issued, or wait for their retry (R125, R423). -/
def reissuePoison (s : State) : State :=
  (s.home.dir.filter fun (p : Nat × DirEntry) => p.2.st == .pp).foldl (fun s p =>
    let set := p.1 / 12
    let dpa := dirSector (set / 32768) (set % 32768) p.2.tag
    if s.home.poisonRetry.any (·.1 == dpa) then s
    else if s.wbRoom (homeSlice dpa) then
      s.sliceWrite (homeSlice dpa) { origin := .poison, cls := .wrNc, dpa := dpa } { data := Config.poisonData dpa, mask := BitVec.allOnes 64, poison := true }
    else { s with home := { s.home with poisonRetry := s.home.poisonRetry ++ [(dpa, s.now)] } }) s

/-- A request that a warm reset kept goes on: decoded exactly once, unless its region was frozen meanwhile (R46, R424). -/
def resumeTxn (s : State) (t : Txn) : State :=
  if !t.decoded then s.decodeTxn t.unit t
  else
    let (s, t) := if t.fault = 0 && (s.region t.req.region).lost then s.decodeFault t 0x8102 else (s, t)
    s.afterDecode t.unit t

/-- Release: credits return, queues are DISABLED with the recovery flag set, waiting messages and requests go on (R162, R422, step 8). -/
def warmRelease (s : State) : State :=
  let micros := (s.now - s.power.warmAt) / 1000
  let s := { s with
    power := { s.power with
      device := .running, warmResets := sat32 (s.power.warmResets + 1), resetCause := 2, lastWarmMicros := micros }
    tenant := { s.tenant with drains := [] } }
  let s := { s with queue := { s.queue with
      queues := (List.range 4096).map fun q => (q, { (s.queueAt q).restart with
        st := .disabled, deferredEnable := false, resetPending := false }) } }
  let s := s.raise 0xB00C .note (.count micros 0)
  let s := s.serveHeld.reissuePoison
  let s := s.power.warmPoison.foldl (fun s d => s.poisonSector d 0) { s with power := { s.power with warmPoison := [] } }
  (s.tenant.txns.filter fun t => !s.link.forwarded.any fun f => f.txn.id == t.req.id).foldl (fun s t => s.resumeTxn t) s

/-- Firmware's restore is complete (R422, steps 7 and 8). -/
def endWarmRestore (s : State) : State :=
  let all (s : State) : State := applyAll (2 * s.search.groups.length + 64) s
  let s := (all s).freezeMoored
  let s := all s
  let s := s.tenant.drains.foldl (fun s d => s.endDrain d) s
  s.warmRelease

/-- WARM_RESTORE_DONE of a warm reset whose drain has ended. -/
def warmRestored (s : State) : State :=
  if s.power.device != .warmResetting || !s.power.warmDrained then s
  else s.endWarmRestore

/-! ### Power failure (R428 to R430) -/

/-- Serve as in the fatal state, with FAULT_N as it stands (R429). -/
def haltPower (s : State) : State :=
  let s := s.stopServing false
  { s with
    power := { s.power with device := .pfHalted }
    slices := Table.mapVals {} (fun x => { x with writeBuf := [], mergeBuf := [] }) s.slices }

/-- A qualified PFAIL_N: the drain begins, or in a warm reset past its drain end the device halts at once (R428, R430). -/
def powerFails (s : State) : State :=
  match s.power.device with
  | .starting =>
    match s.power.cold with
    | some c => { s with power := { s.power with cold := some { c with halted := true } } }
    | none => s
  | .warmResetting =>
    if s.power.warmDrained then s.haltPower
    else (({ s with power := { s.power with device := .pfDraining, pfAt := s.now } } : State).stopWork).raise 0xB005 .degraded
  | .window | .running =>
    (({ s with power := { s.power with device := .pfDraining, windowOpen := false, pfAt := s.now } } : State).stopWork).raise 0xB005 .degraded
  | _ => s

/-- A low on PFAIL_N, with the edges of the last 1 ms (R433). -/
def pfailAssert (s : State) (lowNs edges : Nat) : State :=
  if s.power.pfailStuck then s
  else
    let chatter := decide (4 < edges)
    let low := decide (200 ≤ lowNs)
    let serves := match s.power.device with
      | .starting => s.power.cold.isSome
      | .window | .running | .warmResetting => true
      | _ => false
    let s := if low then { s with power := { s.power with pfailLow := true } } else s
    let s := if chatter && serves then { s with power := { s.power with pfailChatter := sat32 (s.power.pfailChatter + 1) } } else s
    if low || chatter then s.powerFails else s

/-- PF_DRAIN_LIMIT has passed since qualification: what is not complete is lost, with no poison written (R428, step 4). -/
def missDrain (s : State) : State :=
  let lost := ((List.range 64).map s.lostEntries).flatten
  let n := (entrySectors lost).length
  let s := { s with power := { s.power with pfLost := n } }
  let s := s.queueLosses lost
  let s := if n = 0 then s else (s.raise 0xB006 .contained (.count n 0)).deadlineMiss 9
  s.haltPower

/-- PF_DRAIN_DEADLINE, PF_DRAIN_LIMIT after qualification. -/
def drainDeadline (s : State) : State :=
  if s.power.device != .pfDraining || decide (s.now < s.power.pfAt + s.inEffect 0x6010 2 * 1000) then s
  else s.missDrain

/-- PFAIL_N was low when the window opened and is still low 10 ms later (R433, R434). -/
def pfailStays (s : State) : State :=
  if !s.power.pfailLow || s.power.pfailStuck || decide (s.now < s.power.windowAt + 10000000) || s.isFatal ||
      s.power.device == .pfDraining || s.power.device == .starting then s
  else ({ s with power := { s.power with pfailStuck := true } } : State).raise 0xB008 .degraded

/-- PFAIL_N is high: the next low is qualified afresh (R434). -/
def pfailHigh (s : State) : State := { s with power := { s.power with pfailLow := false, pfailStuck := false } }

/-! ### AVSBus (R441) -/

/-- The voltage that the device commands, in millivolts. -/
def coreMillivolts (s : State) : Nat := if s.power.avsRaised then min (Config.vavs + 20) 800 else Config.vavs

/-- Send the AVSBus command. -/
def sendAvs (s : State) : State :=
  ({ s with power := { s.power with avsAcked := false, avsSent := s.now } } : State).emit (.avs s.coreMillivolts)

/-- A command without an acknowledge is repeated every 10 µs. -/
def retryAvs (s : State) : State :=
  if s.power.avsAcked || decide (s.now < s.power.avsSent + 10000) then s else s.sendAvs

/-- A sensor's reading changes: VCORE is raised while one reads below 0 °C, until every one reads 5 °C or more. -/
def sensorReads (s : State) (n : Nat) (celsius : Int) : State :=
  let s := { s with power := { s.power with sensors := Table.set 25 s.power.sensors n celsius } }
  let raised := if s.power.sensors.any (fun p => p.2 < 0) then true
    else if s.power.sensors.all (fun p => 5 ≤ p.2) then false
    else s.power.avsRaised
  if raised == s.power.avsRaised then s
  else
    let s := { s with power := { s.power with avsRaised := raised } }
    if s.power.device == .starting && s.power.cold.isNone then s else s.sendAvs

/-! ### Cold reset and cold start (R413 to R418, R427) -/

/-- The device is held in reset: nothing of it survives but what its pins and sensors show, and the fatal latch (R426, R427). -/
def hold (s : State) (cause : Nat) : State :=
  let t := State.coldStart s.power.straps s.power.coldResets
  let held := s.power.device == .starting && s.power.cold.isNone
  { t with
    pending := s.pending, now := s.now, canalTime := s.canalTime, free := s.free, out := s.out
    ras := { t.ras with
      checkerResult := 0, checkersTested := 0, checkersPassed := false
      priorFatal := if s.power.device == .starting then s.ras.priorFatal else s.ras.fatalEvent }
    power := { t.power with
      device := .starting, windowOpen := false
      resetCause := if held && cause != 4 then s.power.resetCause else cause
      pwrok := s.power.pwrok, thermtrip := s.power.thermtrip, pfailLow := s.power.pfailLow
      sensors := s.power.sensors, avsRaised := s.power.avsRaised } }

/-- A low on RESET_N, by its length (R433). -/
def resetLow (s : State) (lowNs : Nat) : State :=
  if lowNs < 100 then s
  else if lowNs < 1000 then
    if s.power.device == .starting then s
    else ({ s with power := { s.power with resetRunts := sat32 (s.power.resetRunts + 1) } } : State).raise 0xB007 .note
  else s.hold 1

/-- PWROK is low: the device is held in reset, and THERMTRIP_N is released (R415, R448). -/
def pwrokFalls (s : State) : State :=
  let t := s.hold (if s.power.thermtrip then 4 else 3)
  { t with power := { t.power with pwrok := false, thermtrip := false } }

/-- A sensor has reached 135 °C: THERMTRIP_N is asserted and the core is held in reset, with no record (R448). -/
def trip (s : State) : State :=
  let t := s.hold 4
  { t with power := { t.power with thermtrip := true } }

/-- The qualified rising edge of RESET_N: straps are latched, and VCORE is commanded (R413, R416, step 1). -/
def pinsRelease (s : State) (straps : BitVec 32) (c : ColdPending) : State :=
  if s.power.device != .starting || s.power.cold.isSome || s.power.thermtrip then s
  else
    let s := { s with power := { s.power with straps := straps, pwrok := true, releasedAt := s.now, cold := some c } }
    s.sendAvs

/-- Ways that failed the memory self-test are drydocked under the rule of R79 (R417). -/
def drydockFailed (s : State) (k way : Nat) : State :=
  let ev (code : Nat) : Event := { code := code, cls := .degraded, source := .selfTest, detail := .location k way 0 0 }
  if s.wayMode k way != .cache then s
  else if 3 ≤ (s.cacheWays k).length then (s.setWayMode k way .drydocked).logEvent (ev 0x2004)
  else s.logEvent (ev 0x2005)

/-- The memory self-test's outcome (R417). -/
def selfTest (s : State) (c : ColdPending) : State :=
  if strapField s.power.straps 12 2 = 0 then s
  else
    let s := { s with power := { s.power with
        bistResult := if !c.badWords.isEmpty then 3 else if !c.badWays.isEmpty then 2 else 1
        bistFailed := c.badWords.length + c.badWays.length } }
    c.badWords.foldl (fun s p => s.raise 0xB004 .deviceFatal (.location p.1 p.2 0 0) none .selfTest) s

/-- Steps 1 to 7 of the cold start, once VCORE is acknowledged: a fresh machine, its self-tests, and the start-up window (R416 to R419). -/
def finishCold (s : State) (c : ColdPending) : State :=
  let n := s.power.coldResets + 1
  let t := State.coldStart s.power.straps n
  let t := { t with
    pending := s.pending, free := s.free, out := s.out
    ras := { t.ras with priorFatal := s.ras.priorFatal, checkersPassed := false }
    power := { t.power with
      resetCause := s.power.resetCause, readyMicros := t.power.readyMicros + (s.now - s.power.releasedAt) / 1000
      pfailLow := s.power.pfailLow, sensors := s.power.sensors, avsRaised := s.power.avsRaised } }
  if !c.romOk then
    ({ t with ras := { t.ras with checkerResult := 0, checkersTested := 0 } } : State).raise 0x7006 .deviceFatal .none none .selfTest
  else
    let t := (t.selfTest c).testCheckers c.badCheckers true
    if t.isFatal || strapField s.power.straps 12 2 = 0 then t
    else c.badWays.eraseDups.foldl (fun t p => t.drydockFailed p.1 p.2) t

/-- The VCORE regulator acknowledges a command. -/
def avsAcknowledged (s : State) : State :=
  let s := { s with power := { s.power with avsAcked := true } }
  match s.power.cold with
  | none => s
  | some c => if c.halted then s else s.finishCold c

end State

/-! ### The rows -/

/-- STARTUP_TIMEOUT (R419). -/
def execStartupTimeout (s : State) : Host.Outcome State Fault Refusal := run .startupTimeout s State.startupTimeout

/-- WARM_DRAIN_END (R423). -/
def execWarmDrainEnd (badCheckers : List Nat) (romOk : Bool) (s : State) : Host.Outcome State Fault Refusal :=
  run (.warmDrainEnd badCheckers romOk) s fun s => s.warmDrainEnd badCheckers romOk

/-- WARM_RESTORE_DONE (R422). -/
def execWarmRestoreDone (s : State) : Host.Outcome State Fault Refusal := run .warmRestoreDone s State.warmRestored

/-- PFAIL_N_ASSERT (R428, R433). -/
def execPfailNAssert (lowNs edges : Nat) (s : State) : Host.Outcome State Fault Refusal :=
  run (.pfailNAssert lowNs edges) s fun s => s.pfailAssert lowNs edges

/-- PF_DRAIN_DEADLINE (R428). -/
def execPfDrainDeadline (s : State) : Host.Outcome State Fault Refusal := run .pfDrainDeadline s State.drainDeadline

/-- PFAIL_N_STUCK (R433). -/
def execPfailNStuck (s : State) : Host.Outcome State Fault Refusal := run .pfailNStuck s State.pfailStays

/-- PFAIL_N_HIGH (R434). -/
def execPfailNHigh (s : State) : Host.Outcome State Fault Refusal := run .pfailNHigh s State.pfailHigh

/-- RESET_N_ASSERT (R433). -/
def execResetNAssert (lowNs : Nat) (s : State) : Host.Outcome State Fault Refusal :=
  run (.resetNAssert lowNs) s fun s => s.resetLow lowNs

/-- RESET_N_RELEASE (R413, R416). -/
def execResetNRelease (straps : BitVec 32) (badWays badWords : List (Nat × Nat)) (badCheckers : List Nat) (romOk : Bool) (s : State) :
    Host.Outcome State Fault Refusal :=
  run (.resetNRelease straps badWays badWords badCheckers romOk) s fun s =>
    s.pinsRelease straps { badWays := badWays, badWords := badWords, badCheckers := badCheckers, romOk := romOk }

/-- PWROK_LOW (R415). -/
def execPwrokLow (s : State) : Host.Outcome State Fault Refusal := run .pwrokLow s State.pwrokFalls

/-- THERMAL_TRIP (R448). -/
def execThermalTrip (s : State) : Host.Outcome State Fault Refusal := run .thermalTrip s State.trip

/-- AVS_RETRY (R441). -/
def execAvsRetry (s : State) : Host.Outcome State Fault Refusal := run .avsRetry s State.retryAvs

/-- AVS_ACK (R441). -/
def execAvsAck (s : State) : Host.Outcome State Fault Refusal := run .avsAck s State.avsAcknowledged

/-- COLD_SENSOR_CHANGE (R441). -/
def execColdSensorChange (sensor : Nat) (celsius : Int) (s : State) : Host.Outcome State Fault Refusal :=
  run (.coldSensorChange sensor celsius) s fun s => s.sensorReads sensor celsius

end Sys2Proof.Machine
end

