-- ==== Sys2Proof/Machine/Commands.lean ====
section
/-! DEFINITION. The command entry: submission, the areas in which commands run, acceptance, and every command's start (R402 to R407). -/

namespace Sys2Proof.Machine

/-- The areas of Table: Commands (R403). -/
inductive CmdArea where
  | management | canalLink | region | cache | chart | table | protection | startUp
  deriving DecidableEq, Repr

/-- The commands: opcode, area and PLEN; the PLEN of TABLE_EXEC depends on its form and chart (R406). -/
def commandTable : List (Nat × CmdArea × Nat) := [
  (0x1001, .management, 0), (0x1201, .canalLink, 12), (0x1202, .canalLink, 0), (0x1203, .canalLink, 0),
  (0x5201, .canalLink, 1), (0x2001, .region, 2), (0x2002, .region, 2), (0x2003, .region, 2), (0x2004, .region, 2),
  (0x2201, .cache, 0), (0x2202, .cache, 0), (0x2203, .cache, 0), (0x2204, .cache, 1), (0x2205, .cache, 2),
  (0x3001, .chart, 1), (0x3002, .chart, 1), (0x3003, .chart, 1), (0x3004, .chart, 4), (0x3005, .chart, 4),
  (0x3101, .table, 48), (0x4001, .protection, 2), (0x4002, .protection, 2), (0x4003, .protection, 4),
  (0x4004, .protection, 0), (0x4005, .protection, 0), (0x4006, .protection, 97), (0x4007, .protection, 0),
  (0x4008, .protection, 42), (0x4009, .protection, 2), (0x6001, .startUp, 0), (0x6002, .startUp, 0)]

/-- The area of an opcode, none for an unknown one. -/
def cmdArea (op : Nat) : Option CmdArea := (commandTable.find? (·.1 == op)).map (·.2.1)

def cmdPlen (op : Nat) : Nat := ((commandTable.find? (·.1 == op)).map (·.2.2)).getD 0

/-- The commands that run while the start-up window is open (R419). -/
def runsInWindow (op : Nat) : Bool :=
  cmdArea op == some .canalLink || [0x1001, 0x6002, 0x4006, 0x4007, 0x4008, 0x4009].contains op

/-- A parameter of `n` bytes at an offset. -/
def param (l : List Byte) (off n : Nat) : Nat := ofLe (l.drop off |>.take n)

/-- Whether parameters lie in their ranges and zero bytes are 0; ranges for which a command names a code of its own are left to it (R405, R406). -/
def paramsInRange (op : Nat) (l : List Byte) : Bool :=
  match op with
  | 0x1201 => param l 3 1 == 0
  | 0x2001 | 0x2002 | 0x2003 | 0x2004 => decide (param l 0 2 < 32768)
  | 0x3004 | 0x3005 => param l 1 1 == 0 && decide (param l 2 2 < 1024)
  | 0x3101 => param l 0 1 != 0 && param l 1 15 == 0
  | 0x4001 | 0x4002 => decide (param l 0 2 < 4096)
  | 0x4003 => decide (param l 0 2 < 4096) && decide (param l 2 2 < 4096)
  | 0x4009 => decide (param l 0 2 < 4096)
  | _ => true

namespace State

/-! ### Who is heard (R393, R397) -/

/-- Whether the device serves frames: not in a reset, and firmware runs (R298, R378, R393). -/
def servesFrames (s : State) : Bool :=
  s.power.device != .starting && s.power.device != .warmResetting && !s.mgmt.dead

/-- Whether a frame on a transport reaches the device: the bus is enabled, or the mailbox belongs to an UP host port. -/
def hears (s : State) (t : Transport) : Bool :=
  s.servesFrames && match t with
    | .fieldBusA => (s.reg 0x1101 1).testBit 0
    | .fieldBusB => (s.reg 0x1101 1).testBit 1
    | .i3c => true
    | .mailbox p => (s.port p).st == .up && s.portRole p == 1

/-- Whether a port's bit is set in a mask of admin ports, as it is in effect. -/
def adminPort (s : State) (index sub p : Nat) : Bool := (s.inEffect index sub).testBit p

/-! ### Submission (R402, R403) -/

/-- Whether PLEN and the parameters have the length of the command. -/
def plenOk (s : State) (op plen : Nat) (l : List Byte) : Bool :=
  plen == l.length &&
    if op = 0x3101 then decide (48 ≤ plen) && s.tableLengthOk (param l 0 1) (l.drop 16) else plen == cmdPlen op

/-- The code with which a submission ends at once: CMD_FATAL and CMD_RESET by the device's state, CMD_UNKNOWN, CMD_PARAM, and what R256 and R401 deny to a mailbox. -/
def refusedAtOnce (s : State) (c : Cmd) (h : Nat) : Option Nat :=
  if s.power.device == .pfHalted && c.opcode = 0x6001 then some 0x0015
  else if s.isFatal then some 0x0013
  else if s.power.device == .pfDraining then some 0x0014
  else match cmdArea c.opcode with
    | none => some 0x0010
    | some area =>
      if chFlags h / 2 != 0 || chReserved h || !s.plenOk c.opcode (chPlen h) c.params || !paramsInRange c.opcode c.params then some 0x0011
      else match c.client.transport with
        | .mailbox p =>
          if area == CmdArea.protection then (if s.adminPort 0x4000 6 p then none else some 0x4018)
          else if s.adminPort 0x1103 1 p then none else some 0x0012
        | _ => none

/-- A command record is submitted: its ticket, or none when 64 commands are held, with event 1004. -/
def submitCommand (s : State) (client : Client) (buses : BitVec 2) (record : List Byte) : State × Option Nat :=
  if 64 ≤ s.mgmt.cmds.length then (s.raise 0x1004 .note, none)
  else
    let h := ofLe (record.take 16)
    let t := s.mgmt.nextTicket
    let c : Cmd := {
      ticket := t, client := client, opcode := chOpcode h, ctag := chCtag h, notify := (chFlags h).testBit 0
      buses := buses, params := record.drop 16 }
    let s := { s with mgmt := { s.mgmt with nextTicket := (t + 1) % 2 ^ 32, cmds := s.mgmt.cmds ++ [c] } }
    match s.refusedAtOnce c h with
    | some code => (s.endCmd t code, some t)
    | none => (s, some t)

/-! ### Acceptance (R403, R210) -/

/-- Whether a queued command's turn has come: in its area one command runs at a time, in ticket order; the Table area runs four on different charts, and a chart command waits for a table command on its chart. -/
def mayStart (s : State) (c : Cmd) : Bool :=
  let before := s.mgmt.cmds.takeWhile (·.ticket != c.ticket)
  let area := cmdArea c.opcode
  let peers := before.filter fun d => cmdArea d.opcode == area
  if c.running then false
  else if area == some .table then
    peers.all (fun d => param d.params 0 1 != param c.params 0 1) &&
      decide (((s.mgmt.cmds.filter fun d => d.running && cmdArea d.opcode == area).length) < 4)
  else peers.isEmpty && !(area == some .chart && s.chartWorks (param c.params 0 1))

/-- A command starts to run. -/
def startCommand (s : State) (c : Cmd) : State :=
  let t := c.ticket
  let p := c.params
  match c.opcode with
  | 0x1001 => s.endCmd t 0
  | 0x1201 => s.canalSet t (param p 0 2) (param p 2 1) (param p 4 8)
  | 0x1202 => s.canalLeave t
  | 0x1203 => s.canalJoin t
  | 0x5201 => s.retrain t (param p 0 1)
  | 0x2001 => s.regionCommit t (param p 0 2)
  | 0x2002 => s.regionDelete t (param p 0 2)
  | 0x2003 => s.regionFreeze t (param p 0 2) true
  | 0x2004 => s.regionFreeze t (param p 0 2) false
  | 0x2201 => s.cacheEnable t
  | 0x2202 => s.cacheDisable t
  | 0x2203 => s.cacheInvalidate t
  | 0x2204 => s.cacheMoor t (param p 0 1)
  | 0x2205 => s.cacheUndrydock t (param p 0 1) (param p 1 1)
  | 0x3001 => s.commitChart t (param p 0 1)
  | 0x3002 => s.dropChart t (param p 0 1)
  | 0x3003 => s.moveChart t (param p 0 1)
  | 0x3004 => s.changeMembers t (param p 0 1) (param p 2 2) true
  | 0x3005 => s.changeMembers t (param p 0 1) (param p 2 2) false
  | 0x3101 => s.submitTable (.ticket t) (param p 0 1) (p.drop 16)
  | 0x4001 => s.protInit t (param p 0 2)
  | 0x4002 => s.protRelease t (param p 0 2)
  | 0x4003 => s.protReknit t (param p 0 2) (param p 2 2)
  | 0x4004 => s.protEnable t
  | 0x4005 => s.protDisable t
  | 0x4006 => s.kekEstablish t p
  | 0x4007 => s.kekClear t
  | 0x4008 => s.keyLoad t (param p 0 2) (p.drop 2)
  | 0x4009 => s.keyErase t (param p 0 2)
  | 0x6001 => s.warmReset t
  | 0x6002 => s.startupDone t
  | _ => s.endCmd t 0x0010

/-- A queued command is accepted when its turn has come; in the start-up window most end with CMD_STATE (R419). -/
def acceptCommand (s : State) (c : Cmd) : State :=
  if !s.mayStart c then s
  else
    let s := { s with mgmt := { s.mgmt with
        cmds := mapIf (·.ticket == c.ticket) (fun d => { d with running := true, accepted := s.now, acceptedCanal := s.canalTime }) s.mgmt.cmds } }
    if s.power.windowOpen && !runsInWindow c.opcode then s.endCmd c.ticket 0x0015 else s.startCommand c

/-- COMMAND_ACCEPT: the oldest queued command whose turn has come starts to run. -/
def acceptNext (s : State) : State :=
  match s.mgmt.cmds.find? s.mayStart with
  | none => s
  | some c => s.acceptCommand c

/-! ### Watchdogs (R378) -/

/-- Watchdogs of management cores expire: event 1006; when every core's has, no object request is answered any more. -/
def watchdogs (s : State) (cores : BitVec 4) : State :=
  if cores &&& ~~~s.mgmt.deadCores = 0 then s
  else
    let all := s.mgmt.deadCores ||| cores
    ({ s with mgmt := { s.mgmt with deadCores := all, dead := s.mgmt.dead || all == 0xF#4 } } : State).raise 0x1006 .deviceFatal

end State

/-! ### The rows -/

/-- COMMAND_ACCEPT (R403). -/
def execCommandAccept (s : State) : Host.Outcome State Fault Refusal := run .commandAccept s State.acceptNext

/-- WATCHDOG_EXPIRY (R378). -/
def execWatchdogExpiry (cores : BitVec 4) (s : State) : Host.Outcome State Fault Refusal :=
  run (.watchdogExpiry cores) s fun s => s.watchdogs cores

end Sys2Proof.Machine
end

