-- ==== Sys2Proof/Machine/Objects.lean ====
section
/-! DEFINITION. What an object of the dictionary reads as and what a write of it does: the tables behind the windows, the checks of each write, and the reach of a mailbox (R379 to R387, R395, R401, R409 to R411, and the object tables of every chapter). -/

namespace Sys2Proof.Machine

/-- How a frame names the item of a table window: the client's selections, or the item that a command of the table of operations names. -/
abbrev Selector := Nat → Nat → Nat

/-- What a read of an object gives. -/
inductive ObjValue where
  | num (v : Nat)
  | bytes (b : List Byte)
  /-- The value is uncorrectable (R395, HARDWARE_ERROR). -/
  | lost
  deriving DecidableEq, Repr

/-- The fixed strings of the identity objects, in ASCII (R409). -/
def identityString (index sub : Nat) : Option (List Nat) :=
  match index, sub with
  | 0x1000, 1 => some [70, 105, 108, 119, 97, 114, 100]
  | 0x1000, 2 => some [69, 108, 102, 97, 111, 114, 97]
  | 0x1000, 3 => some [81, 71, 69, 52, 75]
  | 0x1000, 4 => some [81, 71, 69, 52, 75, 45, 66, 51, 45, 76, 67]
  | 0x1000, 7 => some [76, 67]
  | 0x1008, 2 => some [81, 71, 69, 52, 75, 45, 70, 87, 51]
  | _, _ => none

/-- A locally administered MAC address: its first octet and SERIAL[39:0] (R398). -/
def macAddress (first : Nat) : List Byte := BitVec.ofNat 8 first :: beBytes (fld Config.serial 0 40) 5

def RegionState.code : RegionState → Nat
  | .empty => 0
  | .staged => 1
  | .active => 2
  | .committing => 3

def CacheState.code : CacheState → Nat
  | .enabled => 0
  | .draining => 1
  | .invalidating => 2
  | .stale => 3
  | .clean => 4

def WayMode.code : WayMode → Nat
  | .cache => 0
  | .moored => 1
  | .drydocked => 2
  | .transition => 3

def QState.code : QState → Nat
  | .disabled => 0
  | .active => 1
  | .recovery => 2
  | .draining => 3
  | .halted => 4

def ChartState.code : ChartState → Nat
  | .undefined => 0
  | .staged => 1
  | .valid => 2
  | .committing => 3
  | .moving => 4
  | .dropping => 5

def ProtState.code : ProtState → Nat
  | .enabled => 0
  | .flushing => 1
  | .disabled => 2

def ProtRegionState.code : ProtRegionState → Nat
  | .empty => 0
  | .staged => 1
  | .active => 2
  | .dormant => 3
  | .poisoned => 4

def KeyState.code : KeyState → Nat
  | .empty => 0
  | .fresh => 1
  | .bound => 2
  | .retired => 3

def PortState.code : PortState → Nat
  | .disabled => 0
  | .down => 1
  | .training => 2
  | .enumerating => 3
  | .up => 4
  | .resetting => 5
  | .failed => 6

def LinkState.code : LinkState → Nat
  | .disabled => 0
  | .down => 1
  | .training => 2
  | .identify => 3
  | .measure => 4
  | .active => 5
  | .activeSlow => 6
  | .miswired => 7

def TimeState.code : TimeState → Nat
  | .free => 0
  | .acquiring => 1
  | .locked => 2
  | .holdover => 3

def DeviceState.code : DeviceState → Nat
  | .starting => 0
  | .window => 1
  | .running => 2
  | .warmResetting => 3
  | .pfDraining => 4
  | .pfHalted => 5
  | .fatal => 6

/-- Even parity over the field of `width` bits at bit `lo`. -/
def parityOf (v lo width : Nat) : Nat := (List.range width).foldl (fun p i => (p + bits v (lo + i) 1) % 2) 0

/-- A tag entry with its two parity bits (Table: Tag entry): PAR1 over [53:27] and PAR0 over [26:0]. -/
def TagEntry.encode (t : TagEntry) : Nat :=
  let v := bit t.bv * 2 ^ 53 + t.tag * 2 ^ 36 + t.sv.toNat * 2 ^ 20 + t.sf.toNat * 2 ^ 4 + bit t.pfo * 2 ^ 3
  parityOf v 27 27 * 2 ^ 55 + parityOf v 0 27 * 2 ^ 54 + v

/-- Entries of a map packed `n` to a word at `width` bits each, the `k`-th word (objects 3011 and 3012). -/
def packMap (t : Table Nat) (k n width : Nat) : Nat :=
  (List.range n).foldl (fun v j => if n * k + j < 256 then v + Table.get 0 t (n * k + j) * 2 ^ (width * j) else v) 0

/-- A map with the entries of its `k`-th word replaced. -/
def unpackMap (t : Table Nat) (k n width v : Nat) : Table Nat :=
  (List.range n).foldl (fun t j => if n * k + j < 256 then Table.set 0 t (n * k + j) (bits v (width * j) width) else t) t

/-- Members `128 k` to `128 k + 127` of a set of devices, as a word. -/
def deviceWord (l : List Nat) (k : Nat) : Nat :=
  (List.range 128).foldl (fun v j => if l.contains (128 * k + j) then v + 2 ^ j else v) 0

/-- A client's key: the two field buses carry one client (R385). -/
def clientKey (c : Client) : Client :=
  match c.transport with
  | .fieldBusB => { c with transport := .fieldBusA }
  | _ => c

/-- The mailbox port of a transport. -/
def mailboxPort : Transport → Option Nat
  | .mailbox p => some p
  | _ => none

namespace State

/-! ### Selections (R386) -/

/-- The state that the device holds for a client. -/
def clientAt (s : State) (c : Client) : Option ClientState := s.mgmt.clients.find? (·.client == clientKey c)

def modClient (s : State) (c : Client) (f : ClientState → ClientState) : State :=
  { s with mgmt := { s.mgmt with clients := mapIf (·.client == clientKey c) f s.mgmt.clients } }

/-- A client's selection; 0 until it writes one. -/
def selOf (s : State) (c : Client) : Selector := fun index sub =>
  match s.clientAt c with
  | some x => Table.get 0 x.selects (index * 256 + sub)
  | none => 0

/-- A selector for one item: the window at `index` shows it whatever the client has selected. -/
def selItem (s : State) (c : Client) (index item : Nat) : Selector := fun i j =>
  if i = index && j = 1 then item else s.selOf c i j

/-! ### Reads, by index page -/

def read10 (s : State) (index sub : Nat) : Nat :=
  match index, sub with
  | 0x1000, 5 => Config.serial.toNat
  | 0x1000, 8 => Config.vendorId.toNat
  | 0x1008, 3 => Config.romCrc.toNat
  | 0x1010, 1 => s.power.straps.toNat
  | _, _ => s.reg index sub

def read11 (s : State) (index sub : Nat) : Nat :=
  match index, sub with
  | 0x1100, 1 => s.mgmt.clients.length
  | 0x1100, 4 => s.mgmt.clients.foldl (fun n c => n + c.transfers.length) 0
  | 0x1100, 5 => s.mgmt.framesDropped
  | 0x1101, 2 => strapField s.power.straps 14 6
  | 0x1101, 7 => s.mgmt.fbState.toNat
  | 0x1102, 1 => s.mgmt.i3cAddress.toNat
  | 0x1102, 2 => s.mgmt.eid.toNat
  | _, _ => s.reg index sub

/-- The published record of another device, as PEER_RECORD shows it (R373). -/
def peerWord (s : State) (d : Nat) : Nat :=
  match s.heardRecord d with
  | none => 0
  | some r => r.state % 256 * 2 ^ 120 + r.fwLevel % 256 * 2 ^ 112 + r.stepping % 256 * 2 ^ 104 + r.epoch % 2 ^ 32 * 2 ^ 72 +
      sat32 r.errorPs * 2 ^ 40 + r.reason % 256 * 2 ^ 32

def read12 (s : State) (sel : Selector) (index sub : Nat) : Nat :=
  match index, sub with
  | 0x1200, 1 => s.canalTime
  | 0x1200, 2 => s.canal.timeState.code
  | 0x1200, 3 => bit s.canal.trusted
  | 0x1200, 4 => s.canal.master
  | 0x1200, 5 => sat32 s.canal.errorPs
  | 0x1200, 8 => s.canal.upstream.getD 0xFF
  | 0x1201, 1 => s.deviceNumber
  | 0x1201, 2 => s.flightSize
  | 0x1201, 3 => s.canal.member.code
  | 0x1201, 4 => s.canal.epoch
  | 0x1201, 5 => s.canal.leader
  | 0x1201, 6 => s.digest.toNat
  | 0x1201, 9 => s.canal.reason
  | 0x1202, 2 => s.peerWord (sel 0x1202 1)
  | 0x1202, 3 => ((s.heardRecord (sel 0x1202 1)).map fun r => r.digest.toNat).getD 0
  | 0x1203, 2 => deviceWord s.canal.active (sel 0x1203 1)
  | _, _ => s.reg index sub

/-- The results window (R404): a ticket that is queued, running, ended or not held. -/
def readResult (s : State) (ticket sub : Nat) : Nat :=
  match s.mgmt.cmds.find? (·.ticket == ticket) with
  | some c =>
    match sub with
    | 2 => if c.running then 2 else 1
    | 4 => c.opcode
    | 5 => c.ctag
    | 6 => if c.running then c.acceptedCanal else 0
    | _ => 0
  | none =>
    match s.mgmt.results.find? (·.ticket == ticket) with
    | some r =>
      match sub with
      | 2 => 3
      | 3 => r.code
      | 4 => r.opcode
      | 5 => r.ctag
      | 6 => r.acceptedCanal
      | 7 => sat32 r.micros
      | _ => 0
    | none => 0

def read1F (s : State) (sel : Selector) (index sub : Nat) : Nat :=
  match index, sub with
  | 0x1F00, 2 => s.mgmt.cmds.length
  | 0x1F00, 3 => s.mgmt.nextTicket
  | 0x1F10, 1 => sel 0x1F10 1
  | 0x1F10, _ => s.readResult (sel 0x1F10 1) sub
  | _, _ => s.reg index sub

/-- Rows of chart 0 in use. -/
def sysUsed (s : State) : Nat := s.tenant.regions.foldl (fun n (p : Nat × Region) => n + p.2.rows.length) 0

def read20 (s : State) (sel : Selector) (index sub : Nat) : Nat :=
  match index, sub with
  | 0x2000, 2 => (s.ctxWord (sel 0x2000 1)).toNat
  | 0x2000, 3 => (s.acct (sel 0x2000 1)).faults
  | 0x2000, 4 => (s.acct (sel 0x2000 1)).lastEvent
  | 0x2001, n => (Table.get 0 s.tenant.psets (sel 0x2001 1 * 4 + (n - 2))).toNat
  | 0x2010, 2 => (s.stagedRegion (sel 0x2010 1)).1.toNat
  | 0x2010, 3 => (s.stagedRegion (sel 0x2010 1)).2.toNat
  | 0x2010, 4 => (s.region (sel 0x2010 1)).st.code
  | 0x2010, 5 => (s.region (sel 0x2010 1)).rows.length
  | 0x2011, 1 => (s.tenant.regions.filter fun (p : Nat × Region) => p.2.st == .active).length
  | 0x2011, 2 => s.sysUsed
  | _, _ => s.reg index sub

def read22 (s : State) (sel : Selector) (index sub : Nat) : Nat :=
  let k := sel 0x2210 1
  match index, sub with
  | 0x2200, 1 => s.cache.st.code
  | 0x2200, 2 => bit s.cache.deferredEnable + 2 * bit s.cache.pendingInvalidate
  | 0x2200, 3 => s.cache.moored
  | 0x2200, 4 => s.cache.moored * 2 ^ 28
  | 0x2210, 2 => (List.range 16).foldl (fun v w => v + (s.wayMode k w).code * 4 ^ w) 0
  | 0x2210, 3 => (s.slice k).lfsr.toNat
  | 0x2210, 4 => (s.slice k).writeBuf.length
  | 0x2210, 5 => (s.slice k).wbHigh
  | 0x2210, 6 => (s.slice k).missRegs.length
  | 0x2210, 7 => (s.slice k).mergeBuf.length
  | 0x2210, 9 => Table.get 0 s.cache.drydock (k * 16 + sel 0x2210 8)
  | 0x2211, 2 => (s.tagAt k (sel 0x2211 1) (sel 0x2210 8)).encode
  | 0x2230, 4 => (s.cache.modes.filter fun (p : Nat × WayMode) => p.2 == .drydocked).length
  | _, _ => s.reg index sub

/-- Directory ways in the states of a test. -/
def dirCount (s : State) (f : DirState → Bool) : Nat := (s.home.dir.filter fun (p : Nat × DirEntry) => f p.2.st).length

def read24 (s : State) (sel : Selector) (index sub : Nat) : Nat :=
  let k := sel 0x2410 1
  match index, sub with
  | 0x2400, 1 => s.dirCount (· != .i)
  | 0x2400, 5 => s.dirCount (· == .b)
  | 0x2400, 7 => s.dirCount fun d => d == .p || d == .pp
  | 0x2400, 8 => s.dirCount (· == .pp)
  | 0x2400, 10 => s.retiredCount
  | 0x2400, 11 => s.home.setRecall.length
  | 0x2410, 5 => (s.slice k).trackers.length
  | 0x2410, 6 => (s.slice k).blocked.length
  | 0x2410, 7 => (s.slice k).tiePointer
  | 0x2420, 2 => (s.port (sel 0x2420 1)).violations
  | 0x2420, 3 => (s.port (sel 0x2420 1)).timeouts
  | 0x2420, 4 => bit (s.port (sel 0x2420 1)).suspect
  | _, _ => s.reg index sub

def read26 (s : State) (sel : Selector) (index sub : Nat) : Nat :=
  let q := s.queueAt (sel 0x2600 1)
  match index, sub with
  | 0x2600, 2 => q.cfg.toNat
  | 0x2600, 3 => q.st.code
  | 0x2600, 5 => q.sqHead
  | 0x2600, 6 => q.sqTail
  | 0x2600, 7 => q.cqHead
  | 0x2600, 8 => q.cqTail
  | 0x2600, 9 => q.lostStores + q.lostSectors * 2 ^ 32
  | 0x2600, 10 => bit q.deferredEnable + 2 * bit q.recoveryFlag
  | 0x2600, 11 => q.lastEvent
  | 0x2600, 12 => q.sqBase
  | 0x2600, 13 => q.cqBase
  | 0x2600, 14 => q.dataBase
  | 0x2600, 15 => q.dataSize
  | 0x2601, 2 => (s.queue.queues.filter fun (p : Nat × Queue) => p.2.fetches).length
  | _, _ => s.reg index sub

/-- The rows of the array that hold a chart's entries on this device, replicas included. -/
def chartRows (s : State) (c : Nat) : List Nat :=
  if c = 0 then (s.tenant.regions.map fun (p : Nat × Region) => p.2.rows).flatten
  else (s.search.entries.map fun (p : Nat × EntryRec) =>
    if p.2.chart = c then rowsFrom p.2.rows (s.entrySegments c) else []).flatten

/-- A chart's entries on this device, without replicas. -/
def chartEntries (s : State) (c : Nat) : Nat :=
  if c = 0 then s.sysUsed
  else (s.search.entries.filter fun (p : Nat × EntryRec) => p.2.chart == c && !p.2.rows.isEmpty).length

/-- Rows of a chart in its fullest group. -/
def chartFill (s : State) (c : Nat) : Nat :=
  let w := (s.chart c).desc1
  let rows := s.chartRows c
  (List.range (cdGroups w)).foldl (fun m g => max m (rows.filter fun r => (groupBanks w g).contains (rowBank r)).length) 0

def read30 (s : State) (sel : Selector) (index sub : Nat) : Nat :=
  let c := sel 0x3010 1
  match index, sub with
  | 0x3000, 2 => s.sysUsed + s.search.entries.foldl (fun n (p : Nat × EntryRec) => n + p.2.rows.length * s.entrySegments p.2.chart) 0
  | 0x3000, 3 => (s.search.charts.filter fun (p : Nat × Chart) => p.2.st == .valid || p.2.st == .moving).length
  | 0x3001, 2 => s.search.sweepPasses
  | 0x3001, 3 => s.search.sweepPos
  | 0x3010, 2 => (s.chart c).openStage.staged1.toNat
  | 0x3010, 3 => (s.chart c).openStage.staged0.toNat
  | 0x3010, 4 => (s.chart c).st.code
  | 0x3010, 5 => s.chartEntries c
  | 0x3010, 6 => (s.chartRows c).length
  | 0x3010, 7 => s.chartFill c
  | 0x3011, 2 => packMap (s.chart c).openStage.stagedGmap (sel 0x3011 1) 32 4
  | 0x3012, 2 => packMap (s.chart c).openStage.stagedDmap (sel 0x3012 1) 12 10
  | 0x3030, 2 => s.search.rowSource
  | _, _ => s.reg index sub

/-- Whether a chart shares fields with other devices: a committed descriptor whose SPAN is not LOCAL (R213). -/
def sharesChart (s : State) (c : Nat) : Bool := cdValid (s.chart c).desc1 && cdSpan (s.chart c).desc1 != 0

def read34 (s : State) (sel : Selector) (index sub : Nat) : Nat :=
  let c := sel 0x3410 1
  let x := s.chart c
  let p := Table.get (0, 0) s.search.peerAbsent (sel 0x3420 1)
  match index, sub with
  | 0x3400, 1 => s.tableClients.length
  | 0x3400, 4 => s.search.updates.length
  | 0x3410, 2 => x.generation
  | 0x3410, 3 => if s.sharesChart c then chartStamp x else 0
  | 0x3410, 4 => if cdSpan x.desc1 = 2 then x.members.foldl (fun v d => v + 2 ^ (d % 32)) 0 else 0
  | 0x3410, 6 => if s.sharesChart c && cdSpan x.desc1 != 2 then deviceWord x.members (sel 0x3410 5) else 0
  | 0x3410, 7 => x.coordinator
  | 0x3420, 2 => p.1
  | 0x3420, 3 => p.2
  | _, _ => s.reg index sub

/-- Blocks of the counter cache that satisfy a test. -/
def ccCount (s : State) (f : Nat → CcBlock → Bool) : Nat := (s.prot.cc.filter fun (p : Nat × CcBlock) => f p.1 p.2).length

def read40 (s : State) (sel : Selector) (index sub : Nat) : Nat :=
  let r := sel 0x4010 1
  let x := s.protRegion r
  let k := s.keySlot (sel 0x4020 1)
  match index, sub with
  | 0x4000, 1 => s.prot.st.code
  | 0x4000, 2 => bit s.prot.deferredEnable
  | 0x4000, 5 => bit s.prot.kek.isSome
  | 0x4001, 1 => s.ccCount fun n b => b.dirty && ccRootOf n % 2 == 0
  | 0x4001, 2 => s.ccCount fun n b => b.dirty && ccRootOf n % 2 == 1
  | 0x4001, 3 => s.ccCount fun _ b => b.pinned
  | 0x4010, 2 => (setFld x.staged1 95 12 x.newSlot).toNat
  | 0x4010, 3 => x.staged0.toNat
  | 0x4010, 4 => x.st.code
  | 0x4010, 5 => bit x.reknitting + 2 * bit x.exhausted + 4 * bit x.damaged
  | 0x4010, 6 => x.needle
  | 0x4010, 7 => x.epoch
  | 0x4010, 8 => if x.st == .empty then 0 else metaSize (pdSize x.staged1)
  | 0x4010, 9 => x.integrityFails
  | 0x4010, 10 => x.minorOverflows
  | 0x4010, 11 => (s.prot.damaged.filter (·.1 == r)).length
  | 0x4020, 2 => k.st.code
  | 0x4020, 3 => if k.st == .empty then 0 else keyCheck k.key
  | 0x4020, 4 => k.root.getD 0xFFFF
  | 0x4030, 3 => s.prot.reknitRoot.getD 0xFFFF
  | _, _ => s.reg index sub

def read42 (s : State) (sel : Selector) (index sub : Nat) : Nat :=
  let b := s.bucket (sel 0x4210 1)
  match index, sub with
  | 0x4200, 3 => sat32 s.slowestScrub.1
  | 0x4200, 4 => s.slowestScrub.2
  | 0x4210, 2 => b.level
  | 0x4210, 3 => b.overflows
  | 0x4210, 4 => b.ce
  | 0x4210, 5 => b.ue
  | 0x4211, n => s.regAt 0x4211 n (sel 0x4211 1)
  | 0x4230, 5 => s.ras.injectState
  | 0x4240, 1 => s.ras.checkerResult
  | 0x4240, 2 => s.ras.checkersTested
  | 0x4240, 3 => s.ras.checkerFirstFail
  | _, _ => s.reg index sub

/-- Requests that await admission (R328). -/
def admitWaiting (s : State) : Nat :=
  (s.tenant.txns.filter fun t => t.req.slot.isNone && !t.req.cls.isBack).length

def read44 (s : State) (sel : Selector) (index sub : Nat) : Nat :=
  let a := s.acct (sel 0x4410 1)
  match index, sub with
  | 0x4400, 2 => s.reserved
  | 0x4400, 3 => s.tenant.slotsG + s.tenant.slotsShared
  | 0x4400, 4 => s.tenant.slotsShared
  | 0x4400, 7 => s.admitWaiting
  | 0x4410, 2 => a.held
  | 0x4410, 3 => a.guaranteed
  | 0x4410, 4 => a.peak
  | 0x4410, 5 => a.gmisses
  | 0x4410, 6 => a.demoted
  | _, _ => s.reg index sub

def read46 (s : State) (sel : Selector) (index sub : Nat) : Nat :=
  let x := s.ring (sel 0x4621 1)
  match index, sub with
  | 0x4620, 2 => s.enabledRings.foldl (fun v r => v + 2 ^ r) 0
  | 0x4621, 2 => x.cfg.toNat
  | 0x4621, 4 => bit x.enabled
  | 0x4621, 5 => x.head
  | 0x4621, 6 => x.tail
  | 0x4621, 7 => x.skipped
  | 0x4621, 8 => x.lastSeq
  | 0x4621, 9 => x.base
  | 0x4621, 10 => drRecordBytes x.cfg
  | _, _ => s.reg index sub

/-- Pages 50 to 52: ports, targets and links. -/
def read50 (s : State) (sel : Selector) (index sub : Nat) : Nat :=
  let x := s.port (sel 0x5001 1)
  let l := s.linkAt (sel 0x5200 1)
  match index, sub with
  | 0x5000, 2 => s.quadRole (sel 0x5000 1)
  | 0x5000, 3 => (s.quadUser (sel 0x5000 1)).getD 0xFF
  | 0x5001, 2 => x.cfg.toNat
  | 0x5001, 3 => x.st.code
  | 0x5001, 4 => x.speed
  | 0x5001, 5 => x.lanes
  | 0x5001, 6 => x.ide
  | 0x5101, 2 => (Table.get 0 s.link.targets (sel 0x5101 1)).toNat
  | 0x5101, 3 => Table.get 0 s.link.targetFails (sel 0x5101 1)
  | 0x5200, 2 => l.st.code
  | 0x5200, 3 => l.peerDevice * 128 + l.peerLink
  | 0x5200, 4 => l.delayPs
  | 0x5200, 5 => l.replays
  | 0x5200, 6 => l.crcFails
  | 0x5200, 7 => l.fecCorrected
  | 0x5200, 8 => bit l.enabled
  | 0x5201, 2 => s.ownVector.toNat
  | _, _ => s.reg index sub

def read60 (s : State) (index sub : Nat) : Nat :=
  match index, sub with
  | 0x6000, 1 => s.power.resetCause
  | 0x6000, 2 => s.power.device.code
  | 0x6000, 3 => bit s.power.windowOpen
  | 0x6000, 5 => s.power.warmResets
  | 0x6000, 6 => s.power.readyMicros
  | 0x6000, 7 => s.power.lastWarmMicros
  | 0x6001, 1 => strapField s.power.straps 12 2
  | 0x6001, 2 => s.power.bistResult
  | 0x6001, 3 => s.power.bistFailed
  | 0x6001, 4 => s.power.bistMicros
  | 0x6010, 1 => s.power.warmLost
  | 0x6010, 3 => s.power.pfLost
  | 0x6020, 1 => bit s.power.pfailStuck + 2 * bit s.canal.pps.stuck
  | 0x6020, 2 => s.power.resetRunts
  | 0x6020, 3 => s.power.pfailChatter
  | 0x6020, 4 => s.power.ppsRejected
  | 0x6020, 5 => bit s.ppsGood
  | _, _ => s.reg index sub

/-- Whether a record is in the scope of a client: every record, but for a mailbox those of its port's scope (R300). -/
def inScope (s : State) (t : Transport) (r : LogRecord) : Bool :=
  match t with
  | .mailbox p => s.regAt 0x7020 4 p == 1 || r.port == some p
  | _ => true

/-- FAULT_SUMMARY: a mailbox outside MBOX_ADMIN_PORTS sees the classes of the records in its scope (R401). -/
def summaryFor (s : State) (t : Transport) : Nat :=
  let narrow := match t with
    | .mailbox p => !s.adminPort 0x1103 1 p
    | _ => false
  if narrow then
    (List.range 5).foldl (fun v c =>
      if s.ras.summary.getLsbD c && s.ras.log.any (fun r => r.cls.code == c && s.inScope t r) then v + 2 ^ c else v) 0
  else s.ras.summary.toNat

def read70 (s : State) (t : Transport) (sel : Selector) (index sub : Nat) : Nat :=
  match index, sub with
  | 0x7000, 1 => s.summaryFor t
  | 0x7000, 3 => s.ras.fatalEvent
  | 0x7000, 4 => s.ras.fatalTime
  | 0x7000, 5 => s.ras.priorFatal
  | 0x7000, 6 => s.ras.nextSeq % 2 ^ 32
  | 0x7000, 7 => s.ras.overwritten
  | 0x7002, 5 => s.ras.spilled
  | 0x7002, 2 => ((s.ras.fatalLog[sel 0x7002 1]?).map fun r => bits r.encode 128 128).getD 0
  | 0x7002, 3 => ((s.ras.fatalLog[sel 0x7002 1]?).map fun r => bits r.encode 0 128).getD 0
  | 0x7020, n => s.regAt 0x7020 n (sel 0x7020 1)
  | 0x7030, 2 => bit s.ras.alertN
  | _, _ => s.reg index sub

/-- The number that an object reads as. -/
def readNum (s : State) (t : Transport) (sel : Selector) (index sub : Nat) : Nat :=
  if isSelect index sub then sel index sub
  else match index / 256 with
    | 0x10 => s.read10 index sub
    | 0x11 => s.read11 index sub
    | 0x12 => s.read12 sel index sub
    | 0x1F => s.read1F sel index sub
    | 0x20 => s.read20 sel index sub
    | 0x22 => s.read22 sel index sub
    | 0x24 => s.read24 sel index sub
    | 0x26 => s.read26 sel index sub
    | 0x30 => s.read30 sel index sub
    | 0x34 => s.read34 sel index sub
    | 0x40 => s.read40 sel index sub
    | 0x42 => s.read42 sel index sub
    | 0x44 => s.read44 sel index sub
    | 0x46 => s.read46 sel index sub
    | 0x50 | 0x51 | 0x52 => s.read50 sel index sub
    | 0x60 => s.read60 index sub
    | _ => s.read70 t sel index sub

/-! ### Reads that are byte strings or touch what they read -/

/-- Mark the records of a test as read (R295). -/
def markRead (s : State) (f : LogRecord → Bool) : State :=
  { s with ras := { s.ras with log := mapIf f (fun r => { r with read := true }) s.ras.log } }

/-- The record that LOG_SELECT reaches: the first in scope at or after it (R300). -/
def selectedRecord (s : State) (t : Transport) (n : Nat) : Option LogRecord :=
  s.ras.log.find? fun r => decide (n ≤ r.seq) && s.inScope t r

/-- LOG_RECORD_HI and LOG_RECORD_LO. -/
def readRecord (s : State) (t : Transport) (n lo : Nat) : State × ObjValue :=
  match s.selectedRecord t n with
  | none => (s, .num 0)
  | some r => ((s.readLogWords r.seq).markRead (·.seq == r.seq), .num (bits r.encode lo 128))

/-- LOG_DUMP: 32 B for each record in scope from LOG_SELECT onward. -/
def readDump (s : State) (t : Transport) (n : Nat) : State × ObjValue :=
  let shown (r : LogRecord) : Bool := decide (n ≤ r.seq) && s.inScope t r
  (((s.ras.log.filter shown).foldl (fun s r => s.readLogWords r.seq) s).markRead shown, .bytes ((s.ras.log.filter shown).map fun r => leBytes r.encode 32).flatten)

/-- ECTR_ALL: every event counter at one instant. -/
def readAllCounters (s : State) : State × List Byte :=
  (List.range 2048).foldl (fun (p : State × List Byte) n =>
    let (s, v) := p.1.readCounter n
    (s, p.2 ++ leBytes v.toNat 8)) (s, [])

/-- DIR_ENTRY: a word that cannot be corrected has no value to show (R282, R395). -/
def readDirEntry (s : State) (k set way : Nat) : ObjValue :=
  match eccCheck (s.damageAt (128 + k) (set * 12 + way)) with
  | .uncorrectable _ _ => .lost
  | _ => .num (s.dirAt k set way).encode

/-- RESULT_DATA. -/
def resultData (s : State) (ticket : Nat) : List Byte := ((s.mgmt.results.find? (·.ticket == ticket)).map (·.data)).getD []

/-- ROW_X to ROW_DATUM: the row that the client's window has latched (R199). -/
def readRow (s : State) (c : Client) (sub : Nat) : ObjValue :=
  match s.clientAt c with
  | none => .num 0
  | some x =>
    match sub with
    | 3 => .num x.row.x.toNat
    | 4 => .num x.row.y.toNat
    | 5 => .num x.row.control
    | _ => if x.rowLost then .lost else .num x.row.datum.toNat

/-- The firmware-table word that an object's value is read from, none for objects that the firmware tables do not hold (R277). -/
def tableWordOf (sel : Selector) (index sub : Nat) : Option Nat :=
  match index with
  | 0x2000 => if sub = 2 then some (ctxRecord (sel 0x2000 1)) else none
  | 0x2010 => if sub = 2 || sub = 3 then some (regionRecord (sel 0x2010 1) + (sub - 2)) else none
  | 0x3010 => if sub = 2 || sub = 3 then some (chartRecord (sel 0x3010 1) + (sub - 2)) else none
  | 0x3011 => some (chartRecord (sel 0x3010 1) + 2 + sel 0x3011 1)
  | 0x3012 => some (chartRecord (sel 0x3010 1) + 10 + sel 0x3012 1)
  | 0x4010 => if sub = 2 || sub = 3 then some (rootRecord (sel 0x4010 1) + (sub - 2)) else none
  | _ => none

/-- Firmware reads what an object shows from its tables. -/
def readTables (s : State) (sel : Selector) (index sub : Nat) : State :=
  match tableWordOf sel index sub with
  | some w => s.readRecordWord w
  | none => s

/-- Firmware writes what an object sets into its tables. -/
def writeTables (s : State) (sel : Selector) (index sub : Nat) : State :=
  match tableWordOf sel index sub with
  | some w => s.writeRecordWord w
  | none => s

/-- What an object reads as. -/
def readObject (s : State) (t : Transport) (sel : Selector) (index sub : Nat) : State × ObjValue :=
  if sub = 0 then (s, .num (maxSub index))
  else match identityString index sub with
    | some l => (s, .bytes (l.map (BitVec.ofNat 8)))
    | none =>
      match index, sub with
      | 0x1101, 6 => (s, .bytes (beBytes s.mgmt.notifyAddr.toNat 16))
      | 0x1101, 8 => (s, .bytes (macAddress 0x0A))
      | 0x1101, 9 => (s, .bytes (macAddress 0x0E))
      | 0x1102, 3 => (s, .bytes (beBytes Config.i3cPid.toNat 6))
      | 0x1F10, 8 => (s, .bytes (s.resultData (sel 0x1F10 1)))
      | 0x2410, 4 => (s, s.readDirEntry (sel 0x2410 1) (sel 0x2410 2) (sel 0x2410 3))
      | 0x4000, 3 => (s, .bytes devicePublicKey)
      | 0x4000, 4 => (s, .bytes Config.certificate)
      | 0x4600, 2 => ((s.readCounter (sel 0x4600 1)).1, .num (s.readCounter (sel 0x4600 1)).2.toNat)
      | 0x4600, 3 => (s.readAllCounters.1, .bytes s.readAllCounters.2)
      | 0x4610, 2 => ((s.readCounter (ctxCounterNo (sel 0x4610 1) 0)).1, .num (s.readCounter (ctxCounterNo (sel 0x4610 1) 0)).2.toNat)
      | 0x4610, 3 => ((s.readCounter (ctxCounterNo (sel 0x4610 1) 1)).1, .num (s.readCounter (ctxCounterNo (sel 0x4610 1) 1)).2.toNat)
      | 0x7001, 2 => s.readRecord t (sel 0x7001 1) 128
      | 0x7001, 3 => s.readRecord t (sel 0x7001 1) 0
      | 0x7001, 4 => s.readDump t (sel 0x7001 1)
      | _, _ => (s, .num (s.readNum t sel index sub))

/-! ### The reach of a mailbox (R327, R401) -/

/-- Whether a context belongs to a port. -/
def ctxOfPort (s : State) (p c : Nat) : Bool := ctxPort c (s.ctxWord c) == p

/-- Whether a ticket is held that was not submitted through a port's mailbox. -/
def foreignTicket (s : State) (p ticket : Nat) : Bool :=
  let other (c : Client) : Bool := c.transport != .mailbox p
  s.mgmt.cmds.any (fun c => c.ticket == ticket && other c.client) || s.mgmt.results.any fun r => r.ticket == ticket && other r.client

/-- What every mailbox is bound to (R327): counters of its own readable contexts, and event counters for ports in CTR_ADMIN_PORTS. -/
def counterReach (s : State) (p : Nat) (sel : Selector) (index sub : Nat) : Bool :=
  match index, sub with
  | 0x4610, 2 | 0x4610, 3 => s.ctxOfPort p (sel 0x4610 1) && ctxCtrRead (s.ctxWord (sel 0x4610 1))
  | 0x4600, 2 | 0x4600, 3 => s.adminPort 0x4600 4 p
  | _, _ => true

/-- Table: Mailbox reach of a port not in MBOX_ADMIN_PORTS. -/
def plainReach (s : State) (p : Nat) (sel : Selector) (index sub : Nat) (write : Bool) : Bool :=
  match index / 256 with
  | 0x10 | 0x11 | 0x12 => !write
  | _ =>
    match index with
    | 0x2000 => if sub = 1 then true else decide (2 ≤ sub) && !write && s.ctxOfPort p (sel 0x2000 1)
    | 0x2600 =>
      if sub = 1 then true
      else decide (3 ≤ sub) && decide (sub ≤ 11) && qcPort (s.queueAt (sel 0x2600 1)).cfg == p && (!write || sub == 4)
    | 0x4600 | 0x4610 => !write || sub == 1
    | 0x7000 => sub == 1 && !write
    | 0x7001 => !write || sub == 1
    | 0x7020 => sub == 1 || sel 0x7020 1 == p
    | 0x1F00 => sub == 1 && write
    | 0x1F10 => sub == 1 || (!write && (sub == 0 || !s.foreignTicket p (sel 0x1F10 1)))
    | _ => false

/-- Whether a client's transport permits an access (R401). -/
def reaches (s : State) (t : Transport) (sel : Selector) (index sub : Nat) (write : Bool) : Bool :=
  match t with
  | .mailbox p => s.counterReach p sel index sub && (s.adminPort 0x1103 1 p || s.plainReach p sel index sub write)
  | _ => true

/-! ### Writes that have checks or effects of their own (R383) -/

/-- Whether a running command works on the item whose staging an object holds (R384). -/
def stagingBusy (s : State) (sel : Selector) (index sub : Nat) : Bool :=
  let on (ops : List Nat) (width item : Nat) : Bool :=
    s.mgmt.cmds.any fun c => c.running && ops.contains c.opcode && param c.params 0 width == item
  let busyChart : Bool := on [0x3001, 0x3002, 0x3003, 0x3004, 0x3005, 0x3101] 1 (sel 0x3010 1) || (s.chart (sel 0x3010 1)).span.isSome
  match index, sub with
  | 0x2010, 2 | 0x2010, 3 => on [0x2001, 0x2002, 0x2003, 0x2004] 2 (sel 0x2010 1)
  | 0x3010, 2 | 0x3010, 3 | 0x3011, 2 | 0x3012, 2 => busyChart
  | 0x4010, 2 | 0x4010, 3 => on [0x4001, 0x4002, 0x4003] 2 (sel 0x4010 1)
  | _, _ => false

/-- Whether the function that owns an rwd object is disabled (R381). -/
def rwdOpen (s : State) (sel : Selector) (index : Nat) : Bool :=
  match index with
  | 0x2600 => (s.queueAt (sel 0x2600 1)).st == .disabled
  | 0x4620 => s.enabledRings.isEmpty
  | 0x4621 => !(s.ring (sel 0x4621 1)).enabled
  | 0x5000 => (s.quadUser (sel 0x5000 1)).isNone
  | 0x5001 => !pcEnable (s.port (sel 0x5001 1)).cfg
  | _ => true

/-- A context entry is written: the values of every request admitted afterwards (R34, R307). -/
def writeCtx (s : State) (c : Nat) (v : Nat) : Except Nat State :=
  let w := ctxNormal c (BitVec.ofNat 128 v)
  let others := s.tenant.ctx.foldl (fun n (p : Nat × Word128) => if p.1 != c && ctxValid p.2 then n + ctxGuarantee p.2 else n) 0
  let total := others + if ctxValid w then ctxGuarantee w else 0
  if 32768 < ctxBudget w || (ctxValid w && decide (ctxBudget w < ctxGuarantee w)) || decide (32768 - s.inEffect 0x4400 5 < total) then
    .error abortInvalidValue
  else .ok (({ s with tenant := { s.tenant with ctx := Table.set (ctxNormal c 0) s.tenant.ctx c w } } : State).reclassify c)

/-- POWER_CAP is refused below the banks per group of a VALID or MOVING chart; chart 0 has no such limit (R187). -/
def writePowerCap (s : State) (v : Nat) : Except Nat State :=
  if s.search.charts.any fun (p : Nat × Chart) => p.1 != 0 && (p.2.st == .valid || p.2.st == .moving) && decide (v < banksPerGroup p.2.desc1)
  then .error abortInvalidValue
  else .ok (s.setReg 0x3000 4 v)

/-- A word of a protected region's staged descriptor; NEW_SLOT is the device's (R226). -/
def stageRoot (s : State) (r : Nat) (high : Bool) (v : Nat) : State :=
  s.modProtRegion r fun x => { x with
    staged1 := if high then setFld (BitVec.ofNat 128 v) 95 12 0 else x.staged1
    staged0 := if high then x.staged0 else BitVec.ofNat 128 v
    st := if x.st = .empty then .staged else x.st }

/-- REKNIT_RATE: the stall limit runs from when the rate is no longer 0, since a needle may stand still while it is 0 (R261, R264). -/
def writeReknitRate (s : State) (v : Nat) : State :=
  let s := if s.reg 0x4030 1 = 0 && v != 0 then { s with prot := { s.prot with needleAt := s.now, stallLogged := false } } else s
  s.setReg 0x4030 1 v

/-- A bus goes DOWN: event 1005, once (R398). -/
def busDown (s : State) (b : Nat) : State :=
  if s.mgmt.fbState.getLsbD b then
    ({ s with mgmt := { s.mgmt with fbState := s.mgmt.fbState &&& ~~~BitVec.ofNat 2 (2 ^ b) } } : State).raise 0x1005 .degraded (.count b 0)
  else s

/-- FB_ENABLE: a bus that is no longer enabled is not UP. -/
def writeBusEnable (s : State) (v : Nat) : State :=
  let s := s.setReg 0x1101 1 v
  [0, 1].foldl (fun s b => if v.testBit b then s else s.busDown b) s

/-- A write of a queue's configuration: reserved bits read 0 (R167). -/
def writeQueue (s : State) (q sub v : Nat) : Except Nat State :=
  match sub with
  | 2 => .ok (s.modQueue q fun x => { x with cfg := setFld (BitVec.ofNat 128 v) 0 76 0 })
  | 12 => if v % 4096 = 0 then .ok (s.modQueue q fun x => { x with sqBase := v }) else .error abortInvalidValue
  | 13 => if v % 4096 = 0 then .ok (s.modQueue q fun x => { x with cqBase := v }) else .error abortInvalidValue
  | 14 => if v % 4096 = 0 then .ok (s.modQueue q fun x => { x with dataBase := v }) else .error abortInvalidValue
  | 15 => if v % 4096 = 0 then .ok (s.modQueue q fun x => { x with dataSize := v }) else .error abortInvalidValue
  | _ => match s.queueControl q v with
    | some t => .ok t
    | none => .error abortInvalidValue

/-- A write of a dump ring's objects; nothing is ENABLED in the start-up window (R322, R419). -/
def writeRing (s : State) (r sub v : Nat) : Except Nat State :=
  match sub with
  | 2 => .ok (s.modRing r fun x => { x with cfg := setFld (BitVec.ofNat 128 v) 0 15 0 })
  | 5 => .ok (s.moveHead r v)
  | 9 => if v % 4096 = 0 then .ok (s.modRing r fun x => { x with base := v }) else .error abortInvalidValue
  | _ =>
    if s.power.windowOpen && v = 1 then .error abortInvalidValue
    else match s.ringControl r v with
      | some t => .ok t
      | none => .error abortInvalidValue

/-- A write of a port's notification settings: HOST_SCOPE 1 needs LOG_ADMIN_PORTS (R300). -/
def writeHost (s : State) (p sub v : Nat) : Except Nat State :=
  if sub = 4 && v = 1 && !s.adminPort 0x7021 1 p then .error abortAccessDenied
  else .ok (s.setRegAt 0x7020 sub p v)

/-- A client's write of ROW_SELECT or ROW_SOURCE latches the row that it has selected (R199, R386). -/
def writeRow (s : State) (c : Client) (source : Bool) (v : Nat) : State :=
  if source then ({ s with search := { s.search with rowSource := v } } : State).latchRow (clientKey c) (s.selOf c 0x3030 1)
  else s.latchRow (clientKey c) v

/-- A write of pages 10 to 2F whose type, length and range are right. -/
def writeLow (s : State) (sel : Selector) (index sub v : Nat) : Except Nat State :=
  match index, sub with
  | 0x1101, 1 => .ok (s.writeBusEnable v)
  | 0x1200, 7 => .ok (({ s with canal := { s.canal with timeSetWritten := true } } : State).setReg 0x1200 7 v)
  | 0x2000, _ => s.writeCtx (sel 0x2000 1) v
  | 0x2001, n => .ok { s with tenant := { s.tenant with
      psets := Table.set 0 s.tenant.psets (sel 0x2001 1 * 4 + (n - 2)) (BitVec.ofNat 128 v) } }
  | 0x2010, n => .ok (s.stageRegion (sel 0x2010 1) (n == 2) (BitVec.ofNat 128 v))
  | 0x2011, 3 => if v % 16384 = 0 then .ok (s.setReg 0x2011 3 v) else .error abortInvalidValue
  | 0x2210, _ => .ok (s.modSlice (sel 0x2210 1) fun x => { x with wbHigh := x.writeBuf.length })
  | 0x2220, 2 => if v % 256 = 0 then .error abortInvalidValue else .ok (s.setReg 0x2220 2 v)
  | 0x2230, 2 => .ok ((s.setReg 0x2230 2 v).restartGrid 15)
  | 0x2420, _ => .ok (s.modPort (sel 0x2420 1) fun x => { x with suspect := false })
  | 0x2600, n => s.writeQueue (sel 0x2600 1) n v
  | _, _ => .ok (s.setReg index sub v)

/-- A write of pages 30 to 4F. -/
def writeMid (s : State) (sel : Selector) (index sub v : Nat) : Except Nat State :=
  match index, sub with
  | 0x3000, _ => s.writePowerCap v
  | 0x3010, n => .ok (s.modChart (sel 0x3010 1) fun x => x.stage fun y =>
      if n = 2 then { y with staged1 := BitVec.ofNat 128 v } else { y with staged0 := BitVec.ofNat 128 v })
  | 0x3011, _ => .ok (s.modChart (sel 0x3010 1) fun x => x.stage fun y =>
      { y with stagedGmap := unpackMap y.stagedGmap (sel 0x3011 1) 32 4 v })
  | 0x3012, _ => .ok (s.modChart (sel 0x3010 1) fun x => x.stage fun y =>
      { y with stagedDmap := unpackMap y.stagedDmap (sel 0x3012 1) 12 10 v })
  | 0x4010, n => .ok (s.stageRoot (sel 0x4010 1) (n == 2) v)
  | 0x4030, 1 => .ok (s.writeReknitRate v)
  | 0x4211, 3 => .ok ((s.setRegAt 0x4211 3 (sel 0x4211 1) v).restartGrid (sel 0x4211 1))
  | 0x4211, 4 => if parityClass (sel 0x4211 1) then .error abortInvalidValue else .ok (s.setRegAt 0x4211 4 (sel 0x4211 1) v)
  | 0x4211, n => .ok (s.setRegAt 0x4211 n (sel 0x4211 1) v)
  | 0x4230, 1 => .ok (s.writeInjectEnable v)
  | 0x4230, 2 => s.writeInjectBucket v
  | 0x4230, 4 => s.armInjection
  | 0x4410, _ => .ok (s.modAcct (sel 0x4410 1) fun a => { a with peak := a.held })
  | 0x4621, n => s.writeRing (sel 0x4621 1) n v
  | _, _ => .ok (s.setReg index sub v)

/-- A write of pages 50 to 70. -/
def writeHigh (s : State) (sel : Selector) (index sub v : Nat) : Except Nat State :=
  match index, sub with
  | 0x5000, _ => s.writeQuadRole (sel 0x5000 1) v
  | 0x5001, 2 => s.writePortConfig (sel 0x5001 1) (BitVec.ofNat 32 v)
  | 0x5001, _ => s.writePortControl (sel 0x5001 1) v
  | 0x5101, _ => s.writeTarget (sel 0x5101 1) (BitVec.ofNat 128 v)
  | 0x5102, 1 => if (leBytes v 8).contains 0 then .error abortInvalidValue else .ok (s.setReg 0x5102 1 v)
  | 0x5200, _ => s.writeLinkEnable (sel 0x5200 1) v
  | 0x5201, 1 => s.writeSpareMap v
  | 0x7000, _ => .ok s.clearSummary
  | 0x7002, _ => .ok s.clearFatalLog
  | 0x7020, n => s.writeHost (sel 0x7020 1) n v
  | 0x7030, 3 => .ok (s.ackAlert v)
  | _, _ => .ok (s.setReg index sub v)

/-- A selection is written; ROW_SELECT latches its row (R386, R199). -/
def writeSelect (s : State) (c : Client) (index sub v : Nat) : State :=
  let s := s.modClient c fun x => { x with selects := Table.set 0 x.selects (index * 256 + sub) v }
  if index = 0x3030 then s.writeRow c false v else s

/-- Write a number, or the abort that the object's own rule answers with. -/
def writeNum (s : State) (c : Client) (sel : Selector) (index sub v : Nat) : Except Nat State :=
  if isSelect index sub then .ok (s.writeSelect c index sub v)
  else if index < 0x3000 then s.writeLow sel index sub v
  else if index = 0x3030 then .ok (s.writeRow c true v)
  else if index < 0x5000 then s.writeMid sel index sub v
  else s.writeHigh sel index sub v

end State

/-! ### The checks of every write (R381, R383, R395, R407) -/

/-- Whether an address is link-local unicast or multicast. -/
def notifyAddrOk (v : Nat) : Bool := v >>> 118 == 0x3FA || v >>> 120 == 0xFF

namespace State

/-- The aborts that come before a write's value is looked at. -/
def writeBarred (s : State) (t : Transport) (sel : Selector) (d : ObjDef) : Option Nat :=
  let i := d.index
  let shared := sharedObjects.contains (i, d.sub) && s.canal.member == .active && decide (1 < s.canal.active.length)
  if !s.reaches t sel i d.sub true || shared then some abortAccessDenied
  else if d.access == .const || d.access == .ro then some abortNotWritable
  else if s.isFatal && !(isSelect i d.sub || i / 256 == 0x70 || i == 0x1F00) then some abortWrongState
  else if d.access == .rws && !s.power.windowOpen then some abortWrongState
  else if d.access == .rwd && !s.rwdOpen sel i then some abortWrongState
  else if s.stagingBusy sel i d.sub then some abortWrongState
  else none

/-- A write of an object but CMD_SUBMIT and LOOKASIDE_FLUSH: the state it leaves, or its abort. -/
def checkedWrite (s : State) (c : Client) (sel : Selector) (index sub : Nat) (data : List Byte) : Except Nat State :=
  if sub = 0 && maxSub index != 0 then .error (if s.reaches c.transport sel index 0 true then abortNotWritable else abortAccessDenied)
  else match objDef index sub with
    | none => .error abortNoObject
    | some d =>
      match s.writeBarred c.transport sel d with
      | some e => .error e
      | none =>
        if d.type == .octets then
          if data.length != 16 then .error abortLength
          else if !notifyAddrOk (ofBe data) then .error abortInvalidValue
          else .ok { s with mgmt := { s.mgmt with notifyAddr := BitVec.ofNat 128 (ofBe data) } }
        else if data.length != d.type.size then .error abortLength
        else
          let v := ofLe data
          if v < d.lo || d.hi < v then .error abortInvalidValue else (s.writeTables sel index sub).writeNum c sel index sub v

/-- A read of an object: its bytes, or its abort. -/
def checkedRead (s : State) (c : Client) (sel : Selector) (index sub : Nat) : State × Except Nat (List Byte) :=
  let d : Option ObjDef := if sub = 0 && maxSub index != 0 then some ⟨index, 0, .u8, .const, 0, 0, 0xFF⟩ else objDef index sub
  match d with
  | none => (s, .error abortNoObject)
  | some d =>
    if !s.reaches c.transport sel index sub false then (s, .error abortAccessDenied)
    else if d.access == .wo then (s, .error abortNotReadable)
    else match (if index = 0x3030 && 3 ≤ sub then (s, s.readRow c sub) else (s.readTables sel index sub).readObject c.transport sel index sub) with
      | (s, .num v) => (s, .ok (leBytes v d.type.size))
      | (s, .bytes b) => (s, .ok b)
      | (s, .lost) => (s, .error abortHardwareError)

end State

end Sys2Proof.Machine
end

