-- ==== Sys2Proof/Machine/Frames.lean ====
section
/-! DEFINITION. Frames: clients, duplicate writes, segmented transfers, responses, and the writes that the table of operations names (R385 to R396, R404). -/

namespace Sys2Proof.Machine

/-- The most data bytes that a frame of a transport carries (Table: Management transports). -/
def frameLimit : Transport → Nat
  | .fieldBusA | .fieldBusB => 1024
  | .i3c => 240
  | .mailbox _ => 4080

/-- What a response says beside the fields that it repeats: KIND, FLAGS, ARG and data. -/
structure Reply where
  kind : Nat
  flags : Nat := 0
  arg : Nat := 0
  data : List Byte := []
  deriving DecidableEq, Repr

/-- An ABORT with its code (R395). -/
def Reply.abort (code : Nat) : Reply := { kind := 0xE, arg := code }

/-- The bit of a field bus in a mask of buses. -/
def busBit : Transport → BitVec 2
  | .fieldBusA => 1
  | .fieldBusB => 2
  | _ => 0

/-- The client of a frame. -/
def Frame.client (f : Frame) : Client := ⟨f.transport, fhClient f.header⟩

/-- Whether the data that came with a header are as long as it says; LEN of a SEG_READ names bytes wanted. -/
def Frame.whole (f : Frame) : Bool := f.data.length == if fhKind f.header = 3 then 0 else fhLen f.header

/-- What R391, R392 and R395 ask of a request's header. -/
def Frame.formOk (f : Frame) : Bool :=
  let h := f.header
  fhVersion h == 1 && decide (1 ≤ fhKind h) && decide (fhKind h ≤ 5) && fhFlags h / 2 == 0 && fhClient h != 0 && fhReserved h == 0 &&
    decide (fhLen h ≤ frameLimit f.transport) && ((fhKind h != 1 && fhKind h != 5) || fhLen h == 0)

/-- The header of a write that the table of operations names. -/
def writeHeader (c : Client) (index sub len : Nat) : Word128 := frameHeader 2 0 c.number 0 index sub len 0

namespace State

/-! ### Responses -/

/-- Send the response to a request; the first one after an eviction carries SEL_LOST (R386, R391). -/
def reply (s : State) (t : Transport) (h : Word128) (r : Reply) : State :=
  let c := clientKey ⟨t, fhClient h⟩
  let lost := s.mgmt.selLost.contains c
  let s := if lost then { s with mgmt := { s.mgmt with selLost := s.mgmt.selLost.filter (· != c) } } else s
  s.emit (.frame t (frameHeader r.kind (r.flags + 2 * bit lost) (fhClient h) (fhSeq h) (fhIndex h) (fhSub h) r.data.length r.arg) r.data)

/-- A frame is dropped: event 1001 (R394). -/
def dropFrame (s : State) : State :=
  ({ s with mgmt := { s.mgmt with framesDropped := sat32 (s.mgmt.framesDropped + 1) } } : State).raise 0x1001 .note

/-! ### Clients (R386) -/

/-- A client sends a frame: its state becomes the one used last; a 257th client takes the place of the one idle longest, with event 1003. -/
def touchClient (s : State) (c : Client) : State :=
  let k := clientKey c
  match s.clientAt c with
  | some x => { s with mgmt := { s.mgmt with clients := (s.mgmt.clients.filter (·.client != k)) ++ [x] } }
  | none =>
    match decide (256 ≤ s.mgmt.clients.length), s.mgmt.clients with
    | true, old :: rest =>
      ({ s with mgmt := { s.mgmt with
          clients := rest ++ [({ client := k } : ClientState)]
          selLost := s.mgmt.selLost.filter (· != old.client) ++ [old.client] } } : State).raise 0x1003 .note
    | _, l => { s with mgmt := { s.mgmt with clients := l ++ [({ client := k } : ClientState)] } }

/-- The selector of a frame. -/
def selFor (s : State) (f : Frame) : Selector :=
  match f.pick with
  | none => s.selOf f.client
  | some (w, n) => s.selItem f.client w n

/-! ### Duplicate records (R396) -/

/-- OBJ_DEDUP_HOLD in ns. -/
def dedupHold (s : State) : Nat := s.reg 0x1100 2 * 1000000

/-- The record of a client's frame with a sequence number, while it is held. -/
def frameRecord (s : State) (c : Client) (seq : Nat) : Option FrameRec :=
  (s.clientAt c).bind fun x => x.records.find? fun r => r.seq == seq && (r.response.isNone || decide (s.now < r.at_ + s.dedupHold))

/-- Open the record of a frame; the latest 32 are kept. -/
def openRecord (s : State) (h : Word128) (c : Client) : State :=
  let r : FrameRec := { seq := fhSeq h, kind := fhKind h, index := fhIndex h, sub := fhSub h, response := none, at_ := s.now }
  s.modClient c fun x =>
    let l := (x.records.filter (·.seq != r.seq)) ++ [r]
    { x with records := l.drop (l.length - 32) }

/-- The response of a frame is recorded. -/
def recordReply (s : State) (h : Word128) (c : Client) (r : Reply) : State :=
  s.modClient c fun x => { x with records := mapIf (·.seq == fhSeq h) (fun y => { y with
    response := some (frameHeader r.kind r.flags (fhClient h) (fhSeq h) (fhIndex h) (fhSub h) r.data.length r.arg, r.data), at_ := s.now }) x.records }

/-- A duplicate of a submission notes the bus on which it came, and its response says when CMD_DONE has gone (R404). -/
def noteResubmission (s : State) (t : Transport) (ticket : Nat) : State × Nat :=
  if s.mgmt.results.any fun r => r.ticket == ticket && r.notified then (s, 4)
  else ({ s with mgmt := { s.mgmt with
      cmds := mapIf (·.ticket == ticket) (fun c => { c with buses := c.buses ||| busBit t }) s.mgmt.cmds } }, 0)

/-- A duplicate is answered with the recorded response. -/
def answerDuplicate (s : State) (f : Frame) (h : Word128) (d : List Byte) : State :=
  let submission := fhIndex h == 0x1F00 && fhKind h == 0xA
  let (s, flag) := if submission then s.noteResubmission f.transport (fhArg h) else (s, 0)
  s.reply f.transport f.header { kind := fhKind h, flags := flag, arg := fhArg h, data := d }

/-! ### READ and WRITE -/

/-- A READ frame; a value too large for one frame has to be read in segments (R388). -/
def readFrame (s : State) (f : Frame) (sel : Selector) : State × Reply :=
  match s.checkedRead f.client sel (fhIndex f.header) (fhSub f.header) with
  | (_, .error e) => (s, .abort e)
  | (t, .ok b) => if frameLimit f.transport < b.length then (s, .abort abortSegmented) else (t, { kind := 9, data := b })

/-- The checks on CMD_SUBMIT, then the submission: its ticket, or its abort (R402, R403). -/
def submitRecord (s : State) (f : Frame) (sel : Selector) (record : List Byte) : State × Except Nat Nat :=
  match s.writeBarred f.transport sel ⟨0x1F00, 1, .domain, .wo, 0, 16, 1024⟩ with
  | some e => (s, .error e)
  | none =>
    if 1024 < record.length then (s, .error abortLength)
    else if record.length < 16 then (s, .error abortInvalidValue)
    else match s.submitCommand (clientKey f.client) (busBit f.transport) record with
      | (s, some t) => (s, .ok t)
      | (s, none) => (s, .error abortNoResource)

/-- A WRITE frame; none while its response waits for the drain of LOOKASIDE_FLUSH (R45, R383). -/
def writeFrame (s : State) (f : Frame) (sel : Selector) : State × Option Reply :=
  let i := fhIndex f.header
  let j := fhSub f.header
  if i = 0x1F00 && j = 1 then
    match s.submitRecord f sel f.data with
    | (s, .ok t) => (s, some { kind := 0xA, arg := t })
    | (s, .error e) => (s, some (.abort e))
  else if i = 0x2020 && j = 2 then
    match s.writeBarred f.transport sel ⟨0x2020, 2, .bool, .wo, 0, 1, 1⟩ with
    | some e => (s, some (.abort e))
    | none =>
      if f.data.length != 1 then (s, some (.abort abortLength))
      else if ofLe f.data != 1 then (s, some (.abort abortInvalidValue))
      else (s.flushLookaside (some (f.client, f.header)), none)
  else match s.checkedWrite f.client sel i j f.data with
    | .ok t => (t, some { kind := 0xA })
    | .error e => (s, some (.abort e))

/-! ### Segmented transfers (R388 to R390) -/

/-- A client's open transfer of an object. -/
def transferOf (s : State) (c : Client) (index sub : Nat) : Option Transfer :=
  (s.clientAt c).bind fun x => x.transfers.find? fun t => t.index == index && t.sub == sub

def closeTransfer (s : State) (c : Client) (index sub : Nat) : State :=
  s.modClient c fun x => { x with transfers := x.transfers.filter fun t => !(t.index == index && t.sub == sub) }

def putTransfer (s : State) (c : Client) (t : Transfer) : State :=
  s.modClient c fun x => { x with transfers := (x.transfers.filter fun u => !(u.index == t.index && u.sub == t.sub)) ++ [t] }

/-- Whether one more transfer may open: four a client, 64 in all. -/
def transferRoom (s : State) (c : Client) : Bool :=
  ((s.clientAt c).any fun x => decide (x.transfers.length < 4)) &&
    decide (s.mgmt.clients.foldl (fun n x => n + x.transfers.length) 0 < 64)

/-- The abort of a segment frame whose object is not a DOMAIN that the client may use so. -/
def segmentBarred (s : State) (f : Frame) (sel : Selector) (write : Bool) : Option Nat :=
  let i := fhIndex f.header
  let j := fhSub f.header
  if j = 0 && maxSub i != 0 then some (if s.reaches f.transport sel i j write then abortSegmented else abortAccessDenied)
  else match objDef i j with
    | none => some abortNoObject
    | some d =>
      if !s.reaches f.transport sel i j write then some abortAccessDenied
      else if write && (d.access == .const || d.access == .ro) then some abortNotWritable
      else if !write && d.access == .wo then some abortNotReadable
      else if d.type != .domain then some abortSegmented
      else none

/-- The answer to a segment of a read: the bytes asked for, with LAST at the end of the value. -/
def answerSegment (s : State) (f : Frame) (t : Transfer) : State × Reply :=
  let off := fhArg f.header
  let b := (t.bytes.drop off).take (fhLen f.header)
  let last := decide (t.bytes.length ≤ off + b.length)
  let t := { t with touched := s.now, lastSent := if last then some s.now else t.lastSent }
  (s.putTransfer f.client t, { kind := 0xB, flags := bit last, arg := off, data := b })

/-- A SEG_READ frame: OFFSET 0 opens the transfer with a snapshot of the whole value (R389). -/
def segReadFrame (s : State) (f : Frame) (sel : Selector) : State × Reply :=
  let i := fhIndex f.header
  let j := fhSub f.header
  match s.segmentBarred f sel false with
  | some e => (s, .abort e)
  | none =>
    match s.transferOf f.client i j with
    | some t => s.answerSegment f t
    | none =>
      if fhArg f.header != 0 then (s, .abort abortTransfer)
      else if !s.transferRoom f.client then (s, .abort abortNoResource)
      else match s.checkedRead f.client sel i j with
        | (_, .error e) => (s, .abort e)
        | (u, .ok b) => u.answerSegment f { index := i, sub := j, write := false, bytes := b, touched := s.now }

/-- The segment with LAST completes a write: the object takes the whole value. -/
def endSegments (s : State) (f : Frame) (sel : Selector) (bytes : List Byte) : State × Reply :=
  match (s.closeTransfer f.client (fhIndex f.header) (fhSub f.header)).submitRecord f sel bytes with
  | (s, .ok _) => (s, { kind := 0xC, arg := fhArg f.header })
  | (s, .error e) => (s, .abort e)

/-- A segment is appended to a write; CMD_SUBMIT is the one DOMAIN that is written. -/
def appendSegment (s : State) (f : Frame) (sel : Selector) (bytes : List Byte) : State × Reply :=
  let i := fhIndex f.header
  let j := fhSub f.header
  let whole := bytes ++ f.data
  if 1024 < whole.length then (s.closeTransfer f.client i j, .abort abortLength)
  else if fhFlags f.header = 1 then s.endSegments f sel whole
  else (s.putTransfer f.client { index := i, sub := j, write := true, bytes := whole, lastOffset := fhArg f.header, touched := s.now },
    { kind := 0xC, arg := fhArg f.header })

/-- A SEG_WRITE frame (R388). -/
def segWriteFrame (s : State) (f : Frame) (sel : Selector) : State × Reply :=
  let i := fhIndex f.header
  let j := fhSub f.header
  let off := fhArg f.header
  match s.segmentBarred f sel true with
  | some e => (s, .abort e)
  | none =>
    match s.transferOf f.client i j with
    | none =>
      if off != 0 then (s, .abort abortTransfer)
      else if !s.transferRoom f.client then (s, .abort abortNoResource)
      else s.appendSegment f sel []
    | some t =>
      if off = t.lastOffset then (s.putTransfer f.client { t with touched := s.now }, { kind := 0xC, arg := off })
      else if off = t.bytes.length then s.appendSegment f sel t.bytes
      else (s.closeTransfer f.client i j, .abort abortTransfer)

/-- A SEG_CANCEL frame (R390). -/
def segCancelFrame (s : State) (f : Frame) (sel : Selector) : State × Reply :=
  let i := fhIndex f.header
  let j := fhSub f.header
  match s.segmentBarred f sel (i == 0x1F00) with
  | some e => (s, .abort e)
  | none =>
    match s.transferOf f.client i j with
    | none => (s, .abort abortTransfer)
    | some _ => (s.closeTransfer f.client i j, { kind := 0xD })

/-- A transfer closes after SEG_TIMEOUT without a segment, with event 1002 (R390). -/
def segmentLate (s : State) (c : Client) (index sub : Nat) : State :=
  match s.transferOf c index sub with
  | none => s
  | some t => if s.now < t.touched + s.reg 0x1100 3 * 1000000 then s else (s.closeTransfer c index sub).raise 0x1002 .note

/-- A read transfer closes 1 s after its LAST response (R390). -/
def segmentOver (s : State) (c : Client) (index sub : Nat) : State :=
  match (s.transferOf c index sub).bind (·.lastSent) with
  | none => s
  | some t => if s.now < t + 1000000000 then s else s.closeTransfer c index sub

/-- A duplicate record has been held for OBJ_DEDUP_HOLD (R396). -/
def expireFrame (s : State) (c : Client) (seq : Nat) : State :=
  s.modClient c fun x => { x with records := x.records.filter fun r =>
    !(r.seq == seq && r.response.isSome && decide (r.at_ + s.dedupHold ≤ s.now)) }

/-! ### One frame -/

/-- The frames that duplicates are detected for: WRITE, SEG_WRITE and SEG_CANCEL. -/
def handleWrite (s : State) (f : Frame) (sel : Selector) : State × Option Reply :=
  match fhKind f.header with
  | 2 => s.writeFrame f sel
  | 4 => ((s.segWriteFrame f sel).1, some (s.segWriteFrame f sel).2)
  | _ => ((s.segCancelFrame f sel).1, some (s.segCancelFrame f sel).2)

/-- Execute a frame that is no duplicate, record its response and send it. -/
def performWrite (s : State) (f : Frame) (sel : Selector) : State :=
  let h := f.header
  let kept := fhSeq h != 0
  let s := if kept then s.openRecord h f.client else s
  match s.handleWrite f sel with
  | (s, none) => s
  | (s, some r) => (if kept then s.recordReply h f.client r else s).reply f.transport h r

/-- Handle one frame (R385 to R396). -/
def serveFrame (s : State) (f : Frame) : State :=
  let h := f.header
  if !f.formOk then s.reply f.transport h (.abort abortFrame)
  else
    let s := s.touchClient f.client
    let sel := s.selFor f
    if fhKind h = 1 then (s.readFrame f sel).1.reply f.transport h (s.readFrame f sel).2
    else if fhKind h = 3 then (s.segReadFrame f sel).1.reply f.transport h (s.segReadFrame f sel).2
    else if fhSeq h = 0 then s.performWrite f sel
    else match s.frameRecord f.client (fhSeq h) with
      | none => s.performWrite f sel
      | some r =>
        if r.kind != fhKind h || r.index != fhIndex h || r.sub != fhSub h then s.reply f.transport h (.abort abortSeqReused)
        else match r.response with
          | some (rh, d) => s.answerDuplicate f rh d
          | none => s

/-- Whether a frame of a client has to wait: an earlier one is still being handled, its LOOKASIDE_FLUSH waiting for the drain, or 32 frames of other clients are (R393). -/
def clientBusy (s : State) (c : Client) : Bool :=
  let handled := s.tenant.drains.filterMap (·.flush)
  decide (32 ≤ handled.length) || handled.any fun x => clientKey x.1 == clientKey c

/-- A frame arrives: it is handled, waits for an earlier one of its client, or is dropped (R393, R394). -/
def frameArrives (s : State) (f : Frame) : State :=
  if !s.hears f.transport then s
  else if !f.whole then s.dropFrame
  else if !s.clientBusy f.client then s.serveFrame f
  else if 256 ≤ s.mgmt.inbox.length then s.dropFrame
  else { s with mgmt := { s.mgmt with inbox := s.mgmt.inbox ++ [f] } }

/-- Handle waiting frames whose client is free again, oldest first. -/
def serveInbox : Nat → State → State
  | 0, s => s
  | n + 1, s =>
    match s.mgmt.inbox.find? fun f => !s.clientBusy f.client with
    | none => s
    | some f => serveInbox n (({ s with mgmt := { s.mgmt with inbox := s.mgmt.inbox.erase f } } : State).serveFrame f)

/-- LOOKASIDE_FLUSH is answered when its drain ends. -/
def answerFlush (s : State) (d : RegionDrain) : State :=
  match d.flush with
  | none => s
  | some (c, h) => (if fhSeq h = 0 then s else s.recordReply h c { kind := 0xA }).reply c.transport h { kind := 0xA }

/-- REGION_DRAIN_DONE: every drain whose requests have completed ends (R45). -/
def drainsDone (s : State) : State :=
  let done := s.tenant.drains.filter s.drained
  let s := { s with tenant := { s.tenant with drains := s.tenant.drains.filter fun d => !s.drained d } }
  let s := done.foldl (fun s d => (s.endDrain d).answerFlush d) s
  serveInbox s.mgmt.inbox.length s

/-- Whether a window shows an item: its number lies in the range of the window's select object. -/
def windowShows (pick : Option (Nat × Nat)) : Bool :=
  match pick with
  | none => true
  | some (w, n) => (objDef w 1).any fun d => decide (d.lo ≤ n) && decide (n ≤ d.hi)

/-- A write that the table of operations names, of an object of a window's item when `pick` names one; an item that the window does not have is refused as its selection is (R383, R385). -/
def namedWrite (s : State) (c : Client) (index sub : Nat) (data : List Byte) (pick : Option (Nat × Nat)) : State :=
  if windowShows pick then
    s.frameArrives { transport := c.transport, header := writeHeader c index sub data.length, data := data, pick := pick }
  else
    let item := pick.getD (0, 0)
    let data := fieldBytes item.2 (((objDef item.1 1).map (·.type.size)).getD 4)
    s.frameArrives { transport := c.transport, header := writeHeader c item.1 1 data.length, data := data }

end State

/-! ### The rows -/

/-- REGION_DRAIN_DONE (R45). -/
def execRegionDrainDone (s : State) : Host.Outcome State Fault Refusal := run .regionDrainDone s State.drainsDone

/-- FRAME_READ: a READ frame returns one object value (R392). -/
def execFrameRead (transport : Transport) (header : Word128) (s : State) : Host.Outcome State Fault Refusal :=
  run (.frameRead transport header) s fun s => s.frameArrives { transport := transport, header := header }

/-- FRAME_WRITE: a WRITE frame writes one object after duplicate and access checks (R392). -/
def execFrameWrite (transport : Transport) (header : Word128) (data : List Byte) (s : State) : Host.Outcome State Fault Refusal :=
  run (.frameWrite transport header data) s fun s => s.frameArrives { transport := transport, header := header, data := data }

/-- SEG_READ: a SEG_READ frame opens or continues a segmented read (R389). -/
def execSegRead (transport : Transport) (header : Word128) (s : State) : Host.Outcome State Fault Refusal :=
  run (.segRead transport header) s fun s => s.frameArrives { transport := transport, header := header }

/-- SEG_WRITE: a SEG_WRITE frame appends a segment (R388). -/
def execSegWrite (transport : Transport) (header : Word128) (data : List Byte) (s : State) : Host.Outcome State Fault Refusal :=
  run (.segWrite transport header data) s fun s => s.frameArrives { transport := transport, header := header, data := data }

/-- SEG_CANCEL: a SEG_CANCEL frame closes an open transfer (R390). -/
def execSegCancel (transport : Transport) (header : Word128) (s : State) : Host.Outcome State Fault Refusal :=
  run (.segCancel transport header) s fun s => s.frameArrives { transport := transport, header := header }

/-- SEG_TIMEOUT (R390). -/
def execSegTimeout (client : Client) (index sub : Nat) (s : State) : Host.Outcome State Fault Refusal :=
  run (.segTimeout client index sub) s fun s => s.segmentLate client index sub

/-- SEG_READ_CLOSE (R390). -/
def execSegReadClose (client : Client) (index sub : Nat) (s : State) : Host.Outcome State Fault Refusal :=
  run (.segReadClose client index sub) s fun s => s.segmentOver client index sub

/-- OBJ_DEDUP_EXPIRY (R396). -/
def execObjDedupExpiry (client : Client) (seq : Nat) (s : State) : Host.Outcome State Fault Refusal :=
  run (.objDedupExpiry client seq) s fun s => s.expireFrame client seq

/-- OBJECT_WRITE: any object, for the items that the client's selections name (R383). -/
def execObjectWrite (client : Client) (index sub : Nat) (data : List Byte) (s : State) : Host.Outcome State Fault Refusal :=
  run (.objectWrite client index sub data) s fun s => s.namedWrite client index sub data none

/-- QUEUE_ENABLE: QUEUE_CONTROL 1 (R137). -/
def execQueueEnable (client : Client) (queue : Nat) (s : State) : Host.Outcome State Fault Refusal :=
  run (.queueEnable client queue) s fun s => s.namedWrite client 0x2600 4 [1] (some (0x2600, queue))

/-- QUEUE_DISABLE: QUEUE_CONTROL 2 (R137). -/
def execQueueDisable (client : Client) (queue : Nat) (s : State) : Host.Outcome State Fault Refusal :=
  run (.queueDisable client queue) s fun s => s.namedWrite client 0x2600 4 [2] (some (0x2600, queue))

/-- QUEUE_RESET: QUEUE_CONTROL 3 (R137). -/
def execQueueReset (client : Client) (queue : Nat) (s : State) : Host.Outcome State Fault Refusal :=
  run (.queueReset client queue) s fun s => s.namedWrite client 0x2600 4 [3] (some (0x2600, queue))

/-- ALERT_ACK (R299). -/
def execAlertAck (client : Client) (seq : Nat) (s : State) : Host.Outcome State Fault Refusal :=
  run (.alertAck client seq) s fun s => s.namedWrite client 0x7030 3 (fieldBytes seq 4) none

/-- FAULT_SUMMARY_CLEAR (R303). -/
def execFaultSummaryClear (client : Client) (value : Nat) (s : State) : Host.Outcome State Fault Refusal :=
  run (.faultSummaryClear client value) s fun s => s.namedWrite client 0x7000 2 (fieldBytes value 1) none

/-- FATAL_LOG_CLEAR (R303). -/
def execFatalLogClear (client : Client) (value : Nat) (s : State) : Host.Outcome State Fault Refusal :=
  run (.fatalLogClear client value) s fun s => s.namedWrite client 0x7002 4 (fieldBytes value 1) none

/-- INJECT_ARM (R292). -/
def execInjectArm (client : Client) (value : Nat) (s : State) : Host.Outcome State Fault Refusal :=
  run (.injectArm client value) s fun s => s.namedWrite client 0x4230 4 (fieldBytes value 1) none

/-- INJECT_BUCKET (R292). -/
def execInjectBucket (client : Client) (value : Nat) (s : State) : Host.Outcome State Fault Refusal :=
  run (.injectBucket client value) s fun s => s.namedWrite client 0x4230 2 (fieldBytes value 2) none

/-- SCRUB_ENABLE (R286). -/
def execScrubEnable (client : Client) (value : Nat) (s : State) : Host.Outcome State Fault Refusal :=
  run (.scrubEnable client value) s fun s => s.namedWrite client 0x4200 2 (fieldBytes value 1) none

/-- CTX_ENTRY (R34, R307). -/
def execCtxEntry (client : Client) (ctx : Nat) (value : Word128) (s : State) : Host.Outcome State Fault Refusal :=
  run (.ctxEntry client ctx value) s fun s => s.namedWrite client 0x2000 2 (leBytes value.toNat 16) (some (0x2000, ctx))

/-- CTX_PEAK (R328). -/
def execCtxPeak (client : Client) (ctx value : Nat) (s : State) : Host.Outcome State Fault Refusal :=
  run (.ctxPeak client ctx value) s fun s => s.namedWrite client 0x4410 4 (fieldBytes value 2) (some (0x4410, ctx))

/-- WB_HIGH_WATER (R88). -/
def execWbHighWater (client : Client) (slice value : Nat) (s : State) : Host.Outcome State Fault Refusal :=
  run (.wbHighWater client slice value) s fun s => s.namedWrite client 0x2210 5 (fieldBytes value 1) (some (0x2210, slice))

/-- PORT_SUSPECT_CLEAR (R129, R131). -/
def execPortSuspectClear (client : Client) (port value : Nat) (s : State) : Host.Outcome State Fault Refusal :=
  run (.portSuspectClear client port value) s fun s => s.namedWrite client 0x2420 4 (fieldBytes value 1) (some (0x2420, port))

/-- LOOKASIDE_FLUSH (R50). -/
def execLookasideFlush (client : Client) (value : Nat) (s : State) : Host.Outcome State Fault Refusal :=
  run (.lookasideFlush client value) s fun s => s.namedWrite client 0x2020 2 (fieldBytes value 1) none

/-- POWER_CAP (R187). -/
def execPowerCap (client : Client) (value : Nat) (s : State) : Host.Outcome State Fault Refusal :=
  run (.powerCap client value) s fun s => s.namedWrite client 0x3000 4 (fieldBytes value 1) none

/-- ROW_SELECT, or ROW_SOURCE when `source` is set (R199). -/
def execRowSelect (client : Client) (source : Bool) (value : Nat) (s : State) : Host.Outcome State Fault Refusal :=
  run (.rowSelect client source value) s fun s =>
    if source then s.namedWrite client 0x3030 2 (fieldBytes value 1) none
    else s.namedWrite client 0x3030 1 (fieldBytes value 4) none

/-- LEAK_INTERVAL_WRITE: BCLASS_LEAK_INTERVAL of a class, or DRYDOCK_LEAK_INTERVAL (R283). -/
def execLeakIntervalWrite (client : Client) (cls : Option Nat) (value : Nat) (s : State) : Host.Outcome State Fault Refusal :=
  run (.leakIntervalWrite client cls value) s fun s =>
    match cls with
    | some n => s.namedWrite client 0x4211 3 (fieldBytes value 4) (some (0x4211, n))
    | none => s.namedWrite client 0x2230 2 (fieldBytes value 4) none

/-- DUMP_ENABLE: DUMP_CONTROL 1 (R322). -/
def execDumpEnable (client : Client) (ring : Nat) (s : State) : Host.Outcome State Fault Refusal :=
  run (.dumpEnable client ring) s fun s => s.namedWrite client 0x4621 3 [1] (some (0x4621, ring))

/-- DUMP_DISABLE: DUMP_CONTROL 2 (R326). -/
def execDumpDisable (client : Client) (ring : Nat) (s : State) : Host.Outcome State Fault Refusal :=
  run (.dumpDisable client ring) s fun s => s.namedWrite client 0x4621 3 [2] (some (0x4621, ring))

/-- DUMP_HEAD (R325). -/
def execDumpHead (client : Client) (ring : Nat) (value : BitVec 32) (s : State) : Host.Outcome State Fault Refusal :=
  run (.dumpHead client ring value) s fun s => s.namedWrite client 0x4621 5 (leBytes value.toNat 4) (some (0x4621, ring))

/-- PORT_CONTROL (R332, R338). -/
def execPortControlDisable (client : Client) (port value : Nat) (s : State) : Host.Outcome State Fault Refusal :=
  run (.portControlDisable client port value) s fun s => s.namedWrite client 0x5001 7 (fieldBytes value 1) (some (0x5001, port))

/-- PORT_CONFIG (R332). -/
def execPortConfig (client : Client) (port : Nat) (value : BitVec 32) (s : State) : Host.Outcome State Fault Refusal :=
  run (.portConfig client port value) s fun s => s.namedWrite client 0x5001 2 (leBytes value.toNat 4) (some (0x5001, port))

/-- QUAD_ROLE (R331). -/
def execQuadRole (client : Client) (quad value : Nat) (s : State) : Host.Outcome State Fault Refusal :=
  run (.quadRole client quad value) s fun s => s.namedWrite client 0x5000 2 (fieldBytes value 1) (some (0x5000, quad))

/-- TARGET_DESC (R341). -/
def execTargetDesc (client : Client) (target : Nat) (value : Word128) (s : State) : Host.Outcome State Fault Refusal :=
  run (.targetDesc client target value) s fun s => s.namedWrite client 0x5101 2 (leBytes value.toNat 16) (some (0x5101, target))

/-- LINK_ENABLE (R347). -/
def execLinkEnable (client : Client) (link value : Nat) (s : State) : Host.Outcome State Fault Refusal :=
  run (.linkEnable client link value) s fun s => s.namedWrite client 0x5200 8 (fieldBytes value 1) (some (0x5200, link))

end Sys2Proof.Machine
end

