-- ==== Sys2Proof/Machine/Mailbox.lean ====
section
/-! DEFINITION. The CXL mailbox of a host port, MCTP control on I3C, and the field buses' own traffic (R397 to R400). The layouts of mailbox and MCTP payloads are those of the standards that the manual names; what neither gives is a free value. -/

namespace Sys2Proof.Machine

/-- Mailbox return codes (PRESUMED, the CXL specification's): Success, Unsupported, Invalid Payload Length. -/
def mboxSuccess : Nat := 0
def mboxUnsupported : Nat := 3
def mboxLength : Nat := 0x16

/-- The opcodes that the mailbox supports, which the Command Effects Log lists (Table: Mailbox commands). -/
def mboxOpcodes : List Nat :=
  [0x0001, 0x0002, 0x0100, 0x0101, 0x0102, 0x0103, 0x0200, 0x0400, 0x0401, 0x4000, 0xC510]

/-- The identifier of the Command Effects Log (PRESUMED, the CXL specification's). -/
def celId : List Byte :=
  [0x0D, 0xA9, 0xC0, 0xB5, 0xBF, 0x41, 0x4B, 0x78, 0x8F, 0x79, 0x96, 0xB1, 0x62, 0x3B, 0x3F, 0x17]

/-- FW_NAME in a field of 16 bytes. -/
def fwRevision : List Byte := [81, 71, 69, 52, 75, 45, 70, 87, 51, 0, 0, 0, 0, 0, 0, 0]

/-- The volatile capacity in units of 256 MiB: the HDM range of 4 PiB (R16). -/
def mboxCapacity : Nat := 2 ^ 24

/-- A field bus's carrier: bus A, or bus B when set. -/
def busOf (bus : Bool) : Transport := if bus then .fieldBusB else .fieldBusA

/-- The IPv6 address of a field bus: fe80::/64 with the modified EUI-64 of its MAC address (R398). -/
def busAddress (bus : Bool) : Word128 :=
  let m := fld Config.serial 0 40
  BitVec.ofNat 128 (0xFE80 * 2 ^ 112 + (if bus then 0x0C else 0x08) * 2 ^ 56 + m / 2 ^ 24 * 2 ^ 40 + 0xFFFE * 2 ^ 24 + m % 2 ^ 24)

/-- The all-nodes group, ff02::1. -/
def allNodes : Word128 := 0xff020000000000000000000000000001#128

namespace State

/-- `n` bytes that neither the manual nor its standards give. -/
def freeBytes (s : State) (n : Nat) : State × List Byte :=
  (List.range ((n + 7) / 8)).foldl (fun (p : State × List Byte) i =>
    (p.1.drawFree.2, p.2 ++ leBytes p.1.drawFree.1.toNat (min 8 (n - 8 * i)))) (s, [])

/-! ### Mailbox commands (R400) -/

/-- A mailbox command of a port whose mailbox is heard. -/
def mailbox (s : State) (p : Nat) (f : State → State × Nat × List Byte) : State :=
  if s.hears (.mailbox p) then (f s).1.emit (.mailbox p (f s).2.1 (f s).2.2) else s

/-- OBJECT_FRAME: the payload is one request frame, whose response is the output payload. -/
def objectFrame (s : State) (p : Nat) (b : List Byte) : State :=
  let f : Frame := { transport := .mailbox p, header := BitVec.ofNat 128 (ofLe (b.take 16)), data := b.drop 16 }
  if b.length < 16 || !f.whole then s.mailbox p fun s => (s, mboxLength, []) else s.frameArrives f

/-- Identify: Vendor ID and SERIAL; the other identifiers of the configuration space are not the manual's. -/
def mboxIdentify (s : State) : State × Nat × List Byte :=
  let (s, b) := s.freeBytes 6
  (s, mboxSuccess, leBytes Config.vendorId.toNat 2 ++ b ++ leBytes Config.serial.toNat 8 ++ [12, 3])

/-- Get FW Info: one slot, active and read-only, with the firmware's name. -/
def mboxFwInfo (s : State) : State × Nat × List Byte :=
  (s, mboxSuccess, [1, 1] ++ List.replicate 14 0 ++ fwRevision ++ List.replicate 48 0)

/-- Get Supported Logs: the Command Effects Log only. -/
def mboxLogs (s : State) : State × Nat × List Byte :=
  (s, mboxSuccess, leBytes 1 8 ++ celId ++ leBytes (4 * mboxOpcodes.length) 4)

/-- Get Log: each supported opcode with its effects, which the manual does not give. -/
def mboxLog (s : State) : State × Nat × List Byte :=
  let r := mboxOpcodes.foldl (fun (p : State × List Byte) op =>
    ((p.1.freeBytes 2).1, p.2 ++ leBytes op 2 ++ (p.1.freeBytes 2).2)) (s, [])
  (r.1, mboxSuccess, r.2)

/-- Identify Memory Device: volatile capacity as R16, persistent capacity 0. -/
def mboxMemory (s : State) : State × Nat × List Byte :=
  let (s, b) := s.freeBytes 27
  (s, mboxSuccess, fwRevision ++ leBytes mboxCapacity 8 ++ leBytes mboxCapacity 8 ++ leBytes 0 8 ++ b)

/-! ### MCTP control (R399) -/

/-- An MCTP control command on I3C and its response. -/
def mctp (s : State) (f : State → State × List Byte) : State :=
  if s.hears .i3c then (f s).1.emit (.mctp (f s).2) else s

/-- Set Endpoint ID; 0 and 255 name no endpoint (PRESUMED). -/
def setEid (s : State) (e : BitVec 8) : State × List Byte :=
  if e = 0 || e = 0xFF then (s, [2])
  else ({ s with mgmt := { s.mgmt with eid := e } }, [0, 0, e, 0])

/-! ### Field buses (R398) -/

/-- A packet to a field bus's own address, and its answer. -/
def busPacket (s : State) (bus : Bool) (target dest : Word128) (b : List Byte) : State :=
  if s.hears (busOf bus) && target == busAddress bus then s.emit (.ipv6 bus dest b) else s

/-- The neighbour advertisement for the bus's address: type 136, flags, target and link-layer address, without the checksum. -/
def neighbourAdvert (bus : Bool) (solicited : Bool) : List Byte :=
  [136, 0, if solicited then 0x60 else 0x20, 0, 0, 0] ++ beBytes (busAddress bus).toNat 16 ++ [2, 1] ++ macAddress (if bus then 0x0E else 0x0A)

/-- A bus comes UP while it is enabled. -/
def busUp (s : State) (b : Nat) : State :=
  if (s.reg 0x1101 1).testBit b then { s with mgmt := { s.mgmt with fbState := s.mgmt.fbState ||| BitVec.ofNat 2 (2 ^ b) } } else s

end State

/-! ### The rows -/

/-- OBJECT_FRAME (R400). -/
def execObjectFrame (port : Nat) (payload : List Byte) (s : State) : Host.Outcome State Fault Refusal :=
  run (.objectFrame port payload) s fun s => s.objectFrame port payload

/-- IDENTIFY_DEVICE (R400). -/
def execIdentifyDevice (port : Nat) (s : State) : Host.Outcome State Fault Refusal :=
  run (.identifyDevice port) s fun s => s.mailbox port State.mboxIdentify

/-- BACKGROUND_OPERATION_STATUS: no command of this device runs in the background (R400). -/
def execBackgroundOperationStatus (port : Nat) (s : State) : Host.Outcome State Fault Refusal :=
  run (.backgroundOperationStatus port) s fun s => s.mailbox port fun s => (s, mboxSuccess, List.replicate 8 0)

/-- GET_EVENT_RECORDS: no records (R334, R400). -/
def execGetEventRecords (port : Nat) (s : State) : Host.Outcome State Fault Refusal :=
  run (.getEventRecords port) s fun s => s.mailbox port fun s => (s, mboxSuccess, List.replicate 32 0)

/-- CLEAR_EVENT_RECORDS: no effect (R400). -/
def execClearEventRecords (port : Nat) (s : State) : Host.Outcome State Fault Refusal :=
  run (.clearEventRecords port) s fun s => s.mailbox port fun s => (s, mboxSuccess, [])

/-- GET_EVENT_INTERRUPT_POLICY (R400). -/
def execGetEventInterruptPolicy (port : Nat) (s : State) : Host.Outcome State Fault Refusal :=
  run (.getEventInterruptPolicy port) s fun s => s.mailbox port fun s => (s, mboxSuccess, leBytes (s.port port).interruptPolicy.toNat 4)

/-- SET_EVENT_INTERRUPT_POLICY: the policy is kept, and no interrupt is generated through it (R400). -/
def execSetEventInterruptPolicy (port : Nat) (policy : BitVec 32) (s : State) : Host.Outcome State Fault Refusal :=
  run (.setEventInterruptPolicy port policy) s fun s => s.mailbox port fun s =>
    (s.modPort port fun x => { x with interruptPolicy := policy }, mboxSuccess, [])

/-- GET_FW_INFO (R400). -/
def execGetFwInfo (port : Nat) (s : State) : Host.Outcome State Fault Refusal :=
  run (.getFwInfo port) s fun s => s.mailbox port State.mboxFwInfo

/-- TRANSFER_FW: Unsupported (R376, R400). -/
def execTransferFw (port : Nat) (s : State) : Host.Outcome State Fault Refusal :=
  run (.transferFw port) s fun s => s.mailbox port fun s => (s, mboxUnsupported, [])

/-- ACTIVATE_FW: Unsupported (R376, R400). -/
def execActivateFw (port : Nat) (s : State) : Host.Outcome State Fault Refusal :=
  run (.activateFw port) s fun s => s.mailbox port fun s => (s, mboxUnsupported, [])

/-- GET_SUPPORTED_LOGS (R400). -/
def execGetSupportedLogs (port : Nat) (s : State) : Host.Outcome State Fault Refusal :=
  run (.getSupportedLogs port) s fun s => s.mailbox port State.mboxLogs

/-- GET_LOG: the Command Effects Log (R400). -/
def execGetLog (port : Nat) (s : State) : Host.Outcome State Fault Refusal :=
  run (.getLog port) s fun s => s.mailbox port State.mboxLog

/-- IDENTIFY_MEMORY_DEVICE (R16, R400). -/
def execIdentifyMemoryDevice (port : Nat) (s : State) : Host.Outcome State Fault Refusal :=
  run (.identifyMemoryDevice port) s fun s => s.mailbox port State.mboxMemory

/-- SET_ENDPOINT_ID (R399). -/
def execSetEndpointId (eid : BitVec 8) (s : State) : Host.Outcome State Fault Refusal :=
  run (.setEndpointId eid) s fun s => s.mctp fun s => s.setEid eid

/-- GET_ENDPOINT_ID (R399). -/
def execGetEndpointId (s : State) : Host.Outcome State Fault Refusal :=
  run .getEndpointId s fun s => s.mctp fun s => (s, [0, s.mgmt.eid, 0, 0])

/-- GET_MCTP_VERSION_SUPPORT: one version, which the manual does not give (R399). -/
def execGetMctpVersionSupport (s : State) : Host.Outcome State Fault Refusal :=
  run .getMctpVersionSupport s fun s => s.mctp fun s => ((s.freeBytes 4).1, [0, 1] ++ (s.freeBytes 4).2)

/-- GET_MESSAGE_TYPE_SUPPORT: type 0x7E, vendor-defined PCI (R397, R399). -/
def execGetMessageTypeSupport (s : State) : Host.Outcome State Fault Refusal :=
  run .getMessageTypeSupport s fun s => s.mctp fun s => (s, [0, 1, 0x7E])

/-- GET_VENDOR_DEFINED_MESSAGE_SUPPORT: Filward's PCI Vendor ID (R397, R399). -/
def execGetVendorDefinedMessageSupport (s : State) : Host.Outcome State Fault Refusal :=
  run .getVendorDefinedMessageSupport s fun s => s.mctp fun s =>
    ((s.freeBytes 2).1, [0, 0xFF, 0] ++ beBytes Config.vendorId.toNat 2 ++ (s.freeBytes 2).2)

/-- DYNAMIC_ADDRESS_ASSIGNMENT (R399). -/
def execDynamicAddressAssignment (address : BitVec 7) (s : State) : Host.Outcome State Fault Refusal :=
  run (.dynamicAddressAssignment address) s fun s => { s with mgmt := { s.mgmt with i3cAddress := address } }

/-- NEIGHBOUR_DISCOVERY: a solicitation for the bus's address is answered; a probe from the unspecified address is answered to all nodes (R398). -/
def execNeighbourDiscovery (bus : Bool) (target source : Word128) (s : State) : Host.Outcome State Fault Refusal :=
  run (.neighbourDiscovery bus target source) s fun s =>
    s.busPacket bus target (if source = 0 then allNodes else source) (State.neighbourAdvert bus (source != 0))

/-- ICMPV6_ECHO (R398). -/
def execIcmpv6Echo (bus : Bool) (target source : Word128) (payload : List Byte) (s : State) : Host.Outcome State Fault Refusal :=
  run (.icmpv6Echo bus target source payload) s fun s => s.busPacket bus target source ([129, 0] ++ payload)

/-- FIELD_BUS_DOWN: event 1005, once per transition (R398). -/
def execFieldBusDown (bus : Bool) (s : State) : Host.Outcome State Fault Refusal :=
  run (.fieldBusDown bus) s fun s => s.busDown (bit bus)

/-- FIELD_BUS_UP (R398). -/
def execFieldBusUp (bus : Bool) (s : State) : Host.Outcome State Fault Refusal :=
  run (.fieldBusUp bus) s fun s => s.busUp (bit bus)

end Sys2Proof.Machine
end

