-- ==== Sys2Proof/Machine/Submissions.lean ====
section
/-! DEFINITION. Commands as their clients submit them: the write of CMD_SUBMIT with its response, and the rows that name a command (R402, R403, R406). -/

namespace Sys2Proof.Machine

/-- A client submits a command by a write of its record to CMD_SUBMIT, which is answered as every frame is (R393, R402, R403); the command is accepted at once when its area is free. -/
def State.command (s : State) (client : Client) (opcode ctag : Nat) (params : List Byte) : State :=
  let ticket := s.mgmt.nextTicket
  let s := s.namedWrite client 0x1F00 1 (cmdRecord opcode ctag false params) none
  match s.mgmt.cmds.find? fun c => c.ticket == ticket && !c.running with
  | none => s
  | some c => s.acceptCommand c

/-! ### The rows -/

/-- CMD_SUBMIT: a write of the command record that queues a command (R402, R403). -/
def execCmdSubmit (client : Client) (record : List Byte) (s : State) : Host.Outcome State Fault Refusal :=
  run (.cmdSubmit client record) s fun s => s.namedWrite client 0x1F00 1 record none

/-- NOP: the command returns DONE (R406). -/
def execNop (client : Client) (ctag : Nat) (s : State) : Host.Outcome State Fault Refusal :=
  run (.nop client ctag) s fun s => s.command client 0x1001 ctag []

/-- CANAL_SET (R371). -/
def execCanalSet (client : Client) (ctag : Nat) (index sub : Nat) (value : BitVec 64) (s : State) : Host.Outcome State Fault Refusal :=
  run (.canalSet client ctag index sub value) s fun s => s.command client 0x1201 ctag (fieldBytes index 2 ++ fieldBytes sub 2 ++ leBytes value.toNat 8)

/-- CANAL_LEAVE (R368, R372). -/
def execCanalLeave (client : Client) (ctag : Nat) (s : State) : Host.Outcome State Fault Refusal :=
  run (.canalLeave client ctag) s fun s => s.command client 0x1202 ctag []

/-- CANAL_JOIN (R372). -/
def execCanalJoin (client : Client) (ctag : Nat) (s : State) : Host.Outcome State Fault Refusal :=
  run (.canalJoin client ctag) s fun s => s.command client 0x1203 ctag []

/-- LINK_RETRAIN (R372). -/
def execLinkRetrain (client : Client) (ctag : Nat) (link : Nat) (s : State) : Host.Outcome State Fault Refusal :=
  run (.linkRetrain client ctag link) s fun s => s.command client 0x5201 ctag (fieldBytes link 1)

/-- REGION_COMMIT (R38, R39). -/
def execRegionCommit (client : Client) (ctag : Nat) (region : Nat) (s : State) : Host.Outcome State Fault Refusal :=
  run (.regionCommit client ctag region) s fun s => s.command client 0x2001 ctag (fieldBytes region 2)

/-- REGION_DELETE (R40). -/
def execRegionDelete (client : Client) (ctag : Nat) (region : Nat) (s : State) : Host.Outcome State Fault Refusal :=
  run (.regionDelete client ctag region) s fun s => s.command client 0x2002 ctag (fieldBytes region 2)

/-- REGION_FREEZE (R40). -/
def execRegionFreeze (client : Client) (ctag : Nat) (region : Nat) (s : State) : Host.Outcome State Fault Refusal :=
  run (.regionFreeze client ctag region) s fun s => s.command client 0x2003 ctag (fieldBytes region 2)

/-- REGION_THAW (R40, R424). -/
def execRegionThaw (client : Client) (ctag : Nat) (region : Nat) (s : State) : Host.Outcome State Fault Refusal :=
  run (.regionThaw client ctag region) s fun s => s.command client 0x2004 ctag (fieldBytes region 2)

/-- CACHE_ENABLE (R85). -/
def execCacheEnable (client : Client) (ctag : Nat) (s : State) : Host.Outcome State Fault Refusal :=
  run (.cacheEnable client ctag) s fun s => s.command client 0x2201 ctag []

/-- CACHE_DISABLE (R84, R85). -/
def execCacheDisable (client : Client) (ctag : Nat) (s : State) : Host.Outcome State Fault Refusal :=
  run (.cacheDisable client ctag) s fun s => s.command client 0x2202 ctag []

/-- CACHE_INVALIDATE (R85). -/
def execCacheInvalidate (client : Client) (ctag : Nat) (s : State) : Host.Outcome State Fault Refusal :=
  run (.cacheInvalidate client ctag) s fun s => s.command client 0x2203 ctag []

/-- CACHE_MOOR (R77). -/
def execCacheMoor (client : Client) (ctag : Nat) (ways : Nat) (s : State) : Host.Outcome State Fault Refusal :=
  run (.cacheMoor client ctag ways) s fun s => s.command client 0x2204 ctag (fieldBytes ways 1)

/-- CACHE_UNDRYDOCK (R80). -/
def execCacheUndrydock (client : Client) (ctag : Nat) (slice way : Nat) (s : State) : Host.Outcome State Fault Refusal :=
  run (.cacheUndrydock client ctag slice way) s fun s => s.command client 0x2205 ctag (fieldBytes slice 1 ++ fieldBytes way 1)

/-- CHART_COMMIT (R183, R215). -/
def execChartCommit (client : Client) (ctag : Nat) (chart : Nat) (s : State) : Host.Outcome State Fault Refusal :=
  run (.chartCommit client ctag chart) s fun s => s.command client 0x3001 ctag (fieldBytes chart 1)

/-- CHART_DROP (R184, R215). -/
def execChartDrop (client : Client) (ctag : Nat) (chart : Nat) (s : State) : Host.Outcome State Fault Refusal :=
  run (.chartDrop client ctag chart) s fun s => s.command client 0x3002 ctag (fieldBytes chart 1)

/-- CHART_MOVE (R211). -/
def execChartMove (client : Client) (ctag : Nat) (chart : Nat) (s : State) : Host.Outcome State Fault Refusal :=
  run (.chartMove client ctag chart) s fun s => s.command client 0x3003 ctag (fieldBytes chart 1)

/-- CHART_ADMIT (R214, R216). -/
def execChartAdmit (client : Client) (ctag : Nat) (chart device : Nat) (s : State) : Host.Outcome State Fault Refusal :=
  run (.chartAdmit client ctag chart device) s fun s => s.command client 0x3004 ctag (fieldBytes chart 2 ++ fieldBytes device 2)

/-- CHART_RELEASE (R214, R216). -/
def execChartRelease (client : Client) (ctag : Nat) (chart device : Nat) (s : State) : Host.Outcome State Fault Refusal :=
  run (.chartRelease client ctag chart device) s fun s => s.command client 0x3005 ctag (fieldBytes chart 2 ++ fieldBytes device 2)

/-- TABLE_EXEC (R200 to R210). -/
def execTableExec (client : Client) (ctag : Nat) (chart : Nat) (block : List Byte) (s : State) : Host.Outcome State Fault Refusal :=
  run (.tableExec client ctag chart block) s fun s => s.command client 0x3101 ctag (fieldBytes chart 16 ++ block)

/-- PROT_INIT (R229, R266). -/
def execProtInit (client : Client) (ctag : Nat) (root : Nat) (s : State) : Host.Outcome State Fault Refusal :=
  run (.protInit client ctag root) s fun s => s.command client 0x4001 ctag (fieldBytes root 2)

/-- PROT_RELEASE (R267). -/
def execProtRelease (client : Client) (ctag : Nat) (root : Nat) (s : State) : Host.Outcome State Fault Refusal :=
  run (.protRelease client ctag root) s fun s => s.command client 0x4002 ctag (fieldBytes root 2)

/-- PROT_REKNIT (R257). -/
def execProtReknit (client : Client) (ctag : Nat) (root slot : Nat) (s : State) : Host.Outcome State Fault Refusal :=
  run (.protReknit client ctag root slot) s fun s => s.command client 0x4003 ctag (fieldBytes root 2 ++ fieldBytes slot 2)

/-- PROT_ENABLE (R268). -/
def execProtEnable (client : Client) (ctag : Nat) (s : State) : Host.Outcome State Fault Refusal :=
  run (.protEnable client ctag) s fun s => s.command client 0x4004 ctag []

/-- PROT_DISABLE (R268). -/
def execProtDisable (client : Client) (ctag : Nat) (s : State) : Host.Outcome State Fault Refusal :=
  run (.protDisable client ctag) s fun s => s.command client 0x4005 ctag []

/-- KEK_ESTABLISH (R253). -/
def execKekEstablish (client : Client) (ctag : Nat) (publicKey : List Byte) (s : State) : Host.Outcome State Fault Refusal :=
  run (.kekEstablish client ctag publicKey) s fun s => s.command client 0x4006 ctag publicKey

/-- KEK_CLEAR (R270). -/
def execKekClear (client : Client) (ctag : Nat) (s : State) : Host.Outcome State Fault Refusal :=
  run (.kekClear client ctag) s fun s => s.command client 0x4007 ctag []

/-- KEY_LOAD (R253, R254). -/
def execKeyLoad (client : Client) (ctag : Nat) (slot : Nat) (wrapped : List Byte) (s : State) : Host.Outcome State Fault Refusal :=
  run (.keyLoad client ctag slot wrapped) s fun s => s.command client 0x4008 ctag (fieldBytes slot 2 ++ wrapped)

/-- KEY_ERASE (R254). -/
def execKeyErase (client : Client) (ctag : Nat) (slot : Nat) (s : State) : Host.Outcome State Fault Refusal :=
  run (.keyErase client ctag slot) s fun s => s.command client 0x4009 ctag (fieldBytes slot 2)

/-- WARM_RESET (R422). -/
def execWarmReset (client : Client) (ctag : Nat) (s : State) : Host.Outcome State Fault Refusal :=
  run (.warmReset client ctag) s fun s => s.command client 0x6001 ctag []

/-- STARTUP_DONE (R419, R420). -/
def execStartupDone (client : Client) (ctag : Nat) (s : State) : Host.Outcome State Fault Refusal :=
  run (.startupDone client ctag) s fun s => s.command client 0x6002 ctag []

end Sys2Proof.Machine
end

