-- ==== Sys2Proof/Machine/Dispatch.lean ====
section
/-! DEFINITION. The meaning of every command: one arm for each constructor of `Instr`. -/

namespace Sys2Proof.Machine

/-- A command's effect on everything but the command queue. -/
def exec (i : Instr) (s : State) : Host.Outcome State Fault Refusal :=
  match i with
  | .rdS port hpa tag => Sys2Proof.Machine.execRdS port hpa tag s
  | .rdAny port hpa tag => Sys2Proof.Machine.execRdAny port hpa tag s
  | .rdOwn port hpa tag => Sys2Proof.Machine.execRdOwn port hpa tag s
  | .upg port hpa tag => Sys2Proof.Machine.execUpg port hpa tag s
  | .rdNc port hpa tag => Sys2Proof.Machine.execRdNc port hpa tag s
  | .invNc port hpa tag => Sys2Proof.Machine.execInvNc port hpa tag s
  | .wrNc port hpa tag w => Sys2Proof.Machine.execWrNc port hpa tag w s
  | .wbI port hpa tag w => Sys2Proof.Machine.execWbI port hpa tag w s
  | .wbS port hpa tag w => Sys2Proof.Machine.execWbS port hpa tag w s
  | .wbE port hpa tag w => Sys2Proof.Machine.execWbE port hpa tag w s
  | .clnEvict port hpa tag => Sys2Proof.Machine.execClnEvict port hpa tag s
  | .spec port hpa tag => Sys2Proof.Machine.execSpec port hpa tag s
  | .cxlIoMemoryRequest port hpa tag w => Sys2Proof.Machine.execCxlIoMemoryRequest port hpa tag w s
  | .lookasideMissResult unit => Sys2Proof.Machine.execLookasideMissResult unit s
  | .admissionRequest unit => Sys2Proof.Machine.execAdmissionRequest unit s
  | .guaranteeMiss txn => Sys2Proof.Machine.execGuaranteeMiss txn s
  | .fill slice reg => Sys2Proof.Machine.execFill slice reg s
  | .missWaitServe slice => Sys2Proof.Machine.execMissWaitServe slice s
  | .writeBufferWaitReadIssue slice reg => Sys2Proof.Machine.execWriteBufferWaitReadIssue slice reg s
  | .crossBlockPrefetch dpa region svc => Sys2Proof.Machine.execCrossBlockPrefetch dpa region svc s
  | .writeBufferAdmit slice => Sys2Proof.Machine.execWriteBufferAdmit slice s
  | .mergeWindowExpiry slice dpa => Sys2Proof.Machine.execMergeWindowExpiry slice dpa s
  | .pendingPoolWriteIssue slice dpa => Sys2Proof.Machine.execPendingPoolWriteIssue slice dpa s
  | .poolWriteEncrypt id => Sys2Proof.Machine.execPoolWriteEncrypt id s
  | .pageReencryptReadsDone id answers => Sys2Proof.Machine.execPageReencryptReadsDone id answers s
  | .poolWriteCompletion id ok => Sys2Proof.Machine.execPoolWriteCompletion id ok s
  | .poolReadResponse id answer => Sys2Proof.Machine.execPoolReadResponse id answer s
  | .poolTimeoutExpiry id => Sys2Proof.Machine.execPoolTimeoutExpiry id s
  | .cacheEnable client ctag => Sys2Proof.Machine.execCacheEnable client ctag s
  | .cacheDisable client ctag => Sys2Proof.Machine.execCacheDisable client ctag s
  | .cacheInvalidate client ctag => Sys2Proof.Machine.execCacheInvalidate client ctag s
  | .cacheMoor client ctag ways => Sys2Proof.Machine.execCacheMoor client ctag ways s
  | .cacheUndrydock client ctag slice way => Sys2Proof.Machine.execCacheUndrydock client ctag slice way s
  | .requesterAck dpa => Sys2Proof.Machine.execRequesterAck dpa s
  | .blockedRequestStart slice => Sys2Proof.Machine.execBlockedRequestStart slice s
  | .dwellElapsed dpa => Sys2Proof.Machine.execDwellElapsed dpa s
  | .reverseWalkDone port dpa marker => Sys2Proof.Machine.execReverseWalkDone port dpa marker s
  | .birspi source blk => Sys2Proof.Machine.execBirspi source blk s
  | .birsps source blk => Sys2Proof.Machine.execBirsps source blk s
  | .birspe source blk => Sys2Proof.Machine.execBirspe source blk s
  | .biconflict port hpa => Sys2Proof.Machine.execBiconflict port hpa s
  | .snoopTimeout dpa => Sys2Proof.Machine.execSnoopTimeout dpa s
  | .poisonWriteDone dpa => Sys2Proof.Machine.execPoisonWriteDone dpa s
  | .poisonRetry dpa => Sys2Proof.Machine.execPoisonRetry dpa s
  | .setRecallSweepStep slice set => Sys2Proof.Machine.execSetRecallSweepStep slice set s
  | .forwardedSnoop home kind whom dpa => Sys2Proof.Machine.execForwardedSnoop home kind whom dpa s
  | .forwardedResponse peer tag data poison cmp => Sys2Proof.Machine.execForwardedResponse peer tag data poison cmp s
  | .queueEnable client queue => Sys2Proof.Machine.execQueueEnable client queue s
  | .queueDisable client queue => Sys2Proof.Machine.execQueueDisable client queue s
  | .queueReset client queue => Sys2Proof.Machine.execQueueReset client queue s
  | .queueDrainDone queue => Sys2Proof.Machine.execQueueDrainDone queue s
  | .sqTailDoorbell port queue value => Sys2Proof.Machine.execSqTailDoorbell port queue value s
  | .cqHeadDoorbell port queue value => Sys2Proof.Machine.execCqHeadDoorbell port queue value s
  | .chamberWindowAccess port offset len write => Sys2Proof.Machine.execChamberWindowAccess port offset len write s
  | .entryFetch queue hostRead => Sys2Proof.Machine.execEntryFetch queue hostRead s
  | .read queue pos => Sys2Proof.Machine.execRead queue pos s
  | .write queue pos => Sys2Proof.Machine.execWrite queue pos s
  | .cas128 queue pos => Sys2Proof.Machine.execCas128 queue pos s
  | .swap128 queue pos => Sys2Proof.Machine.execSwap128 queue pos s
  | .fadd64 queue pos => Sys2Proof.Machine.execFadd64 queue pos s
  | .zero queue pos => Sys2Proof.Machine.execZero queue pos s
  | .copy queue pos => Sys2Proof.Machine.execCopy queue pos s
  | .search queue pos => Sys2Proof.Machine.execSearch queue pos s
  | .searchBurst queue pos hostKeys => Sys2Proof.Machine.execSearchBurst queue pos hostKeys s
  | .table queue pos hostBlock => Sys2Proof.Machine.execTable queue pos hostBlock s
  | .fenceL queue pos => Sys2Proof.Machine.execFenceL queue pos s
  | .fenceS queue pos => Sys2Proof.Machine.execFenceS queue pos s
  | .fenceF queue pos => Sys2Proof.Machine.execFenceF queue pos s
  | .storeBufferIssue queue => Sys2Proof.Machine.execStoreBufferIssue queue s
  | .queueResponse qp => Sys2Proof.Machine.execQueueResponse qp s
  | .searchResult id => Sys2Proof.Machine.execSearchResult id s
  | .chartCommit client ctag chart => Sys2Proof.Machine.execChartCommit client ctag chart s
  | .chartDrop client ctag chart => Sys2Proof.Machine.execChartDrop client ctag chart s
  | .chartMove client ctag chart => Sys2Proof.Machine.execChartMove client ctag chart s
  | .chartAdmit client ctag chart device => Sys2Proof.Machine.execChartAdmit client ctag chart device s
  | .chartRelease client ctag chart device => Sys2Proof.Machine.execChartRelease client ctag chart device s
  | .tableExec client ctag chart block => Sys2Proof.Machine.execTableExec client ctag chart block s
  | .insert chart => Sys2Proof.Machine.execInsert chart s
  | .delete chart => Sys2Proof.Machine.execDelete chart s
  | .modify chart => Sys2Proof.Machine.execModify chart s
  | .readback chart => Sys2Proof.Machine.execReadback chart s
  | .tableSubOperation owner chart op entry value mask priority datum => Sys2Proof.Machine.execTableSubOperation owner chart op entry value mask priority datum s
  | .holderConfirm holder tag ok index rows result => Sys2Proof.Machine.execHolderConfirm holder tag ok index rows result s
  | .holderConfirmTimeout entry => Sys2Proof.Machine.execHolderConfirmTimeout entry s
  | .dedupRecordExpiry client cseq => Sys2Proof.Machine.execDedupRecordExpiry client cseq s
  | .prepare coordinator chart generation word1 word0 dmap members drop instant => Sys2Proof.Machine.execPrepare coordinator chart generation word1 word0 dmap members drop instant s
  | .ready member chart reply => Sys2Proof.Machine.execReady member chart reply s
  | .spanReadyDeadline chart => Sys2Proof.Machine.execSpanReadyDeadline chart s
  | .abort chart generation => Sys2Proof.Machine.execAbort chart generation s
  | .spanApply chart => Sys2Proof.Machine.execSpanApply chart s
  | .applied member chart => Sys2Proof.Machine.execApplied member chart s
  | .spanConfirmTimeout chart => Sys2Proof.Machine.execSpanConfirmTimeout chart s
  | .cascadeLaunch id => Sys2Proof.Machine.execCascadeLaunch id s
  | .partRequest link chart gen stamp launch key => Sys2Proof.Machine.execPartRequest link chart gen stamp launch key s
  | .partNoSlot id => Sys2Proof.Machine.execPartNoSlot id s
  | .partAnswer link member launch answer => Sys2Proof.Machine.execPartAnswer link member launch answer s
  | .relayDeadline id => Sys2Proof.Machine.execRelayDeadline id s
  | .cascadeRelease id => Sys2Proof.Machine.execCascadeRelease id s
  | .nodeReadResponse id answers => Sys2Proof.Machine.execNodeReadResponse id answers s
  | .nodeWritebackDone root level index ok => Sys2Proof.Machine.execNodeWritebackDone root level index ok s
  | .nodeRetry root level index => Sys2Proof.Machine.execNodeRetry root level index s
  | .rkValue dpa => Sys2Proof.Machine.execRkValue dpa s
  | .rkWriteStart dpa => Sys2Proof.Machine.execRkWriteStart dpa s
  | .protInit client ctag root => Sys2Proof.Machine.execProtInit client ctag root s
  | .protRelease client ctag root => Sys2Proof.Machine.execProtRelease client ctag root s
  | .protReknit client ctag root slot => Sys2Proof.Machine.execProtReknit client ctag root slot s
  | .protEnable client ctag => Sys2Proof.Machine.execProtEnable client ctag s
  | .protDisable client ctag => Sys2Proof.Machine.execProtDisable client ctag s
  | .kekEstablish client ctag publicKey => Sys2Proof.Machine.execKekEstablish client ctag publicKey s
  | .kekClear client ctag => Sys2Proof.Machine.execKekClear client ctag s
  | .keyLoad client ctag slot wrapped => Sys2Proof.Machine.execKeyLoad client ctag slot wrapped s
  | .keyErase client ctag slot => Sys2Proof.Machine.execKeyErase client ctag slot s
  | .scrubRead bucket => Sys2Proof.Machine.execScrubRead bucket s
  | .bucketLeak cls => Sys2Proof.Machine.execBucketLeak cls s
  | .hostNotify port => Sys2Proof.Machine.execHostNotify port s
  | .transportNotify transport => Sys2Proof.Machine.execTransportNotify transport s
  | .alertAck client seq => Sys2Proof.Machine.execAlertAck client seq s
  | .faultSummaryClear client value => Sys2Proof.Machine.execFaultSummaryClear client value s
  | .fatalLogClear client value => Sys2Proof.Machine.execFatalLogClear client value s
  | .injectArm client value => Sys2Proof.Machine.execInjectArm client value s
  | .injectBucket client value => Sys2Proof.Machine.execInjectBucket client value s
  | .scrubEnable client value => Sys2Proof.Machine.execScrubEnable client value s
  | .ctxEntry client ctx value => Sys2Proof.Machine.execCtxEntry client ctx value s
  | .ctxPeak client ctx value => Sys2Proof.Machine.execCtxPeak client ctx value s
  | .wbHighWater client slice value => Sys2Proof.Machine.execWbHighWater client slice value s
  | .portSuspectClear client port value => Sys2Proof.Machine.execPortSuspectClear client port value s
  | .lookasideFlush client value => Sys2Proof.Machine.execLookasideFlush client value s
  | .powerCap client value => Sys2Proof.Machine.execPowerCap client value s
  | .rowSelect client source value => Sys2Proof.Machine.execRowSelect client source value s
  | .leakIntervalWrite client cls value => Sys2Proof.Machine.execLeakIntervalWrite client cls value s
  | .regionCommit client ctag region => Sys2Proof.Machine.execRegionCommit client ctag region s
  | .regionDelete client ctag region => Sys2Proof.Machine.execRegionDelete client ctag region s
  | .regionFreeze client ctag region => Sys2Proof.Machine.execRegionFreeze client ctag region s
  | .regionThaw client ctag region => Sys2Proof.Machine.execRegionThaw client ctag region s
  | .dumpRecordDeadline ring => Sys2Proof.Machine.execDumpRecordDeadline ring s
  | .dumpEnable client ring => Sys2Proof.Machine.execDumpEnable client ring s
  | .dumpDisable client ring => Sys2Proof.Machine.execDumpDisable client ring s
  | .dumpHeadDoorbell port ring value => Sys2Proof.Machine.execDumpHeadDoorbell port ring value s
  | .dumpHead client ring value => Sys2Proof.Machine.execDumpHead client ring value s
  | .portControlDisable client port value => Sys2Proof.Machine.execPortControlDisable client port value s
  | .portConfig client port value => Sys2Proof.Machine.execPortConfig client port value s
  | .quadRole client quad value => Sys2Proof.Machine.execQuadRole client quad value s
  | .targetDesc client target value => Sys2Proof.Machine.execTargetDesc client target value s
  | .linkEnable client link value => Sys2Proof.Machine.execLinkEnable client link value s
  | .objectWrite client index sub data => Sys2Proof.Machine.execObjectWrite client index sub data s
  | .perPortCxlReset port => Sys2Proof.Machine.execPerPortCxlReset port s
  | .portResetDrainDone port => Sys2Proof.Machine.execPortResetDrainDone port s
  | .hostLinkDown port => Sys2Proof.Machine.execHostLinkDown port s
  | .portLinkUp port speed lanes => Sys2Proof.Machine.execPortLinkUp port speed lanes s
  | .ideFailure port => Sys2Proof.Machine.execIdeFailure port s
  | .poolEnumerationDone port usable => Sys2Proof.Machine.execPoolEnumerationDone port usable s
  | .linkRetryTimer link => Sys2Proof.Machine.execLinkRetryTimer link s
  | .identify link peer => Sys2Proof.Machine.execIdentify link peer s
  | .measureDone link delayPs legPs => Sys2Proof.Machine.execMeasureDone link delayPs legPs s
  | .flitReceive link flit fecCorrected => Sys2Proof.Machine.execFlitReceive link flit fecCorrected s
  | .ackTimeout link => Sys2Proof.Machine.execAckTimeout link s
  | .linkSilence link => Sys2Proof.Machine.execLinkSilence link s
  | .linkDown link => Sys2Proof.Machine.execLinkDown link s
  | .tailRecordExpiry link => Sys2Proof.Machine.execTailRecordExpiry link s
  | .resendWindowExpiry link => Sys2Proof.Machine.execResendWindowExpiry link s
  | .linkStateVector device vector => Sys2Proof.Machine.execLinkStateVector device vector s
  | .timeFlit link t1 t2 t3 t4 errorPs => Sys2Proof.Machine.execTimeFlit link t1 t2 t3 t4 errorPs s
  | .membershipRecord record => Sys2Proof.Machine.execMembershipRecord record s
  | .memberSilence device => Sys2Proof.Machine.execMemberSilence device s
  | .epochAnnounce epoch leader members instant => Sys2Proof.Machine.execEpochAnnounce epoch leader members instant s
  | .canalSet client ctag index sub value => Sys2Proof.Machine.execCanalSet client ctag index sub value s
  | .canalSetConfirmTimeout device => Sys2Proof.Machine.execCanalSetConfirmTimeout device s
  | .canalLeave client ctag => Sys2Proof.Machine.execCanalLeave client ctag s
  | .canalJoin client ctag => Sys2Proof.Machine.execCanalJoin client ctag s
  | .linkRetrain client ctag link => Sys2Proof.Machine.execLinkRetrain client ctag link s
  | .frameRead transport header => Sys2Proof.Machine.execFrameRead transport header s
  | .frameWrite transport header data => Sys2Proof.Machine.execFrameWrite transport header data s
  | .segRead transport header => Sys2Proof.Machine.execSegRead transport header s
  | .segWrite transport header data => Sys2Proof.Machine.execSegWrite transport header data s
  | .segCancel transport header => Sys2Proof.Machine.execSegCancel transport header s
  | .segTimeout client index sub => Sys2Proof.Machine.execSegTimeout client index sub s
  | .segReadClose client index sub => Sys2Proof.Machine.execSegReadClose client index sub s
  | .objDedupExpiry client seq => Sys2Proof.Machine.execObjDedupExpiry client seq s
  | .cmdSubmit client record => Sys2Proof.Machine.execCmdSubmit client record s
  | .nop client ctag => Sys2Proof.Machine.execNop client ctag s
  | .watchdogExpiry cores => Sys2Proof.Machine.execWatchdogExpiry cores s
  | .objectFrame port payload => Sys2Proof.Machine.execObjectFrame port payload s
  | .identifyDevice port => Sys2Proof.Machine.execIdentifyDevice port s
  | .backgroundOperationStatus port => Sys2Proof.Machine.execBackgroundOperationStatus port s
  | .getEventRecords port => Sys2Proof.Machine.execGetEventRecords port s
  | .clearEventRecords port => Sys2Proof.Machine.execClearEventRecords port s
  | .getEventInterruptPolicy port => Sys2Proof.Machine.execGetEventInterruptPolicy port s
  | .setEventInterruptPolicy port policy => Sys2Proof.Machine.execSetEventInterruptPolicy port policy s
  | .getFwInfo port => Sys2Proof.Machine.execGetFwInfo port s
  | .transferFw port => Sys2Proof.Machine.execTransferFw port s
  | .activateFw port => Sys2Proof.Machine.execActivateFw port s
  | .getSupportedLogs port => Sys2Proof.Machine.execGetSupportedLogs port s
  | .getLog port => Sys2Proof.Machine.execGetLog port s
  | .identifyMemoryDevice port => Sys2Proof.Machine.execIdentifyMemoryDevice port s
  | .setEndpointId eid => Sys2Proof.Machine.execSetEndpointId eid s
  | .dynamicAddressAssignment address => Sys2Proof.Machine.execDynamicAddressAssignment address s
  | .neighbourDiscovery bus target source => Sys2Proof.Machine.execNeighbourDiscovery bus target source s
  | .icmpv6Echo bus target source payload => Sys2Proof.Machine.execIcmpv6Echo bus target source payload s
  | .fieldBusDown bus => Sys2Proof.Machine.execFieldBusDown bus s
  | .resetNAssert lowNs => Sys2Proof.Machine.execResetNAssert lowNs s
  | .resetNRelease straps badWays badWords badCheckers romOk => Sys2Proof.Machine.execResetNRelease straps badWays badWords badCheckers romOk s
  | .startupDone client ctag => Sys2Proof.Machine.execStartupDone client ctag s
  | .warmReset client ctag => Sys2Proof.Machine.execWarmReset client ctag s
  | .warmDrainEnd badCheckers romOk => Sys2Proof.Machine.execWarmDrainEnd badCheckers romOk s
  | .pfailNAssert lowNs edges => Sys2Proof.Machine.execPfailNAssert lowNs edges s
  | .coldSensorChange sensor celsius => Sys2Proof.Machine.execColdSensorChange sensor celsius s
  | .poolLinkDown port => Sys2Proof.Machine.execPoolLinkDown port s
  | .fieldBusUp bus => Sys2Proof.Machine.execFieldBusUp bus s
  | .linkTrainingFailure link => Sys2Proof.Machine.execLinkTrainingFailure link s
  | .ideActivation port => Sys2Proof.Machine.execIdeActivation port s
  | .hdmDecoderCommit port base => Sys2Proof.Machine.execHdmDecoderCommit port base s
  | .chartWordReload chart => Sys2Proof.Machine.execChartWordReload chart s
  | .keySlotRestore pound slot => Sys2Proof.Machine.execKeySlotRestore pound slot s
  | .firmwareTableRestore word => Sys2Proof.Machine.execFirmwareTableRestore word s
  | .regulatorWordRestore word => Sys2Proof.Machine.execRegulatorWordRestore word s
  | .slotOffer => Sys2Proof.Machine.execSlotOffer s
  | .drydockLeak => Sys2Proof.Machine.execDrydockLeak s
  | .cacheDrainDone => Sys2Proof.Machine.execCacheDrainDone s
  | .invalidatePassDone => Sys2Proof.Machine.execInvalidatePassDone s
  | .moorFillsDone => Sys2Proof.Machine.execMoorFillsDone s
  | .wayZeroingDone => Sys2Proof.Machine.execWayZeroingDone s
  | .retireSweepStart => Sys2Proof.Machine.execRetireSweepStart s
  | .retireSweepDone => Sys2Proof.Machine.execRetireSweepDone s
  | .searchIssue => Sys2Proof.Machine.execSearchIssue s
  | .applyGroupWrite => Sys2Proof.Machine.execApplyGroupWrite s
  | .sweepRead => Sys2Proof.Machine.execSweepRead s
  | .sweepPeriodMiss => Sys2Proof.Machine.execSweepPeriodMiss s
  | .pendingUpdateResend => Sys2Proof.Machine.execPendingUpdateResend s
  | .rkRead => Sys2Proof.Machine.execRkRead s
  | .rkWriteEncrypt => Sys2Proof.Machine.execRkWriteEncrypt s
  | .reknitStall => Sys2Proof.Machine.execReknitStall s
  | .protFlushDone => Sys2Proof.Machine.execProtFlushDone s
  | .scrubPeriodMiss => Sys2Proof.Machine.execScrubPeriodMiss s
  | .regionDrainDone => Sys2Proof.Machine.execRegionDrainDone s
  | .snapshotInstant => Sys2Proof.Machine.execSnapshotInstant s
  | .linkStateVectorSend => Sys2Proof.Machine.execLinkStateVectorSend s
  | .timeFlitSend => Sys2Proof.Machine.execTimeFlitSend s
  | .timeLockTimeout => Sys2Proof.Machine.execTimeLockTimeout s
  | .ppsEdge => Sys2Proof.Machine.execPpsEdge s
  | .ppsStuck => Sys2Proof.Machine.execPpsStuck s
  | .membershipPublish => Sys2Proof.Machine.execMembershipPublish s
  | .epochApply => Sys2Proof.Machine.execEpochApply s
  | .quarantineReport => Sys2Proof.Machine.execQuarantineReport s
  | .commandAccept => Sys2Proof.Machine.execCommandAccept s
  | .getEndpointId => Sys2Proof.Machine.execGetEndpointId s
  | .getMctpVersionSupport => Sys2Proof.Machine.execGetMctpVersionSupport s
  | .getMessageTypeSupport => Sys2Proof.Machine.execGetMessageTypeSupport s
  | .getVendorDefinedMessageSupport => Sys2Proof.Machine.execGetVendorDefinedMessageSupport s
  | .pwrokLow => Sys2Proof.Machine.execPwrokLow s
  | .startupTimeout => Sys2Proof.Machine.execStartupTimeout s
  | .warmRestoreDone => Sys2Proof.Machine.execWarmRestoreDone s
  | .pfDrainDeadline => Sys2Proof.Machine.execPfDrainDeadline s
  | .pfailNStuck => Sys2Proof.Machine.execPfailNStuck s
  | .thermalTrip => Sys2Proof.Machine.execThermalTrip s
  | .avsRetry => Sys2Proof.Machine.execAvsRetry s
  | .avsAck => Sys2Proof.Machine.execAvsAck s
  | .pfailNHigh => Sys2Proof.Machine.execPfailNHigh s

end Sys2Proof.Machine
end

