-- ==== Sys2Proof/Machine/Tick.lean ====
section
/-! DEFINITION. What one 1.0 ns cycle brings by itself when no command waits: time, the slew of canal time, counters of cycles, free-running LFSRs, pieces of dump records, and soft errors. -/

namespace Sys2Proof.Machine

/-- The 0.8 ns cycles of a pound that begin in the `n`-th nanosecond: five in four nanoseconds (R20). -/
def poundCycles (pound n : Nat) : Nat :=
  let f := Config.poundPhase pound
  (5 * (n + 1) + f) / 4 - (5 * n + f) / 4

/-- An LFSR after `n` cycles of FREE_RUN (R57). -/
def lfsrRun (x : BitVec 16) : Nat → BitVec 16
  | 0 => x
  | n + 1 => lfsrRun (lfsrStep x) n

/-- The structure number of soft errors in the performance counters, whose parity has no leaky bucket (R318): the word is the counter's number. -/
def counterStore : Nat := 386

namespace State

/-! ### Time (R20, R24, R361, R362) -/

/-- Local time and canal time pass; the servo's slew moves canal time by at most one tick in 25 µs. -/
def passTime (s : State) : State :=
  let s := { s with now := s.now + 1, canalTime := (s.canalTime + 4) % 2 ^ 64 }
  if s.now % 25000 != 0 then s
  else if 256 ≤ s.canal.slew then
    { s with canalTime := (s.canalTime + 1) % 2 ^ 64, canal := { s.canal with slew := s.canal.slew - 256 } }
  else if s.canal.slew ≤ -256 then
    { s with canalTime := (s.canalTime + 2 ^ 64 - 1) % 2 ^ 64, canal := { s.canal with slew := s.canal.slew + 256 } }
  else s

/-- What waits for a cycle at the quads and the regulator: releases beyond the 64 of a cycle (R310), and Req messages in an ingress store whose quad returns credits again (R103). -/
def passEntry (s : State) : State :=
  s.tenant.look.foldl (fun s (p : Nat × Lookaside) =>
    if p.2.ingress.isEmpty then s else s.drainIngress (.quad p.1)) s.releaseSlots

/-- In HOLDOVER the error estimate grows by 1 ns per ms. -/
def passHoldover (s : State) : State :=
  if s.canal.timeState == .holdover && s.now % 1000 == 0 then
    ({ s with canal := { s.canal with errorPs := min (s.canal.errorPs + 1) (2 ^ 32 - 1) } } : State).settleTrust
  else s

/-! ### Counters of cycles (R316, R317, R319) -/

/-- OCC of every context that holds slots. -/
def passOccupancy (s : State) : State :=
  s.tenant.acct.foldl (fun s (p : Nat × CtxAccount) => if p.2.held = 0 then s else s.countCtx p.1 1 p.2.held) s

/-- Count the cycles of a pound in which a condition holds. -/
def countCycles (s : State) (pound n : Nat) (holds : Bool) : State :=
  if holds then s.countBy n (poundCycles pound s.now) else s

/-- Whether a transaction of a slice waits for a dwell (R104). -/
def waitsDwell (t : Tracker) : Bool :=
  match t.stage with
  | .dwell _ => true
  | _ => false

/-- Offsets 6, 7 and 14 of the slices. -/
def passSlices (s : State) : State :=
  s.slices.foldl (fun s (p : Nat × Slice) =>
    let s := s.countCycles (p.1 / 8) (16 * p.1 + 6) (decide (128 ≤ p.2.writeBuf.length))
    let s := s.countCycles (p.1 / 8) (16 * p.1 + 7) (decide (32 ≤ p.2.missWait.length))
    s.countCycles (p.1 / 8) (16 * p.1 + 14) (p.2.trackers.any waitsDwell)) s

/-- Whether a fence of a queue holds the entries behind it: its condition is not met (R157). -/
def fenceWaits (q : Queue) : Bool := q.entries.any fun e => e.isFence && !e.ended

/-- Offsets 5 and 7 of the queue processors: a queue of theirs waits at a fence, or has a full store buffer. -/
def passQueues (s : State) : State :=
  if s.queue.queues.isEmpty then s
  else (List.range 32).foldl (fun s p =>
    let mine := (s.queue.queues.filter fun (q : Nat × Queue) => q.1 % 32 == p).map fun (q : Nat × Queue) => q.2
    let s := s.countCycles (p / 4) (1280 + 8 * p + 5) (mine.any fenceWaits)
    s.countCycles (p / 4) (1280 + 8 * p + 7) (mine.any fun q => decide (16 ≤ q.stores.length))) s

/-- Offsets 5 to 9 of the search engine: a class had work waiting. -/
def passSearch (s : State) : State :=
  let has (s : State) (c : SearchClass) : Bool := s.search.waiting.any (·.cls == c)
  let s := if has s .region then s.count 1541 else s
  let s := if has s .cascade then s.count 1542 else s
  let s := if (s.search.groups.any fun g => !g.applies.isEmpty) || !s.search.rowReads.isEmpty then s.count 1543 else s
  let s := if has s .localSearch then s.count 1544 else s
  if s.sweepBehind then s.count 1545 else s

/-! ### LFSRs (R57) -/

/-- In FREE_RUN the slices' LFSRs step on every cycle of their pound; those of the protection pounds always do (R244). -/
def passLfsrs (s : State) : State :=
  let s := if s.inEffect 0x2220 1 = 1 then s
    else (List.range 64).foldl (fun s k =>
      s.modSlice k fun x => { x with lfsr := lfsrRun x.lfsr (poundCycles (k / 8) s.now) }) s
  { s with prot := { s.prot with
      lfsr0 := lfsrRun s.prot.lfsr0 (poundCycles 8 s.now), lfsr1 := lfsrRun s.prot.lfsr1 (poundCycles 9 s.now) } }

/-! ### Soft errors (R273, R283, R318) -/

/-- A soft error of this cycle, in the structure, word and bits that nature chooses. -/
def passSoftError (s : State) : State :=
  match Config.softError s.now with
  | none => s
  | some (b, w, e) =>
    if b = counterStore then
      if s.counter.badParity.contains w then s
      else { s with counter := { s.counter with badParity := s.counter.badParity ++ [w] } }
    else if b = cellStore then
      let hit (r : Row) : Row := if w % 2 = 0 then { r with x := r.x ^^^ e.setWidth 128 } else { r with y := r.y ^^^ e.setWidth 128 }
      { s with search := { s.search with rows := Table.modify {} s.search.rows (w / 2) hit } }
    else if b = romStore then
      if (List.range 33).foldl (fun p i => xor p (e.getLsbD i)) false then s.raise 0x7006 .deviceFatal (.count 0 w) else s
    else s.flipBits b w e

/-- The dump engine writes 16 B in two cycles (R324). -/
def passDump (s : State) : State := if s.now % 2 = 0 then s.dumpPiece else s

/-- One cycle of the search, management and time pounds (R20). A device held in reset only waits. -/
def tick (s : State) : State :=
  if s.power.device == .starting then s.passTime
  else
    commit s (({ s with out := [] } : State).passTime.passHoldover.passEntry.passOccupancy.passSlices.passQueues.passSearch.passLfsrs.passDump
      |>.passSoftError |>.noteRestarts)

end State

end Sys2Proof.Machine
end

