-- ==== Sys2Proof/Safety.lean ====
section
/-! DEFINITION. What counts as a safe run, and the words that the statements share. -/

namespace Sys2Proof.Machine

/-- A step that answers a next state. -/
def Runs (s : State) : Prop := ∃ t, step s = .next t

/-- What every step keeps: Chamber RAM is in its canonical form, a device that asserts FAULT_N serves as in the fatal state (R297, R298), and no counter waits for its event 8201 between commands (R318). -/
def State.Inv (s : State) : Prop :=
  Memory.wf s.queue.chamber = true ∧ (s.ras.faultN = true → s.isFatal = true) ∧ s.counter.restarted = []

/-- The device is out of reset (R415). -/
abbrev State.awake (s : State) : Prop := s.power.device ≠ .starting

/-- What a command with an effect leaves: the effect is applied with nothing yet sent, counters that it restarted are reported (R318), the command queue stands, what it sent follows what had left before, and the latches of R297, R413 and R429 hold. -/
def State.after (s : State) (i : Instr) (effect : State → State) : State :=
  commit s (effect { s with pending := [], out := [] }).noteRestarts (resetsCold i)

/-- The selector of a client's write: `pick` names a window and the item it shows, none leaves the client's own selections (R386). -/
def State.picked (s : State) (c : Client) (pick : Option (Nat × Nat)) : Selector :=
  match pick with
  | none => s.selOf c
  | some (w, n) => s.selItem c w n

/-- A client's write of an object is heard and nothing bars it: no earlier frame of the client is being handled, the client may write the object, and the device's state allows it (R381, R383, R393, R395, R401). -/
def State.mayWrite (s : State) (c : Client) (index sub : Nat) (pick : Option (Nat × Nat)) : Bool :=
  s.power.device != .starting && s.hears c.transport && !s.clientBusy c && c.number != 0 &&
    match objDef index sub with
    | some d => ((s.touchClient c).writeBarred c.transport ((s.touchClient c).picked c pick) d).isNone
    | none => false

/-- A client's command of an opcode starts as it is submitted: the write of its record to CMD_SUBMIT is heard and nothing bars it, the record fits a frame of every transport, no other command is held, its parameters have their length and ranges, no table work holds its chart, and the device's state lets it run (R210, R256, R393, R401, R403, R405, R407, R419). -/
def State.takes (s : State) (client : Client) (op : Nat) (params : List Byte) : Bool :=
  s.mayWrite client 0x1F00 1 none && decide (params.length ≤ 224) && s.mgmt.cmds.isEmpty && !s.isFatal && s.power.device != .pfDraining &&
    (!s.power.windowOpen || runsInWindow op) && s.plenOk op params.length params && paramsInRange op params &&
    !(cmdArea op == some .chart && s.chartWorks (param params 0 1)) &&
    match client.transport with
    | .mailbox p => if cmdArea op == some .protection then s.adminPort 0x4000 6 p else s.adminPort 0x1103 1 p
    | _ => true

/-- The state in which a command has just been submitted: its client is the one used last (R386), it holds the next ticket and waits, and WRITE_RSP has carried the ticket (R393, R403). -/
def State.submitted (s : State) (client : Client) (op ctag : Nat) (params : List Byte) : State :=
  let t := s.touchClient client
  ({ t with mgmt := { t.mgmt with
      nextTicket := (s.mgmt.nextTicket + 1) % 2 ^ 32
      cmds := s.mgmt.cmds ++ [{
        ticket := s.mgmt.nextTicket, client := clientKey client, opcode := op, ctag := ctag, notify := false
        buses := busBit client.transport, params := params }] } } : State).reply client.transport
    (writeHeader client 0x1F00 1 (16 + params.length)) { kind := 0xA, arg := s.mgmt.nextTicket }

/-- The state in which a command that was just submitted runs: it is the one command held (R403). -/
def State.started (s : State) (client : Client) (op ctag : Nat) (params : List Byte) : State :=
  let t := s.submitted client op ctag params
  { t with mgmt := { t.mgmt with cmds := [{
      ticket := s.mgmt.nextTicket, client := clientKey client, opcode := op, ctag := ctag, notify := false
      buses := busBit client.transport, params := params, running := true, accepted := s.now, acceptedCanal := s.canalTime }] } }

/-- What a client's command does that ends in the step that accepts it: an effect on the device, and a result with its code (R404). -/
def State.ending (client : Client) (op ctag : Nat) (params : List Byte) (code : Nat) (f : State → State) (s : State) : State :=
  (f (s.started client op ctag params)).endCmd s.mgmt.nextTicket code

/-- What a client's command does that goes on running under its ticket. -/
def State.running (client : Client) (op ctag : Nat) (params : List Byte) (f : Nat → State → State) (s : State) : State :=
  f s.mgmt.nextTicket (s.started client op ctag params)

/-- What a client's write does that succeeds: it makes the client the one used last (R386), has its effect, and is answered with WRITE_RSP (R392). -/
def State.wrote (c : Client) (index sub : Nat) (data : List Byte) (f : State → State) (s : State) : State :=
  (f (s.touchClient c)).reply c.transport (writeHeader c index sub data.length) { kind := 0xA }

/-- The state in which a client's frame is handled: nothing sent yet, and the client the one used last (R386). -/
def State.found (s : State) (c : Client) : State := ({ s with pending := [], out := [] } : State).touchClient c

/-- A frame is heard, whole and well formed, and no earlier frame of its client is being handled (R391 to R395). -/
def State.mayServe (s : State) (f : Frame) : Bool :=
  s.power.device != .starting && s.hears f.transport && f.whole && f.formOk && !s.clientBusy f.client

/-- A counter node is resident and its words are undamaged, so that an access reads it at once (R241, R251). -/
def State.nodeReady (s : State) (r l i : Nat) (b : CcBlock) : Bool :=
  s.ccAt r l i == some b && !b.evicting &&
    (List.range 4).all fun w => s.damageAt (352 + r % 2) (ccWord r l i b.way + w) == 0

/-- A pound's copy of a key slot is not being restored and its words are undamaged, so that an access uses it at once (R251). -/
def State.keyReady (s : State) (pound slot : Nat) : Bool :=
  !((s.keySlot slot).restoring == some pound) &&
    (List.range 2).all fun h => s.damageAt (356 + pound) (slot * 2 + h) == 0

end Sys2Proof.Machine
end

