-- ==== Sys2Proof/Certificates/Slice0/Obligations.lean ====
section
/-! DEFINITION. The statements that are to be proved of the model. -/

open Sys2Proof Sys2Proof.Machine

/-! ### Host requests, decode and admission -/

/-- A request class of a host that its port serves and its quad takes completes by entering: it is counted, held as a transaction and decoded (R46, R105, R117). A CXL.mem request that the quad has withheld the general credits for enters its ingress store on the credit of a snoop that is out to the port (R103). SPEC completes by being counted as a request of its quad, and leaves everything else as it was: it is dropped without a response (R105). A CXL.mem message whose reserved bits, the tag's bits above 15, are not 0 is malformed: it is reported with 3016 and has no other effect than its answer (R105, R128). -/
def Obligations.HostRequestsEnter : Prop :=
  (∀ (s : State) (port hpa tag : Nat) (w : WriteData), s.awake → port < 128 → hpa < 2 ^ 64 → s.isFatal = false →
    (s.portServes port hpa false = true → tag < 65536 →
      (s.quadTakes (.quad (s.decodeQuad port hpa)) port .rdS false = true →
        exec (.rdS port hpa tag) s = .next (s.after (.rdS port hpa tag) (·.takeRequest port hpa tag .rdS ⟨0, 0, false⟩ false))) ∧
      (s.quadTakes (.quad (s.decodeQuad port hpa)) port .rdAny false = true →
        exec (.rdAny port hpa tag) s = .next (s.after (.rdAny port hpa tag) (·.takeRequest port hpa tag .rdAny ⟨0, 0, false⟩ false))) ∧
      (s.quadTakes (.quad (s.decodeQuad port hpa)) port .rdOwn false = true →
        exec (.rdOwn port hpa tag) s = .next (s.after (.rdOwn port hpa tag) (·.takeRequest port hpa tag .rdOwn ⟨0, 0, false⟩ false))) ∧
      (s.quadTakes (.quad (s.decodeQuad port hpa)) port .upg false = true →
        exec (.upg port hpa tag) s = .next (s.after (.upg port hpa tag) (·.takeRequest port hpa tag .upg ⟨0, 0, false⟩ false))) ∧
      (s.quadTakes (.quad (s.decodeQuad port hpa)) port .rdNc false = true →
        exec (.rdNc port hpa tag) s = .next (s.after (.rdNc port hpa tag) (·.takeRequest port hpa tag .rdNc ⟨0, 0, false⟩ false))) ∧
      (s.quadTakes (.quad (s.decodeQuad port hpa)) port .invNc false = true →
        exec (.invNc port hpa tag) s = .next (s.after (.invNc port hpa tag) (·.takeRequest port hpa tag .invNc ⟨0, 0, false⟩ false))) ∧
      (s.quadTakes (.quad (s.decodeQuad port hpa)) port .wrNc false = true →
        exec (.wrNc port hpa tag w) s = .next (s.after (.wrNc port hpa tag w) (·.takeRequest port hpa tag .wrNc w false))) ∧
      (s.quadTakes (.quad (s.decodeQuad port hpa)) port .wbI false = true →
        exec (.wbI port hpa tag w) s = .next (s.after (.wbI port hpa tag w) (·.takeRequest port hpa tag .wbI w false))) ∧
      (s.quadTakes (.quad (s.decodeQuad port hpa)) port .wbS false = true →
        exec (.wbS port hpa tag w) s = .next (s.after (.wbS port hpa tag w) (·.takeRequest port hpa tag .wbS w false))) ∧
      (s.quadTakes (.quad (s.decodeQuad port hpa)) port .wbE false = true →
        exec (.wbE port hpa tag w) s = .next (s.after (.wbE port hpa tag w) (·.takeRequest port hpa tag .wbE w false))) ∧
      (s.quadTakes (.quad (s.decodeQuad port hpa)) port .clnEvict false = true →
        exec (.clnEvict port hpa tag) s =
          .next (s.after (.clnEvict port hpa tag) (·.takeRequest port hpa tag .clnEvict ⟨0, 0, false⟩ false))) ∧
      (s.quadTakes (.quad (s.decodeQuad port hpa)) port .rdOwn false = false → s.ingressRoom (.quad (s.decodeQuad port hpa)) port = true →
        exec (.rdOwn port hpa tag) s = .next (s.after (.rdOwn port hpa tag) (·.holdIngress (.quad (s.decodeQuad port hpa)) port hpa tag .rdOwn)))) ∧
    (s.portServes port hpa true = true →
      (s.quadTakes (.quad (s.decodeQuad port hpa)) port .rdNc true = true →
        exec (.cxlIoMemoryRequest port hpa tag none) s =
          .next (s.after (.cxlIoMemoryRequest port hpa tag none) (·.takeRequest port hpa tag .rdNc ⟨0, 0, false⟩ true))) ∧
      (s.quadTakes (.quad (s.decodeQuad port hpa)) port .wrNc true = true →
        exec (.cxlIoMemoryRequest port hpa tag (some w)) s =
          .next (s.after (.cxlIoMemoryRequest port hpa tag (some w)) (·.takeRequest port hpa tag .wrNc w true))))) ∧
  (∀ (s : State) (port hpa tag : Nat), s.awake → port < 128 → hpa < 2 ^ 64 → s.isFatal = false → s.portServes port hpa false = true →
    (tag < 65536 → exec (.spec port hpa tag) s = .next (s.after (.spec port hpa tag) (·.count (1024 + 2 * s.decodeQuad port hpa)))) ∧
    (65536 ≤ tag →
      exec (.spec port hpa tag) s = .next (s.after (.spec port hpa tag) (·.violation 0x3016 s.position port 0)) ∧
      exec (.rdS port hpa tag) s = .next (s.after (.rdS port hpa tag) (·.malformedRequest port hpa tag .rdS)) ∧
      exec (.clnEvict port hpa tag) s = .next (s.after (.clnEvict port hpa tag) (·.malformedRequest port hpa tag .clnEvict))))

/-- The decode and admission steps complete when they have a transaction: the oldest returned system-chart result decodes the requests that waited for it (R44), the oldest request at the regulator is classified and takes a slot or waits (R306, R309), a freed slot goes to the first waiting request in order that has one free (R309), and a guaranteed transaction past its deadline is reported once (R313). -/
def Obligations.AdmissionSteps : Prop :=
  ∀ (s : State), s.awake →
    (∀ (u : LookUnit) (m : LaMiss), u.ok = true → (s.look u).misses.find? (·.result.isSome) = some m →
      exec (.lookasideMissResult u) s = .next (s.after (.lookasideMissResult u) (·.lookReturned u m))) ∧
    (∀ (q id : Nat) (rest : List Nat) (t : Txn), q < 128 → (s.look (.quad q)).toRegulator = id :: rest → s.txn id = some t →
      s.cycleFull = false → (∀ w ∈ [State.occWord t.req.ctx, State.slotWord s.freeSlotNo], s.damageAt 369 w = 0 ∧ s.damageAt 369 (w + 20480) = 0) →
      s.regWaits t.req.ctx s.freeSlotNo = false →
      exec (.admissionRequest (.quad q)) s = .next (s.after (.admissionRequest (.quad q)) fun s =>
        (s.modLook (.quad q) fun l => { l with toRegulator := rest }).seekSlot (.quad q) t)) ∧
    (∀ (t : Txn) (aged : Bool), s.cycleFull = false →
      s.offerOrder.find? (fun p => s.slotFree p.1.cls 0 && !s.regWaits p.1.req.ctx s.freeSlotNo) = some (t, aged) →
      (∀ w ∈ [State.occWord t.req.ctx, State.slotWord s.freeSlotNo], s.damageAt 369 w = 0 ∧ s.damageAt 369 (w + 20480) = 0) →
      exec .slotOffer s = .next (s.after .slotOffer fun s =>
        (({ s with tenant := { s.tenant with
            offers := s.tenant.offers - 1, waiting := s.tenant.waiting.filter (· != t.req.id) } } : State).admitTxn t true aged).noteAwaiting t.unit)) ∧
    (∀ (id : Nat) (t : Txn), s.txn id = some t → t.deadline ≠ 0 → t.deadline ≤ s.now → t.missed = false → t.req.answered = false →
      exec (.guaranteeMiss id) s = .next (s.after (.guaranteeMiss id) (·.noteGuaranteeMiss t)))

/-! ### Cache slices and the pool -/

/-- The steps of the miss registers and of the write path complete on their occasions: a register that is in use takes the sectors that have returned (R56, R61), the oldest read of the miss-wait queue repeats its lookup once it can have a register, and a read that the full queue held back takes its place (R62), a read that waited for the write buffer goes to the pool (R63), a handed-over prefetch is allocated or dropped (R64), a waiting transaction enters a write buffer with room (R68), an expired merge window closes its entry (R69), and the next write of a sector is sent, one in flight for each sector (R71). -/
def Obligations.SliceSteps : Prop :=
  ∀ (s : State) (k dpa : Nat), s.awake → k < 64 → dpa < 2 ^ 45 →
    (∀ (id : Nat) (m : MissReg), (s.slice k).missRegs.find? (·.id == id) = some m →
      exec (.fill k id) s = .next (s.after (.fill k id) (·.fillReturned k m))) ∧
    (∀ (r : Req) (rest : List Req), (s.slice k).missWait = r :: rest → s.mergeable k r.dpa = none →
      (s.slice k).missRegs.length < 64 →
      exec (.missWaitServe k) s = .next (s.after (.missWaitServe k) fun s =>
        let s := (s.modSlice k fun x => { x with missWait := rest }).fetch k r
        match (s.slice k).trackers.find? fun t => t.stage == .missFull with
        | some t => (s.modTracker t.dpa fun t => { t with stage := .ready }).carryOn t.dpa
        | none => s)) ∧
    (∀ (id : Nat) (m : MissReg), (s.slice k).missRegs.find? (fun m => m.id == id && m.stage == .waitWriteBuffer) = some m →
      s.wbHolds k m.dpa = false → s.cacheOn = false →
      exec (.writeBufferWaitReadIssue k id) s = .next (s.after (.writeBufferWaitReadIssue k id) (·.startFill k m none))) ∧
    (∀ (region svc : Nat), region < 32768 → svc < 8 → s.cache.handoffs.contains (dpa, region, svc) = true →
      exec (.crossBlockPrefetch dpa region svc) s =
        .next (s.after (.crossBlockPrefetch dpa region svc) (·.takeHandoff dpa region svc))) ∧
    (∀ (t : Tracker), s.wbRoom k = true → (s.slice k).trackers.find? (fun t => t.stage == .writeBuffer) = some t →
      exec (.writeBufferAdmit k) s = .next (s.after (.writeBufferAdmit k) fun s =>
        (s.modTracker t.dpa fun t => { t with stage := .ready }).carryOn t.dpa)) ∧
    (∀ (e : MergeEntry), e ∈ (s.slice k).mergeBuf → e.dpa = sectorOf dpa → e.closed = false → s.mergeExpired e = true →
      exec (.mergeWindowExpiry k dpa) s = .next (s.after (.mergeWindowExpiry k dpa) (·.closeMerge k dpa))) ∧
    (∀ (e : WbEntry), s.writeInFlight dpa = false → s.waitingFull k dpa = some e →
      s.mergeOf k dpa = none →
      exec (.pendingPoolWriteIssue k dpa) s = .next (s.after (.pendingPoolWriteIssue k dpa) fun s =>
        s.sendWrite k dpa e.region e.svc e.w [e.id] (e.origin == .poison) 0))

/-- The steps of the pool complete for the access or page that they name: a write gets its version and ciphertext (R242, R246), its completion retires its write-buffer entries (R68), a read's answer goes to what asked for it (R237), an access that is out longer than POOL_TIMEOUT fails (R342), and a page re-encryption whose reads return is written back (R248). -/
def Obligations.PoolSteps : Prop :=
  ∀ (s : State) (id : Nat) (o : PoolOp), s.awake → s.opAt id = some o →
    (o.write = true → o.rk = false → o.stage = .toPound →
      exec (.poolWriteEncrypt id) s = .next (s.after (.poolWriteEncrypt id) fun s => (s.poundWrite o).jobStep)) ∧
    (∀ (ok : Bool), o.write = true → o.stage = .out → s.metaWaits (.op id) = false →
      exec (.poolWriteCompletion id ok) s =
        .next (s.after (.poolWriteCompletion id ok) fun s => ((s.endWrite o ok).afterOp o.dpa).jobStep)) ∧
    (∀ (a : PoolAnswer), o.write = false → o.stage = .out → s.metaWaits (.op id) = false →
      exec (.poolReadResponse id a) s =
        .next (s.after (.poolReadResponse id a) fun s => ((s.finishRead o a).afterOp o.dpa).jobStep)) ∧
    (s.sentAt id + s.reg 0x5100 1 * 1000 ≤ s.now → o.stage = .out → o.answer = none → o.write = true →
      exec (.poolTimeoutExpiry id) s =
        .next (s.after (.poolTimeoutExpiry id) fun s => ((s.endWrite o false).afterOp o.dpa).jobStep)) ∧
    (s.sentAt id + s.reg 0x5100 1 * 1000 ≤ s.now → o.stage = .out → o.answer = none → o.write = false →
      exec (.poolTimeoutExpiry id) s =
        .next (s.after (.poolTimeoutExpiry id) fun s => ((s.failRead o).afterOp o.dpa).jobStep)) ∧
    (∀ (j : PageJob) (answers : List PoolAnswer), answers.length = 64 →
      s.prot.pages.find? (fun j => j.id == id && j.started) = some j → s.metaWaits (.page id) = false →
      exec (.pageReencryptReadsDone id answers) s =
        .next (s.after (.pageReencryptReadsDone id answers) (·.pageReturned j answers)))

/-- The passes of the cache end as the manual says: draining ends in STALE once the writes that were buffered at CACHE_DISABLE have retired (R84), the invalidate pass leaves every tag clear and the cache ENABLED or CLEAN (R85), a change of moored ways ends with its command's success (R77), the way of CACHE_UNDRYDOCK comes back empty, its fills detached (R55, R80), and DRYDOCK_LEAK takes 1 from every counter of a way (R80). -/
def Obligations.CachePasses : Prop :=
  ∀ (s : State), s.awake →
    (s.cache.st = .draining → s.cache.pendingInvalidate = false → s.cache.deferredEnable = false →
      ((s.slices.map fun (p : Nat × Slice) => p.2.writeBuf.map (·.id)).flatten.any fun i => s.cache.drainIds.contains i) = false →
      (s.slices.any fun (p : Nat × Slice) => p.2.missRegs.any fun m => m.way.isSome) = false →
      exec .cacheDrainDone s = .next (s.after .cacheDrainDone fun s =>
        { s with cache := { s.cache with st := .stale, deferredEnable := false, drainIds := [] } })) ∧
    (s.cache.st = .invalidating →
      exec .invalidatePassDone s = .next (s.after .invalidatePassDone fun s => { s.clearTags with cache := { s.clearTags.cache with
        st := if s.cache.deferredEnable then .enabled else .clean, deferredEnable := false } })) ∧
    (∀ (t : Nat), s.cache.st = .clean ∨ s.cache.st = .stale → s.cache.invalidate = some t →
      exec .invalidatePassDone s = .next (s.after .invalidatePassDone fun s =>
        ({ s.clearTags with cache := { s.clearTags.cache with st := .clean, invalidate := none } } : State).endCmd t 0)) ∧
    (∀ (t w : Nat), s.cache.mooring = some (t, w) → s.cache.zeroing = false →
      (s.cache.tags.any fun t => (State.changingWays s.cache.moored w).contains (t.1 % 16) && t.2.sf != 0) = false →
      exec .moorFillsDone s = .next (s.after .moorFillsDone fun s => { s with cache := { s.cache with
        zeroing := true, tags := s.cache.tags.filter fun t => !(State.changingWays s.cache.moored w).contains (t.1 % 16) } })) ∧
    (∀ (t w : Nat), s.cache.mooring = some (t, w) → s.cache.zeroing = true →
      exec .wayZeroingDone s = .next (s.after .wayZeroingDone fun s =>
        let ways := State.changingWays s.cache.moored w
        let s' := (s.zeroWays fun _ x => ways.contains x).setModes ways (if s.cache.moored < w then .moored else .cache)
        ({ s' with cache := { s'.cache with moored := w, mooring := none, zeroing := false } } : State).endCmd t 0)) ∧
    (∀ (t k w : Nat), s.cache.mooring = none → s.cache.undrydock = some (t, k, w) →
      exec .wayZeroingDone s = .next (s.after .wayZeroingDone fun s =>
        let s := s.modSlice k fun x => { x with missRegs := mapIf (·.way == some w) (fun r => { r with way := none }) x.missRegs }
        let s := (s.zeroWays fun x y => x == k && y == w).setWayMode k w .cache
        ({ s with cache := { s.cache with
            undrydock := none, drydock := Table.set 0 s.cache.drydock (k * 16 + w) 0 } } : State).endCmd t 0)) ∧
    (s.leakDue 15 (s.reg 0x2230 2) = true →
      exec .drydockLeak s = .next (s.after .drydockLeak fun s => { s.leakStep 15 with cache := { s.cache with
        drydock := Table.mapVals 0 (· - 1) s.cache.drydock } }))

/-! ### Commands of a client -/

/-- CACHE_ENABLE, CACHE_DISABLE and CACHE_INVALIDATE do in every state of the cache what R85 tables for it, and end with its result: 0 DONE, 1 ACCEPTED, 2 DEFERRED, 3 PENDING, 0x2210 BUSY, 0x2211 STALE. CACHE_MOOR that gives up ways none of whose sectors a region uses starts the zeroing of those ways at once, CACHE_MOOR that takes ways waits for their fills (R77), and CACHE_UNDRYDOCK starts the zeroing of a drydocked way (R80). -/
def Obligations.CacheCommandsByState : Prop :=
  (∀ (s : State) (c : Client) (g : Nat), cmdOk c g = true →
    (s.takes c 0x2201 [] = true →
      (s.cache.st = .enabled → exec (.cacheEnable c g) s = .next (s.after (.cacheEnable c g) (State.ending c 0x2201 g [] 0 id))) ∧
      (s.cache.st = .draining ∨ s.cache.st = .invalidating → s.cache.deferredEnable = false →
        exec (.cacheEnable c g) s = .next (s.after (.cacheEnable c g) (State.ending c 0x2201 g [] 2 fun s =>
          { s with cache := { s.cache with deferredEnable := true } }))) ∧
      (s.cache.st = .draining ∨ s.cache.st = .invalidating → s.cache.deferredEnable = true →
        exec (.cacheEnable c g) s = .next (s.after (.cacheEnable c g) (State.ending c 0x2201 g [] 0x2210 id))) ∧
      (s.cache.st = .stale → exec (.cacheEnable c g) s = .next (s.after (.cacheEnable c g) (State.ending c 0x2201 g [] 0x2211 id))) ∧
      (s.cache.st = .clean → exec (.cacheEnable c g) s = .next (s.after (.cacheEnable c g) (State.ending c 0x2201 g [] 0 fun s =>
        { s with cache := { s.cache with st := .enabled } })))) ∧
    (s.takes c 0x2202 [] = true →
      (s.cache.st = .enabled → exec (.cacheDisable c g) s = .next (s.after (.cacheDisable c g) (State.ending c 0x2202 g [] 1 fun s =>
        ({ s with cache := { s.cache with
            st := .draining
            drainIds := (s.slices.map fun (p : Nat × Slice) => p.2.writeBuf.map (·.id)).flatten } } : State).closeAllMerges))) ∧
      (s.cache.st = .draining ∨ s.cache.st = .invalidating →
        exec (.cacheDisable c g) s = .next (s.after (.cacheDisable c g) (State.ending c 0x2202 g [] 1 fun s =>
          { s with cache := { s.cache with deferredEnable := false } }))) ∧
      (s.cache.st = .stale ∨ s.cache.st = .clean →
        exec (.cacheDisable c g) s = .next (s.after (.cacheDisable c g) (State.ending c 0x2202 g [] 0 id)))) ∧
    (s.takes c 0x2203 [] = true →
      (s.cache.st = .enabled →
        exec (.cacheInvalidate c g) s = .next (s.after (.cacheInvalidate c g) (State.ending c 0x2203 g [] 0x2210 id))) ∧
      (s.cache.st = .draining →
        exec (.cacheInvalidate c g) s = .next (s.after (.cacheInvalidate c g) (State.ending c 0x2203 g [] 3 fun s =>
          { s with cache := { s.cache with pendingInvalidate := true } }))) ∧
      (s.cache.st = .invalidating →
        exec (.cacheInvalidate c g) s = .next (s.after (.cacheInvalidate c g) (State.ending c 0x2203 g [] 3 id))) ∧
      (s.cache.st = .stale ∨ s.cache.st = .clean →
        exec (.cacheInvalidate c g) s = .next (s.after (.cacheInvalidate c g) (State.running c 0x2203 g [] fun t s =>
          { s with cache := { s.cache with invalidate := some t } }))))) ∧
  (∀ (s : State) (c : Client) (g w k : Nat), cmdOk c g = true → w < 256 → k < 64 →
    (s.takes c 0x2204 (leBytes w 1) = true → w ≤ 14 → w ≠ s.cache.moored → s.cache.st ≠ .draining → s.cache.st ≠ .invalidating →
      (s.cache.moored < w → ((List.range 64).any fun k => ((State.changingWays s.cache.moored w).any fun x => s.wayMode k x == .drydocked) ||
        decide (((List.range (16 - w)).filter fun x => s.wayMode k x == .cache).length < 2)) = false) →
      (w < s.cache.moored → s.mooredInUse w = false) →
      exec (.cacheMoor c g w) s = .next (s.after (.cacheMoor c g w) (State.running c 0x2204 g (leBytes w 1) fun t s =>
        let ways := State.changingWays s.cache.moored w
        { s.setModes ways .transition with cache := { (s.setModes ways .transition).cache with
            mooring := some (t, w), zeroing := decide (w < s.cache.moored) } }))) ∧
    (s.takes c 0x2205 (leBytes k 1 ++ leBytes w 1) = true → w < 16 → s.wayMode k w = .drydocked →
      s.cache.st ≠ .draining → s.cache.st ≠ .invalidating →
      exec (.cacheUndrydock c g k w) s =
        .next (s.after (.cacheUndrydock c g k w) (State.running c 0x2205 g (leBytes k 1 ++ leBytes w 1) fun t s =>
          { s with cache := { s.cache with undrydock := some (t, k, w) } }))))

/-- The region commands: REGION_COMMIT of a staged region that passes every check places it (R38, R40), REGION_DELETE of an ACTIVE region retires its interval and clears its rows (R39, R45), and REGION_FREEZE and REGION_THAW rewrite its rows with FROZEN set or clear (R40). -/
def Obligations.RegionCommands : Prop :=
  ∀ (s : State) (c : Client) (g r : Nat), cmdOk c g = true → r < 32768 →
    (s.takes c 0x2001 (leBytes r 2) = true → (s.region r).lost = false → (s.region r).st ≠ .active →
      rdValid (s.stagedRegion r).1 = true → s.regionCheck r (s.stagedRegion r).1 (s.stagedRegion r).2 = none →
      exec (.regionCommit c g r) s = .next (s.after (.regionCommit c g r) (State.running c 0x2001 g (leBytes r 2) fun t s =>
        s.placeRegion t r (s.stagedRegion r).1 (s.stagedRegion r).2 false))) ∧
    (s.takes c 0x2002 (leBytes r 2) = true → (s.region r).st = .active → s.retiredCount < 32768 →
      exec (.regionDelete c g r) s = .next (s.after (.regionDelete c g r) (State.running c 0x2002 g (leBytes r 2) fun t s =>
        (((s.retireInterval r).startRun t r 1).reserveRows (s.region r).rows).writeSysRows ((s.region r).rows.map fun i =>
          { row := i, image := { ((s.retireInterval r).startRun t r 1).imageAt i with valid := false } }) (s.region r).rows))) ∧
    (s.takes c 0x2003 (leBytes r 2) = true → (s.region r).lost = false → (s.region r).st = .active →
      exec (.regionFreeze c g r) s = .next (s.after (.regionFreeze c g r) (State.running c 0x2003 g (leBytes r 2) fun t s =>
        s.regionFrozen t r true))) ∧
    (s.takes c 0x2004 (leBytes r 2) = true → (s.region r).lost = false → (s.region r).st = .active →
      exec (.regionThaw c g r) s = .next (s.after (.regionThaw c g r) (State.running c 0x2004 g (leBytes r 2) fun t s =>
        s.regionFrozen t r false)))

/-- The chart commands: CHART_COMMIT of a local chart that passes every check takes it to COMMITTING and hands the engine the mark at which its staged descriptor and maps become the committed ones (R183, R184), CHART_DROP of a chart without SPAN clears its rows (R184), CHART_MOVE writes every entry into the new layout (R211), CHART_ADMIT and CHART_RELEASE of a spanned chart run the span command with the changed member set (R214 to R216), and TABLE_EXEC gives its block to the table command queue (R200, R209). -/
def Obligations.ChartCommands : Prop :=
  ∀ (s : State) (c : Client) (g n : Nat), cmdOk c g = true → n < 256 →
    (s.takes c 0x3001 (leBytes n 1) = true → n ≠ 0 → s.chartBusy n = false → s.chartEmpty n = true →
      cdValid (s.chart n).openStage.staged1 = true →
      s.descriptorCheck (s.chart n).openStage.staged1 (s.chart n).openStage.staged0 (s.chart n).openStage.stagedGmap = none →
      cdSpan (s.chart n).openStage.staged1 = 0 → cdValid (s.chart n).desc1 = false →
      exec (.chartCommit c g n) s = .next (s.after (.chartCommit c g n) (State.running c 0x3001 g (leBytes n 1) fun t s =>
        (s.modChart n fun _ => { (s.chart n).openStage with st := .committing, hasStaged := true }).handGroup
          { applies := [], after := .commit n t }))) ∧
    (s.takes c 0x3002 (leBytes n 1) = true → n ≠ 0 → s.chartBusy n = false →
      (cdValid (s.chart n).desc1 = false ∨ cdSpan (s.chart n).desc1 = 0) →
      exec (.chartDrop c g n) s = .next (s.after (.chartDrop c g n) (State.running c 0x3002 g (leBytes n 1) fun t s =>
        s.enterDropping n (some t)))) ∧
    (∀ (w1 : Word128) (places : List (Nat × List Nat)), s.takes c 0x3003 (leBytes n 1) = true → n ≠ 0 → s.chartBusy n = false →
      (s.chart n).openStage.staged1 = w1 → (s.chart n).st = .valid → State.moveBits w1 = State.moveBits (s.chart n).desc1 →
      setFld (s.chart n).openStage.staged0 44 12 0 = setFld (s.chart n).desc0 44 12 0 → (s.chart n).openStage.stagedDmap = (s.chart n).dmap →
      s.descriptorCheck w1 (s.chart n).openStage.staged0 (s.chart n).openStage.stagedGmap = none →
      (((List.range (cdBankCount w1)).map (cdBankFirst w1 + ·)).any
        ((List.range (cdBankCount (s.chart n).desc1)).map (cdBankFirst (s.chart n).desc1 + ·)).contains) = false →
      s.placeAll w1 (s.chart n).openStage.stagedGmap
        (s.search.entries.filter fun (p : Nat × EntryRec) => p.2.chart == n && !p.2.rows.isEmpty) s.usedRows = some places →
      exec (.chartMove c g n) s = .next (s.after (.chartMove c g n) (State.running c 0x3003 g (leBytes n 1) fun t s =>
        s.moveEntries t n w1 places))) ∧
    (∀ (d : Nat), d < 1024 → s.takes c 0x3004 (leBytes n 2 ++ leBytes d 2) = true → s.chartBusy n = false → (s.chart n).st = .valid →
      cdSpan (s.chart n).desc1 ≠ 0 → s.spanReady = true → s.goodMember d = true →
      (cdSpan (s.chart n).desc1 = 2 → d / 32 = s.flight) →
      exec (.chartAdmit c g n d) s =
        .next (s.after (.chartAdmit c g n d) (State.running c 0x3004 g (leBytes n 2 ++ leBytes d 2) fun t s =>
          ({ s with search := { s.search with released := s.search.released.filter (· != (n, d)) } } : State).startSpan t n
            (s.chart n).desc1 (s.chart n).desc0 (State.dmapList (s.chart n).dmap)
            ((s.chart n).members.filter (· != d) ++ [d]) false false []))) ∧
    (∀ (d : Nat), d < 1024 → s.takes c 0x3005 (leBytes n 2 ++ leBytes d 2) = true → s.chartBusy n = false → (s.chart n).st = .valid →
      cdSpan (s.chart n).desc1 ≠ 0 → s.spanReady = true → d ≠ s.deviceNumber → s.goodMember d = true →
      (s.chart n).members.contains d = true → (State.usedDevices (s.chart n).desc1 (s.chart n).dmap).contains d = false →
      exec (.chartRelease c g n d) s =
        .next (s.after (.chartRelease c g n d) (State.running c 0x3005 g (leBytes n 2 ++ leBytes d 2) fun t s =>
          ({ s with search := { s.search with released := s.search.released.filter (· != (n, d)) } } : State).startSpan t n
            (s.chart n).desc1 (s.chart n).desc0 (State.dmapList (s.chart n).dmap)
            ((s.chart n).members.filter (· != d)) false false [(d, true)]))) ∧
    (∀ (b : List Byte), s.takes c 0x3101 (leBytes n 16 ++ b) = true →
      exec (.tableExec c g n b) s =
        .next (s.after (.tableExec c g n b) (State.running c 0x3101 g (leBytes n 16 ++ b) fun t s =>
          s.submitTable (.ticket t) n b)))

/-- The protection commands: PROT_ENABLE, PROT_DISABLE and PROT_RELEASE by state, PROT_INIT that passes its checks waits for the pool accesses of its range (R266), PROT_REKNIT binds the new slot and starts the engine at the needle's base (R258, R270), and the key commands establish and clear the KEK and load and erase a slot (R253, R254). -/
def Obligations.ProtectionCommands : Prop :=
  ∀ (s : State) (c : Client) (g r k : Nat), cmdOk c g = true → r < 4096 → k < 4096 →
    (s.takes c 0x4001 (leBytes r 2) = true → s.protInitCheck r = 0 →
      exec (.protInit c g r) s = .next (s.after (.protInit c g r) (State.running c 0x4001 g (leBytes r 2) fun t s =>
        ({ s with prot := { s.prot with job := some (t, r, true) } } : State).jobStep))) ∧
    (s.takes c 0x4002 (leBytes r 2) = true →
      ((s.protRegion r).st = .empty →
        exec (.protRelease c g r) s = .next (s.after (.protRelease c g r) (State.ending c 0x4002 g (leBytes r 2) 0 id))) ∧
      ((s.protRegion r).st = .staged →
        exec (.protRelease c g r) s = .next (s.after (.protRelease c g r) (State.ending c 0x4002 g (leBytes r 2) 0 fun s =>
          s.modProtRegion r fun x => { x with st := .empty, staged1 := 0, staged0 := 0 }))) ∧
      ((s.protRegion r).st = .active → s.prot.st = .enabled → (s.protRegion r).reknitting = false → s.rootBound r = false →
        s.retiredOver (pdBase (s.protRegion r).desc1) (pdSize (s.protRegion r).desc1) = false →
        exec (.protRelease c g r) s = .next (s.after (.protRelease c g r) (State.running c 0x4002 g (leBytes r 2) fun t s =>
          ({ s with prot := { s.prot with job := some (t, r, false) } } : State).jobStep)))) ∧
    (s.takes c 0x4003 (leBytes r 2 ++ leBytes k 2) = true → (s.protRegion r).st = .active → s.prot.reknitRoot = none →
      (s.keySlot k).st = .fresh →
      exec (.protReknit c g r k) s = .next (s.after (.protReknit c g r k) (State.ending c 0x4003 g (leBytes r 2 ++ leBytes k 2) 1 fun s =>
        let s' := (s.modProtRegion r fun x => { x with reknitting := true, newSlot := k, needle := s.regBase r }).modKeySlot k fun x =>
          { x with st := .bound, root := some r }
        { s' with prot := { s'.prot with
            reknitRoot := some r, rkNext := s.regBase r, watch := [], needleAt := s.now, stallLogged := false } }))) ∧
    (s.takes c 0x4004 [] = true →
      (s.prot.st = .enabled → exec (.protEnable c g) s = .next (s.after (.protEnable c g) (State.ending c 0x4004 g [] 0 id))) ∧
      (s.prot.st = .flushing → s.prot.deferredEnable = false →
        exec (.protEnable c g) s = .next (s.after (.protEnable c g) (State.ending c 0x4004 g [] 2 fun s =>
          { s with prot := { s.prot with deferredEnable := true } }))) ∧
      (s.prot.st = .flushing → s.prot.deferredEnable = true →
        exec (.protEnable c g) s = .next (s.after (.protEnable c g) (State.ending c 0x4004 g [] 0x4017 id))) ∧
      (s.prot.st = .disabled → exec (.protEnable c g) s = .next (s.after (.protEnable c g) (State.ending c 0x4004 g [] 0 (·.protOn))))) ∧
    (s.takes c 0x4005 [] = true →
      (s.prot.st = .enabled → (s.tenant.regions.any fun (g : Nat × Region) => g.2.st == .active && rdProtect g.2.desc1) = false →
        s.prot.reknitRoot = none →
        exec (.protDisable c g) s = .next (s.after (.protDisable c g) (State.ending c 0x4005 g [] 1 fun s =>
          ({ s with prot := { s.prot with st := .flushing } } : State).flushNodes))) ∧
      (s.prot.st = .flushing → exec (.protDisable c g) s = .next (s.after (.protDisable c g) (State.ending c 0x4005 g [] 1 fun s =>
        { s with prot := { s.prot with deferredEnable := false } }))) ∧
      (s.prot.st = .disabled → exec (.protDisable c g) s = .next (s.after (.protDisable c g) (State.ending c 0x4005 g [] 0 id)))) ∧
    (∀ (key : List Byte), key.length = 97 → s.takes c 0x4006 key = true →
      (∀ p, parsePoint key = some p →
        exec (.kekEstablish c g key) s = .next (s.after (.kekEstablish c g key) (State.ending c 0x4006 g key 0 fun s =>
          { s with prot := { s.prot with kek := some (ecdhKek p) } }))) ∧
      (parsePoint key = none →
        exec (.kekEstablish c g key) s = .next (s.after (.kekEstablish c g key) (State.ending c 0x4006 g key 0x4020 id)))) ∧
    (s.takes c 0x4007 [] = true →
      exec (.kekClear c g) s = .next (s.after (.kekClear c g) (State.ending c 0x4007 g [] 0 fun s =>
        { s with prot := { s.prot with kek := none } }))) ∧
    (∀ (wrapped : List Byte), wrapped.length = 40 → s.takes c 0x4008 (leBytes k 2 ++ wrapped) = true →
      ((s.keySlot k).st ≠ .empty →
        exec (.keyLoad c g k wrapped) s =
          .next (s.after (.keyLoad c g k wrapped) (State.ending c 0x4008 g (leBytes k 2 ++ wrapped) 0x4023 id))) ∧
      ((s.keySlot k).st = .empty → s.prot.kek = none →
        exec (.keyLoad c g k wrapped) s =
          .next (s.after (.keyLoad c g k wrapped) (State.ending c 0x4008 g (leBytes k 2 ++ wrapped) 0x4021 id))) ∧
      (∀ kek, (s.keySlot k).st = .empty → s.prot.kek = some kek → keyUnwrap kek wrapped = none →
        exec (.keyLoad c g k wrapped) s =
          .next (s.after (.keyLoad c g k wrapped) (State.ending c 0x4008 g (leBytes k 2 ++ wrapped) 0x4022 (·.raise 0x600F .note (.count k 0))))) ∧
      (∀ kek key, (s.keySlot k).st = .empty → s.prot.kek = some kek → keyUnwrap kek wrapped = some key →
        exec (.keyLoad c g k wrapped) s =
          .next (s.after (.keyLoad c g k wrapped) (State.ending c 0x4008 g (leBytes k 2 ++ wrapped) 0 fun s =>
            (s.modKeySlot k fun x => { x with st := .fresh, key := key, root := none }).slotWritten k)))) ∧
    (s.takes c 0x4009 (leBytes k 2) = true →
      ((s.keySlot k).st = .bound →
        exec (.keyErase c g k) s = .next (s.after (.keyErase c g k) (State.ending c 0x4009 g (leBytes k 2) 0x4024 id))) ∧
      ((s.keySlot k).st ≠ .bound →
        exec (.keyErase c g k) s = .next (s.after (.keyErase c g k) (State.ending c 0x4009 g (leBytes k 2) 0 fun s =>
          (s.modKeySlot k fun _ => {}).slotWritten k))))

/-- The management, canal, link and start-up commands: NOP only ends with DONE (R406), CANAL_SET sends a shared setting to the members for an instant 200 µs ahead (R371), CANAL_LEAVE and CANAL_JOIN change what the device is in the canal (R366, R368), LINK_RETRAIN takes a link down to train again, STARTUP_DONE closes the window and is refused outside it (R419), and WARM_RESET is ACCEPTED and quiesces the device (R422). -/
def Obligations.ManagementCommands : Prop :=
  ∀ (s : State) (c : Client) (g : Nat), cmdOk c g = true →
    (s.takes c 0x1001 [] = true → exec (.nop c g) s = .next (s.after (.nop c g) (State.ending c 0x1001 g [] 0 id))) ∧
    (∀ (index sub : Nat) (v : BitVec 64), index < 2 ^ 16 → sub < 2 ^ 8 →
      s.takes c 0x1201 (leBytes index 2 ++ leBytes sub 2 ++ leBytes v.toNat 8) = true → s.canal.pending = none →
      sharedObjects.contains (index, sub) = true →
      (∃ d, objDef index sub = some d ∧ d.lo ≤ v.toNat ∧ v.toNat ≤ d.hi) →
      exec (.canalSet c g index sub v) s =
        .next (s.after (.canalSet c g index sub v) (State.running c 0x1201 g (leBytes index 2 ++ leBytes sub 2 ++ leBytes v.toNat 8) fun t s =>
          (s.canal.active.filter (· != s.deviceNumber)).foldl
            (fun x d => x.sendMgmt d mkCanalSet [index, sub, v.toNat, s.canalTime + 800000])
            { s with canal := { s.canal with set := some {
                ticket := t, index := index, sub := sub, value := v.toNat, instant := s.canalTime + 800000
                unconfirmed := s.canal.active.filter (· != s.deviceNumber), started := s.now } } }))) ∧
    (s.takes c 0x1202 [] = true → s.canal.pending = none →
      exec (.canalLeave c g) s = .next (s.after (.canalLeave c g) (State.ending c 0x1202 g [] 0 fun s =>
        let s' := ({ s with canal := { s.canal with left := true } } : State).tellNeighbours mkDeparture [s.deviceNumber, 4]
        if s'.canal.member == .active then
          (if s'.canal.leader == s.deviceNumber then s'.announce (s'.canal.active.filter (· != s.deviceNumber)) else s')
        else { s' with canal := { s'.canal with member := .departed } }))) ∧
    (s.takes c 0x1203 [] = true → s.canal.pending = none →
      exec (.canalJoin c g) s = .next (s.after (.canalJoin c g) (State.ending c 0x1203 g [] 0 fun s =>
        { s with canal := { s.canal with left := false, member := if s.canal.member == .active then .active else .joining } }))) ∧
    (∀ (l : Nat), l < 128 → s.takes c 0x5201 (leBytes l 1) = true →
      exec (.linkRetrain c g l) s = .next (s.after (.linkRetrain c g l) (State.ending c 0x5201 g (leBytes l 1) 0 fun s =>
        if (s.linkAt l).st == .disabled then s else (s.goDown l).modLink l fun k => { k with retryAt := s.now }))) ∧
    (s.takes c 0x6002 [] = true →
      (s.power.windowOpen = true →
        exec (.startupDone c g) s = .next (s.after (.startupDone c g) (State.ending c 0x6002 g [] 0 (·.closeWindow)))) ∧
      (s.power.windowOpen = false →
        exec (.startupDone c g) s = .next (s.after (.startupDone c g) (State.ending c 0x6002 g [] 0x0015 id)))) ∧
    (s.takes c 0x6001 [] = true →
      exec (.warmReset c g) s = .next (s.after (.warmReset c g) (State.running c 0x6001 g [] fun t s =>
        let s' := (s.endCmd t 1).raise 0xB001 .note
        ({ s' with
            power := { s'.power with device := .warmResetting, warmAt := s'.now, warmDrained := false }
            mgmt := { s'.mgmt with clients := [], selLost := [], inbox := [] } } : State).stopWork)))

/-- CMD_SUBMIT holds the record that a client writes under a ticket and answers with it, or with NO_RESOURCE when 64 commands are held (R402, R403), and COMMAND_ACCEPT starts the oldest command whose turn has come (R403). -/
def Obligations.CommandEntry : Prop :=
  ∀ (s : State), s.awake →
    (∀ (c : Client) (record : List Byte), c.ok = true → 16 ≤ record.length → record.length ≤ 1024 →
      record.length ≤ frameLimit c.transport → s.mayWrite c 0x1F00 1 none = true →
      exec (.cmdSubmit c record) s = .next (s.after (.cmdSubmit c record) fun s =>
        match (s.touchClient c).submitCommand (clientKey c) (busBit c.transport) record with
        | (t, some n) => t.reply c.transport (writeHeader c 0x1F00 1 record.length) { kind := 0xA, arg := n }
        | (t, none) => t.reply c.transport (writeHeader c 0x1F00 1 record.length) (.abort abortNoResource))) ∧
    (∀ (c : Cmd), s.mgmt.cmds.find? s.mayStart = some c → (s.power.windowOpen = true → runsInWindow c.opcode = true) →
      exec .commandAccept s = .next (s.after .commandAccept fun s =>
        ({ s with mgmt := { s.mgmt with
            cmds := mapIf (·.ticket == c.ticket) (fun d => { d with running := true, accepted := s.now, acceptedCanal := s.canalTime })
              s.mgmt.cmds } } : State).startCommand c))

/-! ### Objects that clients write -/

/-- The writes of tenancy, cache and power objects that nothing bars complete with their effect and WRITE_RSP: CTX_ENTRY within its ranges and reserves takes its value, in its record of the firmware tables too, and the requests that wait are classified anew (R34, R307), CTX_PEAK restarts at the slots held (R319), WB_HIGH_WATER at the entries buffered, PORT_SUSPECT is cleared (R129), LOOKASIDE_FLUSH purges every lookaside buffer and is answered when its drain ends (R45), POWER_CAP is taken when no chart needs more banks (R187), ROW_SELECT and ROW_SOURCE latch the row that the client has selected (R199, R386), and a leak interval starts its grid anew (R78, R283). -/
def Obligations.TenancyWrites : Prop :=
  ∀ (s : State) (c : Client), c.ok = true →
    (∀ (n : Nat) (w : Word128), n < 16384 → s.mayWrite c 0x2000 2 (some (0x2000, n)) = true → ctxBudget (ctxNormal n w) ≤ 32768 →
      (ctxValid (ctxNormal n w) = true → ctxGuarantee (ctxNormal n w) ≤ ctxBudget (ctxNormal n w)) →
      (s.touchClient c).tenant.ctx.foldl
          (fun m (p : Nat × Word128) => if p.1 != n && ctxValid p.2 then m + ctxGuarantee p.2 else m) 0 +
        (if ctxValid (ctxNormal n w) then ctxGuarantee (ctxNormal n w) else 0) ≤ 32768 - (s.touchClient c).inEffect 0x4400 5 →
      exec (.ctxEntry c n w) s = .next (s.after (.ctxEntry c n w) (State.wrote c 0x2000 2 (leBytes w.toNat 16) fun s =>
        let s := s.writeRecordWord (ctxRecord n)
        ({ s with tenant := { s.tenant with ctx := Table.set (ctxNormal n 0) s.tenant.ctx n (ctxNormal n w) } } : State).reclassify n))) ∧
    (∀ (n : Nat), n < 16384 → s.mayWrite c 0x4410 4 (some (0x4410, n)) = true →
      exec (.ctxPeak c n 0) s = .next (s.after (.ctxPeak c n 0) (State.wrote c 0x4410 4 (leBytes 0 2) fun s =>
        s.modAcct n fun a => { a with peak := a.held }))) ∧
    (∀ (k : Nat), k < 64 → s.mayWrite c 0x2210 5 (some (0x2210, k)) = true →
      exec (.wbHighWater c k 0) s = .next (s.after (.wbHighWater c k 0) (State.wrote c 0x2210 5 (leBytes 0 1) fun s =>
        s.modSlice k fun x => { x with wbHigh := x.writeBuf.length }))) ∧
    (∀ (p : Nat), p < 128 → s.mayWrite c 0x2420 4 (some (0x2420, p)) = true →
      exec (.portSuspectClear c p 0) s = .next (s.after (.portSuspectClear c p 0) (State.wrote c 0x2420 4 (leBytes 0 1) fun s =>
        s.modPort p fun x => { x with suspect := false }))) ∧
    (s.mayWrite c 0x2020 2 none = true →
      exec (.lookasideFlush c 1) s = .next (s.after (.lookasideFlush c 1) fun s =>
        (s.touchClient c).flushLookaside (some (c, writeHeader c 0x2020 2 1)))) ∧
    (∀ (v : Nat), 1 ≤ v → v ≤ 32 → s.mayWrite c 0x3000 4 none = true →
      ((s.touchClient c).search.charts.any fun (p : Nat × Chart) =>
        p.1 != 0 && (p.2.st == .valid || p.2.st == .moving) && decide (v < banksPerGroup p.2.desc1)) = false →
      exec (.powerCap c v) s = .next (s.after (.powerCap c v) (State.wrote c 0x3000 4 (leBytes v 1) (·.setReg 0x3000 4 v)))) ∧
    (∀ (v : Nat), v ≤ 0x1FFFFF → s.mayWrite c 0x3030 1 none = true →
      exec (.rowSelect c false v) s = .next (s.after (.rowSelect c false v) (State.wrote c 0x3030 1 (leBytes v 4) fun s =>
        (s.modClient c fun x => { x with selects := Table.set 0 x.selects (0x3030 * 256 + 1) v }).latchRow (clientKey c) v))) ∧
    (∀ (v : Nat), v ≤ 1 → s.mayWrite c 0x3030 2 none = true →
      exec (.rowSelect c true v) s = .next (s.after (.rowSelect c true v) (State.wrote c 0x3030 2 (leBytes v 1) fun s =>
        ({ s with search := { s.search with rowSource := v } } : State).latchRow (clientKey c) (s.selOf c 0x3030 1)))) ∧
    (∀ (n v : Nat), n < 15 → 1 ≤ v → v ≤ 0x36EE80 → s.mayWrite c 0x4211 3 (some (0x4211, n)) = true →
      exec (.leakIntervalWrite c (some n) v) s =
        .next (s.after (.leakIntervalWrite c (some n) v) (State.wrote c 0x4211 3 (leBytes v 4) fun s =>
          (s.setRegAt 0x4211 3 n v).restartGrid n))) ∧
    (∀ (v : Nat), 1 ≤ v → v ≤ 0x186A0 → s.mayWrite c 0x2230 2 none = true →
      exec (.leakIntervalWrite c none v) s =
        .next (s.after (.leakIntervalWrite c none v) (State.wrote c 0x2230 2 (leBytes v 4) fun s => (s.setReg 0x2230 2 v).restartGrid 15)))

/-- The writes of fault-handling objects that nothing bars complete with their effect and WRITE_RSP: ALERT_ACK releases ALERT_N when its number covers every record that asserted it (R299), FAULT_SUMMARY_CLEAR and FATAL_LOG_CLEAR empty what they name (R303), INJECT_BUCKET takes a structure that can be injected, and INJECT_ARM arms when injection is enabled and the kind fits the structure's code (R292), and SCRUB_ENABLE takes its value. -/
def Obligations.FaultWrites : Prop :=
  ∀ (s : State) (c : Client), c.ok = true →
    (∀ (v : Nat), v < 2 ^ 32 → s.mayWrite c 0x7030 3 none = true →
      exec (.alertAck c v) s = .next (s.after (.alertAck c v) (State.wrote c 0x7030 3 (leBytes v 4) fun s =>
        if s.ras.alertSeq ≤ v then { s with ras := { s.ras with alertN := false, alertSeq := 0 } } else s))) ∧
    (s.mayWrite c 0x7000 2 none = true →
      exec (.faultSummaryClear c 1) s = .next (s.after (.faultSummaryClear c 1) (State.wrote c 0x7000 2 (leBytes 1 1) fun s =>
        { s with ras := { s.ras with summary := 0 } }))) ∧
    (s.mayWrite c 0x7002 4 none = true →
      exec (.fatalLogClear c 1) s = .next (s.after (.fatalLogClear c 1) (State.wrote c 0x7002 4 (leBytes 1 1) fun s =>
        { s with ras := { s.ras with fatalLog := [] } }))) ∧
    (s.mayWrite c 0x4230 4 none = true → (s.touchClient c).inEffect 0x4230 1 ≠ 0 →
      kindFits ((s.touchClient c).reg 0x4230 2) ((s.touchClient c).reg 0x4230 3) = true →
      exec (.injectArm c 1) s = .next (s.after (.injectArm c 1) (State.wrote c 0x4230 4 (leBytes 1 1) fun s =>
        { s with ras := { s.ras with injectState := 1 } }))) ∧
    (∀ (b : Nat), b ≤ 0x176 → injectable b = true → s.mayWrite c 0x4230 2 none = true →
      exec (.injectBucket c b) s = .next (s.after (.injectBucket c b) (State.wrote c 0x4230 2 (leBytes b 2) (·.setReg 0x4230 2 b)))) ∧
    (∀ (v : Nat), v ≤ 1 → s.mayWrite c 0x4200 2 none = true →
      exec (.scrubEnable c v) s = .next (s.after (.scrubEnable c v) (State.wrote c 0x4200 2 (leBytes v 1) (·.setReg 0x4200 2 v))))

/-- QUEUE_CONTROL and DUMP_CONTROL complete by the state of what they name: ENABLE of a DISABLED queue whose rings and context check makes it ACTIVE, DISABLE of an ACTIVE or RECOVERY queue makes it DRAINING with its entries and the stores that it has not yet issued aborted, RESET of a HALTED queue without entries restarts it (R136, R137); ENABLE and DISABLE of a dump ring outside the window act on the ring (R322), and DUMP_HEAD moves HEAD within the records present (R325). -/
def Obligations.QueueAndRingWrites : Prop :=
  ∀ (s : State) (c : Client) (q r : Nat), c.ok = true → q < 4096 → r < 16 →
    (s.mayWrite c 0x2600 4 (some (0x2600, q)) = true →
      (((s.touchClient c).queueAt q).st = .disabled → (s.touchClient c).enableOk q = true →
        exec (.queueEnable c q) s = .next (s.after (.queueEnable c q) (State.wrote c 0x2600 4 [1] (·.enterActive q)))) ∧
      (((s.touchClient c).queueAt q).st = .active ∨ ((s.touchClient c).queueAt q).st = .recovery →
        exec (.queueEnable c q) s = .next (s.after (.queueEnable c q) (State.wrote c 0x2600 4 [1] id))) ∧
      (((s.touchClient c).queueAt q).st = .active ∨ ((s.touchClient c).queueAt q).st = .recovery →
        exec (.queueDisable c q) s = .next (s.after (.queueDisable c q) (State.wrote c 0x2600 4 [2] fun s =>
          ((s.modQueue q fun x => { x with
              st := .draining
              recoveryFlag := if x.st = .recovery then false else x.recoveryFlag
              entries := x.entries.map QEntry.abort
              stores := x.stores.filter (·.issued) }).modQueue q fun x => { x with
                entries := mapIf (fun e => e.stopped && e.out.isEmpty && e.copied.isEmpty && !e.ended)
                  (fun e => { e with ended := true, detail := BitVec.ofNat 64 (e.done * 2 ^ 32) }) x.entries }).post q))) ∧
      (((s.touchClient c).queueAt q).st = .disabled ∨ ((s.touchClient c).queueAt q).st = .halted →
        exec (.queueDisable c q) s = .next (s.after (.queueDisable c q) (State.wrote c 0x2600 4 [2] id))) ∧
      (((s.touchClient c).queueAt q).st = .disabled →
        exec (.queueReset c q) s = .next (s.after (.queueReset c q) (State.wrote c 0x2600 4 [3] (·.modQueue q Queue.restart)))) ∧
      (((s.touchClient c).queueAt q).st = .halted → ((s.touchClient c).queueAt q).entries = [] →
        exec (.queueReset c q) s = .next (s.after (.queueReset c q) (State.wrote c 0x2600 4 [3] (·.modQueue q Queue.restart))))) ∧
    (s.mayWrite c 0x4621 3 (some (0x4621, r)) = true → s.power.windowOpen = false →
      (((s.touchClient c).ringEnable r).isSome = true →
        exec (.dumpEnable c r) s = .next (s.after (.dumpEnable c r) (State.wrote c 0x4621 3 [1] fun s => (s.ringEnable r).getD s))) ∧
      exec (.dumpDisable c r) s = .next (s.after (.dumpDisable c r) (State.wrote c 0x4621 3 [2] (·.ringDisable r)))) ∧
    (∀ (v : BitVec 32), s.mayWrite c 0x4621 5 (some (0x4621, r)) = true →
      exec (.dumpHead c r v) s = .next (s.after (.dumpHead c r v) (State.wrote c 0x4621 5 (leBytes v.toNat 4) (·.moveHead r v.toNat))))

/-- The writes of port, pool target and link objects that nothing bars complete with their effect and WRITE_RSP: PORT_CONTROL DISABLE runs the per-port reset of an enabled port (R332, R338), PORT_CONFIG of a disabled port and QUAD_ROLE of a free quad are taken (R331, R332), TARGET_DESC of a free target (R341), LINK_ENABLE powers a link down or up to train; and every other object that its own rule accepts is written as R383 says. -/
def Obligations.LinkWrites : Prop :=
  ∀ (s : State) (c : Client), c.ok = true →
    (∀ (p : Nat), p < 128 → s.mayWrite c 0x5001 7 (some (0x5001, p)) = true →
      (pcEnable ((s.touchClient c).port p).cfg = true → ((s.touchClient c).port p).st ≠ .resetting →
        exec (.portControlDisable c p 2) s =
          .next (s.after (.portControlDisable c p 2) (State.wrote c 0x5001 7 (leBytes 2 1) (·.portDown p 0 0x9002 .note false true)))) ∧
      (pcEnable ((s.touchClient c).port p).cfg = true → ((s.touchClient c).port p).st = .resetting →
        exec (.portControlDisable c p 2) s =
          .next (s.after (.portControlDisable c p 2) (State.wrote c 0x5001 7 (leBytes 2 1) fun s =>
            s.modPort p fun x => { x with disabling := true })))) ∧
    (∀ (p : Nat) (w : BitVec 32), p < 128 → s.mayWrite c 0x5001 2 (some (0x5001, p)) = true →
      pcEnable ((s.touchClient c).port p).cfg = false → pcWidth (setFld w 0 18 0) ≠ 3 → pcMaxSpeed (setFld w 0 18 0) ≠ 3 →
      (pcEnable (setFld w 0 18 0) = true → (s.touchClient c).portConfigOk p (setFld w 0 18 0) = true) →
      exec (.portConfig c p w) s = .next (s.after (.portConfig c p w) (State.wrote c 0x5001 2 (leBytes w.toNat 4) fun s =>
        s.modPort p fun x => { x with cfg := setFld w 0 18 0, st := if pcEnable (setFld w 0 18 0) then .down else .disabled }))) ∧
    (∀ (q v : Nat), q < 128 → v ≤ 2 → s.mayWrite c 0x5000 2 (some (0x5000, q)) = true → (s.touchClient c).quadUser q = none →
      exec (.quadRole c q v) s = .next (s.after (.quadRole c q v) (State.wrote c 0x5000 2 (leBytes v 1) fun s =>
        { s with link := { s.link with quads := Table.set 0 s.link.quads q v } }))) ∧
    (∀ (t : Nat) (w : Word128), t < 256 → s.mayWrite c 0x5101 2 (some (0x5101, t)) = true →
      (ptValid (Table.get 0 (s.touchClient c).link.targets t) = true → (s.touchClient c).targetUsed t = false) →
      ptReserved w = false → (ptValid w = true → (s.touchClient c).targetOk t w = true) →
      exec (.targetDesc c t w) s = .next (s.after (.targetDesc c t w) (State.wrote c 0x5101 2 (leBytes w.toNat 16) fun s =>
        { s with link := { s.link with targets := Table.set 0 s.link.targets t w } }))) ∧
    (∀ (l : Nat), l < 128 → s.mayWrite c 0x5200 8 (some (0x5200, l)) = true →
      exec (.linkEnable c l 0) s = .next (s.after (.linkEnable c l 0) (State.wrote c 0x5200 8 (leBytes 0 1) fun s =>
        let s := s.modLink l fun k => { k with enabled := false }
        if (s.linkAt l).st == .disabled then s else s.linkLeaves l .disabled 0)) ∧
      exec (.linkEnable c l 1) s = .next (s.after (.linkEnable c l 1) (State.wrote c 0x5200 8 (leBytes 1 1) fun s =>
        let s := s.modLink l fun k => { k with enabled := true }
        if (s.linkAt l).st == .disabled && s.linkUsable l then s.modLink l fun k => { k with st := .down, retryAt := s.now } else s))) ∧
    (∀ (index sub : Nat) (data : List Byte) (t : State), index < 2 ^ 16 → sub < 2 ^ 8 → data.length ≤ 240 →
      s.mayWrite c index sub none = true → ¬ (index = 0x1F00 ∧ sub = 1) → ¬ (index = 0x2020 ∧ sub = 2) →
      (({ s with pending := [], out := [] } : State).touchClient c).checkedWrite c
        ((({ s with pending := [], out := [] } : State).touchClient c).selOf c) index sub data = .ok t →
      exec (.objectWrite c index sub data) s = .next (s.after (.objectWrite c index sub data) fun _ =>
        t.reply c.transport (writeHeader c index sub data.length) { kind := 0xA }))

/-! ### Frames, mailboxes, MCTP and field buses -/

/-- The frame rows complete: FRAME_READ of a readable object that fits one frame answers its value (R392), a FRAME_WRITE that the object accepts is answered with WRITE_RSP, SEG_READ of an open transfer answers the bytes asked for (R389), the first SEG_WRITE of a submission opens a transfer with its data (R388), SEG_CANCEL of an open transfer closes it (R390), and the timers of transfers and of duplicate records end what they name (R390, R396). -/
def Obligations.FrameRows : Prop :=
  ∀ (s : State) (tr : Transport) (h : Word128) (data : List Byte) (t : State), tr.ok = true →
    (∀ (b : List Byte), s.mayServe { transport := tr, header := h } = true → fhKind h = 1 → b.length ≤ frameLimit tr →
      (s.found ⟨tr, fhClient h⟩).checkedRead ⟨tr, fhClient h⟩ ((s.found ⟨tr, fhClient h⟩).selOf ⟨tr, fhClient h⟩) (fhIndex h) (fhSub h) = (t, .ok b) →
      exec (.frameRead tr h) s = .next (s.after (.frameRead tr h) fun _ => t.reply tr h { kind := 9, data := b })) ∧
    (s.mayServe { transport := tr, header := h, data := data } = true → fhKind h = 2 → fhSeq h = 0 →
      ¬ (fhIndex h = 0x1F00 ∧ fhSub h = 1) → ¬ (fhIndex h = 0x2020 ∧ fhSub h = 2) →
      (s.found ⟨tr, fhClient h⟩).checkedWrite ⟨tr, fhClient h⟩ ((s.found ⟨tr, fhClient h⟩).selOf ⟨tr, fhClient h⟩) (fhIndex h) (fhSub h) data = .ok t →
      exec (.frameWrite tr h data) s = .next (s.after (.frameWrite tr h data) fun _ => t.reply tr h { kind := 0xA })) ∧
    (∀ (x : Transfer), s.mayServe { transport := tr, header := h } = true → fhKind h = 3 →
      (s.found ⟨tr, fhClient h⟩).segmentBarred { transport := tr, header := h } ((s.found ⟨tr, fhClient h⟩).selOf ⟨tr, fhClient h⟩) false = none →
      (s.found ⟨tr, fhClient h⟩).transferOf ⟨tr, fhClient h⟩ (fhIndex h) (fhSub h) = some x →
      exec (.segRead tr h) s = .next (s.after (.segRead tr h) fun _ =>
        let r := (s.found ⟨tr, fhClient h⟩).answerSegment { transport := tr, header := h } x
        r.1.reply tr h r.2)) ∧
    (s.mayServe { transport := tr, header := h, data := data } = true → fhKind h = 4 → fhSeq h = 0 → fhFlags h = 0 → fhArg h = 0 →
      data.length ≤ 1024 →
      (s.found ⟨tr, fhClient h⟩).segmentBarred { transport := tr, header := h, data := data }
        ((s.found ⟨tr, fhClient h⟩).selOf ⟨tr, fhClient h⟩) true = none →
      (s.found ⟨tr, fhClient h⟩).transferOf ⟨tr, fhClient h⟩ (fhIndex h) (fhSub h) = none →
      (s.found ⟨tr, fhClient h⟩).transferRoom ⟨tr, fhClient h⟩ = true →
      exec (.segWrite tr h data) s = .next (s.after (.segWrite tr h data) fun _ =>
        ((s.found ⟨tr, fhClient h⟩).putTransfer ⟨tr, fhClient h⟩
          { index := fhIndex h, sub := fhSub h, write := true, bytes := data, lastOffset := 0, touched := s.now }).reply tr h { kind := 0xC })) ∧
    (∀ (x : Transfer), s.mayServe { transport := tr, header := h } = true → fhKind h = 5 → fhSeq h = 0 →
      (s.found ⟨tr, fhClient h⟩).segmentBarred { transport := tr, header := h }
        ((s.found ⟨tr, fhClient h⟩).selOf ⟨tr, fhClient h⟩) (fhIndex h == 0x1F00) = none →
      (s.found ⟨tr, fhClient h⟩).transferOf ⟨tr, fhClient h⟩ (fhIndex h) (fhSub h) = some x →
      exec (.segCancel tr h) s = .next (s.after (.segCancel tr h) fun _ =>
        ((s.found ⟨tr, fhClient h⟩).closeTransfer ⟨tr, fhClient h⟩ (fhIndex h) (fhSub h)).reply tr h { kind := 0xD })) ∧
    (∀ (c : Client) (i j : Nat) (x : Transfer), c.ok = true → i < 2 ^ 16 → j < 2 ^ 8 → s.awake → s.transferOf c i j = some x →
      (x.touched + s.reg 0x1100 3 * 1000000 ≤ s.now →
        exec (.segTimeout c i j) s = .next (s.after (.segTimeout c i j) fun s => (s.closeTransfer c i j).raise 0x1002 .note)) ∧
      (∀ (at_ : Nat), x.lastSent = some at_ → at_ + 1000000000 ≤ s.now →
        exec (.segReadClose c i j) s = .next (s.after (.segReadClose c i j) (·.closeTransfer c i j)))) ∧
    (∀ (c : Client) (q : Nat), c.ok = true → q < 2 ^ 16 → s.awake →
      exec (.objDedupExpiry c q) s = .next (s.after (.objDedupExpiry c q) fun s => s.modClient c fun x =>
        { x with records := x.records.filter fun r => !(r.seq == q && r.response.isSome && decide (r.at_ + s.dedupHold ≤ s.now)) }))

/-- The mailbox commands of a port that is heard answer as R400 tables: the output leaves with its return code, and the interrupt policy is the one thing that they set. -/
def Obligations.MailboxCommands : Prop :=
  ∀ (s : State) (p : Nat), p < 128 → s.awake → s.hears (.mailbox p) = true →
    (∀ (b : List Byte), b.length < 16 →
      exec (.objectFrame p b) s = .next (s.after (.objectFrame p b) (·.emit (.mailbox p mboxLength [])))) ∧
    (∀ (b : List Byte), 16 ≤ b.length →
      Frame.whole { transport := .mailbox p, header := BitVec.ofNat 128 (ofLe (b.take 16)), data := b.drop 16 } = true →
      exec (.objectFrame p b) s = .next (s.after (.objectFrame p b) (·.frameArrives
        { transport := .mailbox p, header := BitVec.ofNat 128 (ofLe (b.take 16)), data := b.drop 16 }))) ∧
    exec (.identifyDevice p) s = .next (s.after (.identifyDevice p) fun s =>
      (s.freeBytes 6).1.emit (.mailbox p mboxSuccess
        (leBytes Config.vendorId.toNat 2 ++ (s.freeBytes 6).2 ++ leBytes Config.serial.toNat 8 ++ [12, 3]))) ∧
    exec (.backgroundOperationStatus p) s =
      .next (s.after (.backgroundOperationStatus p) (·.emit (.mailbox p mboxSuccess (List.replicate 8 0)))) ∧
    exec (.getEventRecords p) s = .next (s.after (.getEventRecords p) (·.emit (.mailbox p mboxSuccess (List.replicate 32 0)))) ∧
    exec (.clearEventRecords p) s = .next (s.after (.clearEventRecords p) (·.emit (.mailbox p mboxSuccess []))) ∧
    exec (.getEventInterruptPolicy p) s = .next (s.after (.getEventInterruptPolicy p) fun s =>
      s.emit (.mailbox p mboxSuccess (leBytes (s.port p).interruptPolicy.toNat 4))) ∧
    (∀ (v : BitVec 32), exec (.setEventInterruptPolicy p v) s = .next (s.after (.setEventInterruptPolicy p v) fun s =>
      (s.modPort p fun x => { x with interruptPolicy := v }).emit (.mailbox p mboxSuccess []))) ∧
    exec (.getFwInfo p) s = .next (s.after (.getFwInfo p) (·.emit (.mailbox p mboxSuccess
      ([1, 1] ++ List.replicate 14 0 ++ fwRevision ++ List.replicate 48 0)))) ∧
    exec (.transferFw p) s = .next (s.after (.transferFw p) (·.emit (.mailbox p mboxUnsupported []))) ∧
    exec (.activateFw p) s = .next (s.after (.activateFw p) (·.emit (.mailbox p mboxUnsupported []))) ∧
    exec (.getSupportedLogs p) s = .next (s.after (.getSupportedLogs p) (·.emit (.mailbox p mboxSuccess
      (leBytes 1 8 ++ celId ++ leBytes (4 * mboxOpcodes.length) 4)))) ∧
    exec (.getLog p) s = .next (s.after (.getLog p) fun s => s.mboxLog.1.emit (.mailbox p mboxSuccess s.mboxLog.2.2)) ∧
    exec (.identifyMemoryDevice p) s = .next (s.after (.identifyMemoryDevice p) fun s =>
      (s.freeBytes 27).1.emit (.mailbox p mboxSuccess
        (fwRevision ++ leBytes mboxCapacity 8 ++ leBytes mboxCapacity 8 ++ leBytes 0 8 ++ (s.freeBytes 27).2)))

/-- The MCTP control commands and the field buses' packets answer, and the rows of an address or a bus change that address or bus (R398, R399). -/
def Obligations.ManagementTransports : Prop :=
  ∀ (s : State), s.awake →
    (s.hears .i3c = true →
      (∀ (e : BitVec 8), e ≠ 0 → e ≠ 0xFF → exec (.setEndpointId e) s = .next (s.after (.setEndpointId e) fun s =>
        ({ s with mgmt := { s.mgmt with eid := e } } : State).emit (.mctp [0, 0, e, 0]))) ∧
      exec .getEndpointId s = .next (s.after .getEndpointId fun s => s.emit (.mctp [0, s.mgmt.eid, 0, 0])) ∧
      exec .getMctpVersionSupport s = .next (s.after .getMctpVersionSupport fun s =>
        (s.freeBytes 4).1.emit (.mctp ([0, 1] ++ (s.freeBytes 4).2))) ∧
      exec .getMessageTypeSupport s = .next (s.after .getMessageTypeSupport (·.emit (.mctp [0, 1, 0x7E]))) ∧
      exec .getVendorDefinedMessageSupport s = .next (s.after .getVendorDefinedMessageSupport fun s =>
        (s.freeBytes 2).1.emit (.mctp ([0, 0xFF, 0] ++ beBytes Config.vendorId.toNat 2 ++ (s.freeBytes 2).2)))) ∧
    (∀ (a : BitVec 7), exec (.dynamicAddressAssignment a) s =
      .next (s.after (.dynamicAddressAssignment a) fun s => { s with mgmt := { s.mgmt with i3cAddress := a } })) ∧
    (∀ (bus : Bool) (source : Word128), s.hears (busOf bus) = true →
      exec (.neighbourDiscovery bus (busAddress bus) source) s =
        .next (s.after (.neighbourDiscovery bus (busAddress bus) source) (·.emit
          (.ipv6 bus (if source = 0 then allNodes else source) (State.neighbourAdvert bus (source != 0)))))) ∧
    (∀ (bus : Bool) (source : Word128) (b : List Byte), s.hears (busOf bus) = true →
      exec (.icmpv6Echo bus (busAddress bus) source b) s =
        .next (s.after (.icmpv6Echo bus (busAddress bus) source b) (·.emit (.ipv6 bus source ([129, 0] ++ b))))) ∧
    (∀ (bus : Bool), s.mgmt.fbState.getLsbD (bit bus) = true →
      exec (.fieldBusDown bus) s = .next (s.after (.fieldBusDown bus) fun s =>
        ({ s with mgmt := { s.mgmt with fbState := s.mgmt.fbState &&& ~~~BitVec.ofNat 2 (2 ^ bit bus) } } : State).raise
          0x1005 .degraded (.count (bit bus) 0))) ∧
    (∀ (bus : Bool), (s.reg 0x1101 1).testBit (bit bus) = true →
      exec (.fieldBusUp bus) s = .next (s.after (.fieldBusUp bus) fun s =>
        { s with mgmt := { s.mgmt with fbState := s.mgmt.fbState ||| BitVec.ofNat 2 (2 ^ bit bus) } }))


/-! ### The home -/

/-- The steps of the home complete on their occasions: a requester's acknowledgement ends its transaction (R101), a waiting request starts when its sector is free (R102), snoops leave when the holder's dwell is over (R104), a reverse walk that ends snoops what it found (R97), holders that are silent for SNOOP_TIMEOUT are dead (R124), a poison write that succeeds leaves the sector P (R125), a poison write that failed is retried after its interval (R125), the set-recall sweep snoops its next candidate (R127), and the retire walk starts and ends (R99). -/
def Obligations.HomeSteps : Prop :=
  ∀ (s : State) (k dpa port marker : Nat), s.awake → k < 64 → dpa < 2 ^ 45 → port < 128 → marker < 64 →
    (∀ (t : Tracker), s.trackerOf dpa = some t → t.stage = .ack →
      exec (.requesterAck dpa) s = .next (s.after (.requesterAck dpa) (·.endTransaction dpa))) ∧
    (∀ (r : Req), (s.slice k).trackers.find? (s.wayReady k) = none → s.home.poisonWait = [] →
      (s.slice k).blocked.find? (fun r => (s.trackerOf r.dpa).isNone && !s.readsStopped k r &&
        decide ((s.slice k).trackers.length < 128)) = some r →
      exec (.blockedRequestStart k) s = .next (s.after (.blockedRequestStart k) fun s =>
        ((s.modSlice k fun x => { x with blocked := x.blocked.erase r }).startRequest r).refillBlocked k)) ∧
    (∀ (t : Tracker), (s.slice k).trackers.find? (s.wayReady k) = some t →
      exec (.blockedRequestStart k) s = .next (s.after (.blockedRequestStart k) fun s =>
        (s.modTracker t.dpa fun t => { t with stage := .ready }).carryOn t.dpa)) ∧
    (∀ (t : Tracker) (cause : SnoopCause), s.trackerOf dpa = some t → t.stage = .dwell cause →
      s.dwellOver (s.dirEntryOf dpa) = true →
      exec (.dwellElapsed dpa) s = .next (s.after (.dwellElapsed dpa) fun s =>
        (t.snoops.foldl (fun s n => s.sendSnoop (homeSlice dpa) t.dpa n) (s.modTracker dpa fun t => { t with
          stage := .snoop cause, since := s.now, snoops := t.snoops.map fun n => { n with sent := true } })).carryOn dpa)) ∧
    (∀ (w : SnoopWalk),
      s.home.walks.find? (fun w => w.port == port && w.dpa == sectorOf dpa && w.marker == marker) = some w →
      exec (.reverseWalkDone port dpa marker) s =
        .next (s.after (.reverseWalkDone port dpa marker) (·.walkFound port marker w))) ∧
    (∀ (t : Tracker) (cause : SnoopCause), s.trackerOf dpa = some t → t.stage = .snoop cause → s.snoopsDone t = false →
      t.since + s.reg 0x2400 3 * 1000 ≤ s.now →
      exec (.snoopTimeout dpa) s = .next (s.after (.snoopTimeout dpa) (·.holdersDead t cause))) ∧
    (∀ (d : Nat), s.home.poisonDone.find? (·.1 == sectorOf dpa) = some (d, true) → (s.dirEntryOf d).st = .pp →
      exec (.poisonWriteDone dpa) s = .next (s.after (.poisonWriteDone dpa) fun s =>
        let s := { s with home := { s.home with poisonDone := s.home.poisonDone.erase (d, true) } }
        s.putDirEntry d none { s.dirEntryOf d with st := .p })) ∧
    (∀ (d at_ : Nat), s.home.poisonRetry.find? (·.1 == sectorOf dpa) = some (d, at_) → (s.dirEntryOf d).st = .pp →
      at_ + s.reg 0x2400 6 * 1000 ≤ s.now → s.trackerOf d = none → s.wbRoom (homeSlice d) = true →
      exec (.poisonRetry dpa) s = .next (s.after (.poisonRetry dpa) fun s =>
        ({ s with home := { s.home with poisonRetry := s.home.poisonRetry.erase (d, at_) } } : State).sliceWrite (homeSlice d)
          { origin := .poison, cls := .wrNc, dpa := d }
          { data := Config.poisonData d, mask := BitVec.allOnes 64, poison := true })) ∧
    (∀ (set v c : Nat), set < 32768 → Table.get 0 s.home.setRecall (k * 32768 + set) = v + 1 → s.home.lastSetSnoop + 100 ≤ s.now →
      (s.home.revMap.filter fun i => s.homeOf i == s.deviceNumber).foldl (fun m i => minOpt m (candidateIn k set v i)) none = some c →
      s.trackerOf (dirSector k set c) = none → (s.slice k).trackers.length < 128 →
      exec (.setRecallSweepStep k set) s = .next (s.after (.setRecallSweepStep k set) fun s =>
        let d := dirSector k set c
        let s := { s with home := { s.home with
            setRecall := Table.set 0 s.home.setRecall (k * 32768 + set) (c + 2), lastSetSnoop := s.now } }
        let r : Req := { origin := .poison, cls := .invNc, dpa := d, answered := true }
        let s := s.modSlice k fun x => { x with trackers := x.trackers ++ [{ dpa := d, req := r }] }
        (s.beginSnoops k d .sweep .inv (s.memberPositions.map fun p => .all p none) false).carryOn d)) ∧
    (s.home.retireWalk = false → s.home.revMap.any (·.retired) = true →
      exec .retireSweepStart s = .next (s.after .retireSweepStart (·.startRetireWalk))) ∧
    (s.home.retireWalk = true → s.home.sweepSectors = [] →
      (s.slices.any fun (p : Nat × Slice) => p.2.trackers.any fun t => t.stage == .snoop .sweep && t.req.origin == .poison) = false →
      exec .retireSweepDone s = .next (s.after .retireSweepDone fun s => { s with home := { s.home with
        retireWalk := false, revMap := s.home.revMap.filter fun i => !i.inWalk } }))

/-- Answers to snoops, conflicts, and the messages of other homes complete. A BIRsp at a port that was snooped is recorded when its BISnp allows it, marked as blocked where the answer says so, and a BIConflict is answered by the home (R103, R106). A snoop of another home is run on this device's hosts and answered (R97, R98, R351), and its response to a request that was sent to it reaches the requester (R101, R351). -/
def Obligations.SnoopAnswers : Prop :=
  (∀ (s : State) (port hpa : Nat) (b : BiSnp) (blk : Bool), s.awake → port < 128 → hpa < 2 ^ 64 → b.group = 0 →
    s.home.bisnps.find? (fun b => b.port == port && b.hpa == sectorOf hpa && b.answer == 9) = some b →
    (let recorded := fun (code : Nat) (s : State) =>
        ({ s with home := { s.home with bisnps := s.home.bisnps.erase b } } : State).recordAnswer b.dpa
          { pos := s.position, port := port, marker := b.marker }
          (if blk || !answerAllowed b.kind code then 3 else code) false
     exec (.birspi (.port port hpa) blk) s = .next (s.after (.birspi (.port port hpa) blk) (recorded 0)) ∧
     exec (.birsps (.port port hpa) blk) s = .next (s.after (.birsps (.port port hpa) blk) (recorded 1)) ∧
     exec (.birspe (.port port hpa) blk) s = .next (s.after (.birspe (.port port hpa) blk) (recorded 2))) ∧
    exec (.biconflict port hpa) s = .next (s.after (.biconflict port hpa) fun s =>
      s.homeConflict b.dpa { pos := s.position, port := port, marker := b.marker } (.conflict port hpa))) ∧
  (∀ (s : State) (home dpa : Nat) (kind : SnoopKind), s.awake → home < 1024 → dpa < 2 ^ 45 →
    (∀ (port marker : Nat), port < 128 → marker < 64 →
      exec (.forwardedSnoop home kind (.one port marker) dpa) s =
        .next (s.after (.forwardedSnoop home kind (.one port marker) dpa) fun s =>
          let n := s.fresh.1
          let s := s.fresh.2
          (({ s with home := { s.home with peerSnoops := s.home.peerSnoops ++
              [{ id := n, home := home, dpa := sectorOf dpa, whom := .one port marker }] } } : State).snoopLocal port marker
            (sectorOf dpa) home kind n).answerPeerSnoop n)) ∧
    (exec (.forwardedSnoop home kind (.all none) dpa) s =
        .next (s.after (.forwardedSnoop home kind (.all none) dpa) fun s =>
          let n := s.fresh.1
          let s := s.fresh.2
          (({ s with home := { s.home with peerSnoops := s.home.peerSnoops ++
              [{ id := n, home := home, dpa := sectorOf dpa, whom := .all none }] } } : State).snoopAllLocal
            (sectorOf dpa) home kind none n).answerPeerSnoop n)) ∧
    (∀ (tag cmp : Nat) (data : Option Sector) (poison : Bool) (f : Forwarded), tag < 2 ^ 16 →
      (cmp < 4 ∨ 8 ≤ cmp ∧ cmp < 12 ∨ cmp = 0x8101) →
      s.link.forwarded.find? (fun f => f.peer == home && f.tag == tag) = some f →
      exec (.forwardedResponse home tag data poison cmp) s =
        .next (s.after (.forwardedResponse home tag data poison cmp) (·.takeResponse f data poison cmp))))


/-! ### Protection steps -/

/-- The steps of the counter nodes complete on their occasions: node reads that return carry their walk on (R241, R249), a node write-back frees an evicted block, or leaves it clean, or dirty and pinned with event 600C (R245, R251), one that failed is repeated after NODE_RETRY_INTERVAL (R251), a flush with no dirty node left disables protection (R268), and a key slot is restored and the accesses that waited for it go on (R251). -/
def Obligations.NodeSteps : Prop :=
  ∀ (s : State) (r l i : Nat) (b : CcBlock), s.awake →
    (∀ (id : Nat) (w : Walk) (answers : List PoolAnswer), s.prot.walks.find? (·.id == id) = some w → s.metaWaits (.walk id) = false →
      s.power.device ≠ .pfDraining →
      (w.overflow = none → s.walkBlocked w = false →
        exec (.nodeReadResponse id answers) s =
          .next (s.after (.nodeReadResponse id answers) fun s => ((s.walkDoneReads w answers).resumeWalks).jobStep)) ∧
      (∀ (level index : Nat), w.overflow = some (level, index) →
        exec (.nodeReadResponse id answers) s =
          .next (s.after (.nodeReadResponse id answers) fun s => (s.overflowReads w level index answers).jobStep))) ∧
    (s.childWriter r l i = none → s.ccAt r l i = some b → b.writing = true → s.metaWaits (.node r l i) = false →
      exec (.nodeWritebackDone r l i true) s = .next (s.after (.nodeWritebackDone r l i true) fun s =>
        ((if b.evicting then s.ccDrop r l i else s.ccPut r l i { b with writing := false, failed := none, pinned := false }).metaDone
          (.node r l i)).resumeWalks.jobStep)) ∧
    (s.childWriter r l i = none → s.ccAt r l i = some b → b.writing = true → b.failed = none →
      exec (.nodeWritebackDone r l i false) s = .next (s.after (.nodeWritebackDone r l i false) fun s =>
        (((s.ccPut r l i { b with
          writing := false, evicting := false, doomed := false, dirty := true, pinned := true, failed := some s.now }).raise 0x600C .contained
            (.memory 0 0 0 r 0 0)).metaDone (.node r l i)).resumeWalks.jobStep)) ∧
    (∀ (t : Nat), s.childWriter r l i = none → s.ccAt r l i = some b → b.failed = some t → b.writing = false →
      t + s.reg 0x4040 1 * 1000 ≤ s.now →
      exec (.nodeRetry r l i) s = .next (s.after (.nodeRetry r l i) (·.writeBackNode r l i false))) ∧
    (s.prot.st = .flushing → s.prot.cc = [] → s.prot.deferredEnable = false →
      exec .protFlushDone s = .next (s.after .protFlushDone fun s => { s with prot := { s.prot with
        st := .disabled, cc := []
        regions := Table.mapVals {} (fun x => { x with st := if x.st == .active then .dormant else x.st }) s.prot.regions } })) ∧
    (∀ (pound slot : Nat), pound < 2 → slot < 4096 → (s.keySlot slot).restoring = some pound →
      exec (.keySlotRestore pound slot) s = .next (s.after (.keySlotRestore pound slot) fun s =>
        let s := ((s.modKeySlot slot fun x => { x with restoring := none }).setDamage (356 + pound) (2 * slot) 0).setDamage (356 + pound)
          (2 * slot + 1) 0
        let mine (o : PoolOp) : Bool := o.root.any fun r => r % 2 == pound
        let s := (s.prot.ops.filter fun o => mine o && o.stage == .walking && !s.prot.walks.any fun w => w.ops.contains o.id).foldl
          (fun s o => s.afterWalk (o.root.getD 0) .done o.id) s
        (s.releaseHeld mine).jobStep))

/-- The steps of the re-knitting engine complete on their occasions (R258, R260 to R264): a cancelled conversion is read again, the next sector is read under its leaf, a value that is back goes to the home, its write is ordered there or cancelled when the watch is dirty, the write at the needle is encrypted under NEW_SLOT, and a needle that stands still for REKNIT_STALL_LIMIT is reported. -/
def Obligations.ReknitSteps : Prop :=
  ∀ (s : State) (r : Nat), s.awake → s.prot.reknitRoot = some r →
    (∀ (w : WatchEntry), s.engineRoot = some r → s.prot.watch.find? (fun w => !w.reading && w.value.isNone) = some w →
      exec .rkRead s = .next (s.after .rkRead fun s =>
        ({ s with prot := { s.prot with
            watch := mapIf (·.dpa == w.dpa) (fun w => { w with reading := true, dirty := false, watched := false }) s.prot.watch } } : State).sendRkRead w.dpa)) ∧
    (∀ (next : Nat), s.engineRoot = some r → s.prot.watch.find? (fun w => !w.reading && w.value.isNone) = none →
      next = s.prot.rkNext → (s.protRegion r).needle < next → next < s.regEnd r →
      (s.prot.pages.any fun j => j.root == r && j.convert) = false →
      exec .rkRead s = .next (s.after .rkRead (·.rkReadAt r next false))) ∧
    (∀ (dpa : Nat), dpa < 2 ^ 45 →
      exec (.rkValue dpa) s = .next (s.after (.rkValue dpa) fun s => { s with prot := { s.prot with
        watch := mapIf (fun w => w.dpa == sectorOf dpa && w.value.isSome && !w.sent) (fun w => { w with sent := true }) s.prot.watch } })) ∧
    (∀ (dpa : Nat) (w : WatchEntry), dpa < 2 ^ 45 →
      s.prot.watch.find? (fun w => w.dpa == sectorOf dpa && w.sent && !w.ordered) = some w →
      s.wbHolds (homeSlice (sectorOf dpa)) (sectorOf dpa) = false → (s.slice (homeSlice (sectorOf dpa))).mergeBuf = [] →
      s.trackerOf (sectorOf dpa) = none → s.wbRoom (homeSlice (sectorOf dpa)) = true →
      exec (.rkWriteStart dpa) s = .next (s.after (.rkWriteStart dpa) fun s =>
        if w.dirty then
          ({ s with prot := { s.prot with
              watch := mapIf (·.dpa == sectorOf dpa) (fun _ => { dpa := sectorOf dpa }) s.prot.watch } } : State).bump64 0x4030 4
        else s.orderRkWrite (sectorOf dpa) w)) ∧
    (∀ (o : PoolOp) (b : CcBlock), s.engineRoot = some r →
      s.prot.ops.find? (fun o => o.rk && !o.encrypted && o.root == some r && decide (o.dpa ≤ (s.protRegion r).needle) &&
        (o.stage == .toPound || o.stage == .held)) = some o →
      s.prot.rkPace ≤ s.now * 100 → s.pageHeld r (s.regSector r o.dpa) = false → s.underDamage r (s.regSector r o.dpa) = false →
      s.nodeReady r 1 (s.regSector r o.dpa / 64) b = true → s.keyReady (r % 2) (s.protRegion r).newSlot = true →
      (s.protRegion r).st = .active →
      ¬(cbMinor b.bits (s.regSector r o.dpa % 64) = 127 ∧ cbMajor b.bits = 2 ^ 64 - 1) →
      exec .rkWriteEncrypt s = .next (s.after .rkWriteEncrypt (·.encryptRk r o b.bits))) ∧
    (s.reg 0x4030 1 ≠ 0 → s.prot.stallLogged = false → s.prot.needleAt + s.reg 0x4030 2 * 1000000 ≤ s.now →
      exec .reknitStall s = .next (s.after .reknitStall fun s =>
        (({ s with prot := { s.prot with stallLogged := true } } : State).deadlineMiss 7).raise 0x600D .degraded
          (.memory 0 0 0 r 0 0)))

/-! ### Search and table steps -/

/-- The search engine's steps complete: a cycle's free pipes are given out in the order of R191, a result is delivered 28 ns after its issue, and one that is delivered later counts a missed search window before (R192, R293), the group at the head of APPLY is written when nothing fires its banks, with the marks behind it (R193), the mark of a commit makes its chart's descriptor apply (R184), a sweep read reads one row of each bank of an octet (R194), a pass that is not done within SWEEP_PERIOD is reported once (R212), and a chart word is reloaded (R212). -/
def Obligations.SearchSteps : Prop :=
  ∀ (s : State), s.awake →
    (exec .searchIssue s = .next (s.after .searchIssue fun s =>
      let s := s.dropEnded.enterLocal.offerFloors.offerClasses
      if s.sweepBehind then s.sweepOnce else s)) ∧
    (∀ (id q pos part : Nat) (r : SearchRun), s.search.runs.find? (fun r => r.id == id && r.source != SearchFor.cascade 0) = some r →
      r.source = .queue q pos part →
      (s.now = r.issued + 28 →
        exec (.searchResult id) s = .next (s.after (.searchResult id) fun s =>
          ({ s with search := { s.search with runs := s.search.runs.filter (·.id != id) } } : State).toQueue
            { queue := q, pos := pos, part := part, record := some r.result })) ∧
      (r.issued + 28 < s.now →
        exec (.searchResult id) s = .next (s.after (.searchResult id) fun s =>
          (({ s with search := { s.search with runs := s.search.runs.filter (·.id != id) } } : State).windowMissed r.chart s.deviceNumber
            5).toQueue { queue := q, pos := pos, part := part, record := some r.result }))) ∧
    (∀ (g : ApplyGroup) (rest : List ApplyGroup), s.search.groups = g :: rest → s.groupReady g = true → g.applies ≠ [] →
      g.after ≠ .region →
      exec .applyGroupWrite s = .next (s.after .applyGroupWrite fun s =>
        State.passMarks (rest.length + 1) (((s.writeGroup g).count 1538).afterApply g.after))) ∧
    (∀ (c ticket : Nat), (s.chart c).st = .committing → s.search.groups = [{ applies := [], after := .commit c ticket }] →
      exec .applyGroupWrite s = .next (s.after .applyGroupWrite fun s =>
        State.passMarks 1 (((s.writeGroup { applies := [], after := .commit c ticket }).modChart c fun x => { x with
          desc1 := x.staged1, desc0 := withLatency x.staged1 x.staged0, gmap := x.stagedGmap, dmap := x.stagedDmap
          st := .valid, hasStaged := false, members := [] }).endCmd ticket 0))) ∧
    (s.fits 1 ((List.range 8).map (8 * (s.search.sweepPos / 16384) + ·)) = true →
      exec .sweepRead s = .next (s.after .sweepRead (·.sweepOnce)) ∧
      (∃ t, exec .sweepRead s = .next t ∧
        t.search.sweepPos = if s.search.sweepPos + 1 < 262144 then s.search.sweepPos + 1 else 0)) ∧
    (s.search.sweepLate = false → s.search.sweepBegan + s.reg 0x3001 1 * 1000000 ≤ s.now →
      exec .sweepPeriodMiss s = .next (s.after .sweepPeriodMiss fun s =>
        ((({ s with search := { s.search with sweepLate := true } } : State).deadlineMiss 2).bump32 0x3440 3).raise 0x5105 .degraded
          (.count s.search.sweepPos 0))) ∧
    (∀ (chart : Nat), chart < 256 →
      exec (.chartWordReload chart) s = .next (s.after (.chartWordReload chart) fun s =>
        ((s.readRecordWord (chartRecord chart)).modChart chart fun x => { x with badWord := false }).setDamage State.chartStore chart 0))

/-- A table command that is first in its chart's queue starts when its chart runs none, no span command is about to change the chart, and fewer than four charts run one (R203, R210): it is carried out on a VALID chart. -/
def Obligations.TableCommands : Prop :=
  ∀ (s : State) (chart : Nat) (c : TableCmd), s.awake → chart < 256 →
    s.search.cmds.find? (fun c => c.chart == chart && c.phase == .queued) = some c → s.tableRuns chart = false →
    State.spanPending (s.chart chart) = false → s.runningCharts.length < 4 → (s.chart chart).st = .valid →
    let ready (s : State) : State := s.readRecordWord (entryRecord (thEntry c.header))
    (thOp c.header = 1 → exec (.insert chart) s = .next (s.after (.insert chart) fun s => ((ready s).startInsert c).settleCharts)) ∧
    (thOp c.header = 2 → exec (.delete chart) s = .next (s.after (.delete chart) fun s => ((ready s).startDelete c).settleCharts)) ∧
    (thOp c.header = 3 → exec (.modify chart) s = .next (s.after (.modify chart) fun s => ((ready s).startModify c).settleCharts)) ∧
    (thOp c.header = 4 → exec (.readback chart) s = .next (s.after (.readback chart) fun s => ((ready s).startReadback c).settleCharts))

/-- The messages between an owner and the holders of an entry's copies complete: a holder reserves, applies, removes and rewrites copies of an entry that another device owns, once for each tag, and answers a copy of a message as it did the first, a forwarded command joins the queue of its chart, a holder's confirmation carries the command on, one that stays away for 1 ms ends it, a pending update is confirmed, the pending updates are sent again, and a duplicate record is dropped after DEDUP_HOLD (R203 to R209). -/
def Obligations.TableMessages : Prop :=
  ∀ (s : State) (chart owner tag id prio : Nat) (v m : BitVec 512) (d : BitVec 64), s.awake → chart < 256 → owner < 1024 →
    tag < 2 ^ 16 → id < 2 ^ 32 → prio < 2 ^ 20 →
    let known := s.search.subsDone.find? fun r => (r.owner == owner && r.tag == tag) && (r.answer.isNone || decide (s.now < r.ended + 64000))
    let noted (s : State) : State := { s with search := { s.search with
      subsDone := (s.search.subsDone.filter fun r => !(r.owner == owner && r.tag == tag) &&
        (r.answer.isNone || decide (s.now < r.ended + s.reg 0x3400 2 * 1000000))) ++ [{ owner := owner, tag := tag }] } }
    let i (op : SubOp) : Instr := .tableSubOperation owner chart { tag := tag, op := op } id v m prio d
    let e : EntryRec := { chart := chart, value := v &&& m, mask := m, priority := prio, datum := d }
    (known = none → (s.chart chart).st = .valid → id / 2 ^ 22 ≠ s.deviceNumber →
      exec (i .reserve) s = .next (s.after (i .reserve) fun s => (noted s).holderReserve owner tag id e) ∧
      exec (i .apply) s = .next (s.after (i .apply) fun s => (noted s).holderApply owner tag id e (.confirm owner tag chart id)) ∧
      exec (i .remove) s = .next (s.after (i .remove) fun s => (noted s).holderRemove owner tag id) ∧
      exec (i .rewrite) s = .next (s.after (i .rewrite) fun s => (noted s).holderRewrite owner tag id e) ∧
      exec (i .trim) s = .next (s.after (i .trim) fun s => (noted s).holderTrim owner tag id) ∧
      exec (i .discard) s = .next (s.after (i .discard) fun s => (noted s).holderDiscard owner tag id)) ∧
    (∀ (h : BitVec 256), known = none →
      exec (i (.command h)) s = .next (s.after (i (.command h)) fun s =>
        let s := noted s
        s.fresh.2.enqueueTable { id := s.fresh.1, source := .peer owner tag, chart := chart, header := h, value := v, mask := m })) ∧
    (∀ (r : SubRec) (words : List Nat), known = some r → r.answer = some words →
      exec (i .apply) s = .next (s.after (i .apply) (·.sendMgmt owner mkTableConfirm (tag :: words)))) ∧
    (∀ (index rows : Nat) (c : TableCmd), index < 2 ^ 21 → rows < 2 ^ 15 →
      s.search.updates.find? (fun u => u.device == owner && u.tag == tag) = none →
      s.search.cmds.find? (fun c => c.unconfirmed.any fun a => a.device == owner && a.tag == tag) = some c →
      c.forwarded = false → c.phase = .confirming →
      exec (.holderConfirm owner tag true index rows []) s = .next (s.after (.holderConfirm owner tag true index rows []) fun s =>
        ((s.modTable c.id fun k => { k with
          unconfirmed := k.unconfirmed.filter fun a => !(a.device == owner && a.tag == tag) }).progress c.id).settleCharts)) ∧
    (s.search.cmds = [] →
      exec (.holderConfirm owner tag false 0 0 []) s = .next (s.after (.holderConfirm owner tag false 0 0 []) State.settleCharts)) ∧
    (∀ (c : TableCmd),
      s.search.cmds.find? (fun c => c.entry == id && c.phase != .queued && !c.unconfirmed.isEmpty &&
        decide (c.asked + 1000000 ≤ s.now)) = some c → c.forwarded = false →
      (c.phase = .reserving →
        exec (.holderConfirmTimeout id) s =
          .next (s.after (.holderConfirmTimeout id) fun s => ((s.rollBack c).refuseTable c 7).settleCharts)) ∧
      (c.phase = .confirming → thOp c.header = 2 →
        exec (.holderConfirmTimeout id) s = .next (s.after (.holderConfirmTimeout id) fun s =>
          ((((s.raise 0x5108 .contained (.peer ((c.unconfirmed.map (·.device)).headD 0) c.chart 0 c.entry 0)).deleteEntry c.entry).keepUpdates
            c.chart c.entry (c.unconfirmed.map fun a => (a.device, a.op))).refuseTable c 7).settleCharts))) ∧
    (∀ (u : PendingUpdate), s.search.updates = [u] → u.sent + 1000000 ≤ s.now →
      exec .pendingUpdateResend s = .next (s.after .pendingUpdateResend fun s =>
        let s' := s.sendSub u.device u.tag u.op u.entry { s.entryAt u.entry with chart := u.chart }
        { s' with search := { s'.search with
            updates := mapIf (fun u => decide (u.sent + 1000000 ≤ s.now)) (fun u => { u with sent := s.now }) s'.search.updates } })) ∧
    (∀ (client cseq : Nat),
      exec (.dedupRecordExpiry client cseq) s = .next (s.after (.dedupRecordExpiry client cseq) fun s => { s with search := { s.search with
        dedup := s.search.dedup.filter fun d => !(d.client == client && d.cseq.toNat == cseq && d.result.isSome &&
          decide (d.ended + s.reg 0x3400 2 * 1000000 ≤ s.now)) } }))

/-- The steps of a span chart's change complete (R215): a member checks PREPARE and answers, once the table command that runs on the chart has ended (R210), the coordinator takes the answers, aborts what is not whole 5 µs before the instant, the change applies at its instant, and the coordinator waits 45 µs for the members' confirmations. -/
def Obligations.SpanSteps : Prop :=
  ∀ (s : State) (c : Nat) (j : SpanJob), s.awake → c < 256 →
    (∀ (coord g : Nat) (w1 w0 : Word128) (dmap members : List Nat) (drop : Bool) (t : Nat), coord < 1024 → g < 2 ^ 16 →
      dmap.length ≤ 256 → members.all deviceOk = true →
      let j : SpanJob := { coordinator := coord, generation := g, word1 := w1, word0 := w0, dmap := dmap, members := members
                           drop := drop, instant := t, started := s.now }
      let i : Instr := .prepare coord c g w1 w0 dmap members drop t
      (s.chartWorks c = true → s.chartBusy c = false →
        exec i s = .next (s.after i fun s => s.modChart c fun x => { x with prepare := some j })) ∧
      (∀ (code : Nat), s.chartWorks c = false → s.memberCheck c j = some code →
        exec i s = .next (s.after i (·.sendMgmt coord mkReady [c, 1, code]))) ∧
      (s.chartWorks c = false → s.memberCheck c j = none → exec i s = .next (s.after i fun s =>
        (s.modChart c fun x => { x with span := some j
                                        st := if !j.drop && !State.memberChange (s.chart c) j then .committing else x.st }).sendMgmt
          coord mkReady [c, 0, 0]))) ∧
    (∀ (m : Nat), (s.chart c).span = some j → j.coordinator = s.deviceNumber → m < 1024 →
      (s.canalTime + 20000 ≤ j.instant →
        exec (.ready m c .ready) s = .next (s.after (.ready m c .ready) fun s => s.modChart c fun x => { x with
          span := some { j with ready := if j.ready.contains m then j.ready else j.ready ++ [m] } })) ∧
      exec (.applied m c) s = .next (s.after (.applied m c) fun s =>
        (s.modChart c fun x => { x with span := some { j with
          applied := if j.applied.contains m then j.applied else j.applied ++ [m] } }).spanDone c false)) ∧
    ((s.chart c).span = some j → j.coordinator = s.deviceNumber → j.instant ≤ s.canalTime + 20000 → State.allReady j = false →
      exec (.spanReadyDeadline c) s =
        .next (s.after (.spanReadyDeadline c) fun s => s.abortSpan c j (State.spanCode (s.chart c) j))) ∧
    ((s.chart c).span = some j → j.coordinator ≠ s.deviceNumber → j.generation < 2 ^ 16 → (s.chart c).prepare = none →
      exec (.abort c j.generation) s = .next (s.after (.abort c j.generation) fun s =>
        s.modChart c fun x => { x with span := none, st := x.resting })) ∧
    ((s.chart c).span = some j → j.instant ≤ s.canalTime → j.done = false →
      (j.coordinator = s.deviceNumber → State.allReady j = true) →
      exec (.spanApply c) s = .next (s.after (.spanApply c) (·.applySpanJob c j))) ∧
    ((s.chart c).span = some j → j.coordinator = s.deviceNumber → j.done = true → j.started + 45000 ≤ s.now →
      exec (.spanConfirmTimeout c) s = .next (s.after (.spanConfirmTimeout c) fun s =>
        ((j.members.filter fun d => !j.applied.contains d).foldl
          (fun s d => s.raise 0x5109 .degraded (.peer d c 0 0 0)) s).spanDone c true))

/-- The steps of a cascade search complete (R218): a search of a span chart is launched, of the parts that a flight link brings in one launch of a chart that spans flights the first is searched here and the next are passed on over the reach links, in order of the flights that the origin reaches over this device, a part that gets no slot in 8 cycles is answered so, an answer in time joins its launch, a relay answers at its deadline with what it has, and a launch is released DECL_LATENCY after it began, by canal time. -/
def Obligations.CascadeSteps : Prop :=
  ∀ (s : State) (id : Nat), s.awake →
    (∀ (r : SearchReq), s.search.waiting.find? (fun r => r.id == id && s.isSpan r) = some r →
      exec (.cascadeLaunch id) s = .next (s.after (.cascadeLaunch id) (·.launchSearch r))) ∧
    (∀ (link chart gen launch : Nat) (stamp : BitVec 32) (key : BitVec 512), link < 62 → chart < 256 → gen < 2 ^ 16 →
      launch < 4096 → s.power.device ≠ .warmResetting → s.partAccepted chart gen stamp = true → cdSpan (s.chart chart).desc1 = 3 →
      let noted := s.noteFlightPart (s.flightPeer link) chart launch
      (noted.2 = 0 →
        exec (.partRequest link chart gen stamp launch key) s = .next (s.after (.partRequest link chart gen stamp launch key) fun s =>
          (s.noteFlightPart (s.flightPeer link) chart launch).1.servePart (some link) none chart launch key)) ∧
      (∀ (n f : Nat), noted.2 = n + 1 → (noted.1.detoursFor (s.flightPeer link) (s.chart chart))[n]? = some f →
        exec (.partRequest link chart gen stamp launch key) s = .next (s.after (.partRequest link chart gen stamp launch key) fun s =>
          let s := (s.noteFlightPart (s.flightPeer link) chart launch).1
          s.relayPart link chart launch key [(f * 32 + s.position, s.reachSrch f)] false true))) ∧
    (∀ (r : SearchReq), s.search.waiting.find? (fun r => r.id == id && r.cls == .cascade) = some r → r.arrived + 8 ≤ s.now →
      exec (.partNoSlot id) s = .next (s.after (.partNoSlot id) fun s =>
        (({ s with search := { s.search with waiting := s.search.waiting.filter (·.id != id) } } : State).bump64 0x3430 4).partDone id
          { result := 0, reason := 4, lacked := 0 })) ∧
    (∀ (link member launch : Nat) (a : PartAnswer) (l : Launch), link < 128 → member < 1024 → launch < 2 ^ 64 →
      s.search.parts = [] →
      s.search.launches.find? (fun l => launchField l.launch == launch % 4096 && l.waiting.contains member) = some l →
      s.inTime l = true →
      exec (.partAnswer link member launch a) s = .next (s.after (.partAnswer link member launch a) fun s =>
        (s.modLink link fun k => { k with srchOut := k.srchOut.erase (member, launch % 4096) }).launchGets l.id member a)) ∧
    (∀ (p : Part), s.search.parts.find? (fun p => p.id == id && p.relay && p.answer.isNone) = some p →
      State.relayLimit (s.chart p.chart) p ≤ (s.canalTime + 16384 - p.launch * 4) % 16384 → (s.canalTime + 16384 - p.launch * 4) % 16384 < 8192 →
      exec (.relayDeadline id) s = .next (s.after (.relayDeadline id) fun s =>
        ({ s with search := { s.search with
            waiting := s.search.waiting.filter fun r => !(s.search.parts.any fun q => q.parent == some id && q.id == r.id)
            parts := s.search.parts.filter fun q => q.parent != some id } } : State).relayAnswer p)) ∧
    (∀ (l : Launch), s.search.launches.find? (·.id == id) = some l →
      s.releaseAt l ≤ s.canalTime →
      exec (.cascadeRelease id) s = .next (s.after (.cascadeRelease id) (·.releaseLaunch l)))

/-! ### Work queues -/

/-- The steps of a queue complete: a DRAINING queue with no entry left is DISABLED (R137), the doorbells of the queue's own port set its pointers when the position stays in range (R140), the window access writes and reads the port's areas through the crossings (R139, R277), an entry that is read from host memory joins the queue (R138, R141), the oldest store leaves its buffer when every earlier load is served (R153), and the oldest response gives back its slot and its entry carries on (R135, R150). -/
def Obligations.QueueSteps : Prop :=
  ∀ (s : State) (q port : Nat), s.awake → q < 4096 → port < 128 →
    ((s.queueAt q).entries = [] → (s.queueAt q).st = .draining → (s.queueAt q).deferredEnable = false →
      exec (.queueDrainDone q) s = .next (s.after (.queueDrainDone q) fun s =>
        s.modQueue q fun x => { x with st := .disabled, deferredEnable := false })) ∧
    (∀ (v : BitVec 32), qcPort (s.queueAt q).cfg = port → (s.queueAt q).fetches = true →
      (let x := s.queueAt q
       let n := fld v 0 17 % (2 * x.sqSize)
       n ≠ x.sqTail % (2 * x.sqSize) → ahead n x.sqTail x.sqSize ≤ x.sqSize - ahead x.sqTail x.sqHead x.sqSize →
       exec (.sqTailDoorbell port q v) s =
         .next (s.after (.sqTailDoorbell port q v) fun s => s.modQueue q fun x => { x with sqTail := n })) ∧
      (let x := s.queueAt q
       let n := fld v 0 17 % (2 * x.cqSize)
       n ≠ x.cqHead % (2 * x.cqSize) → ahead n x.cqHead x.cqSize ≤ ahead x.cqTail x.cqHead x.cqSize →
       exec (.cqHeadDoorbell port q v) s =
         .next (s.after (.cqHeadDoorbell port q v) fun s => s.modQueue q fun x => { x with cqHead := n }))) ∧
    (∀ (off : Nat) (b : List Byte), s.damageAt 374 controlWord = 0 → off < 2 ^ 64 → 0 < b.length → b.length ≤ 4096 →
      (∀ i < b.length, ∃ a ∈ s.portAreas port false, a.1 ≤ off + i ∧ off + i < a.1 + a.2) →
      exec (.chamberWindowAccess port off b.length (some b)) s =
        .next (s.after (.chamberWindowAccess port off b.length (some b)) fun s =>
          let (s, b, lost) := s.payloadBytes 374 b
          s.chamberWrite off b lost)) ∧
    (∀ (off len : Nat), s.damageAt 374 controlWord = 0 → off < 2 ^ 64 → 0 < len → len ≤ 4096 →
      (∀ i < len, ∃ a ∈ s.portAreas port true, a.1 ≤ off + i ∧ off + i < a.1 + a.2) →
      exec (.chamberWindowAccess port off len none) s =
        .next (s.after (.chamberWindowAccess port off len none) fun s =>
          let (s, b, poison) := s.chamberRead off len
          let (s, b, lost) := s.payloadBytes 370 b
          s.emit (.barRead port off b (poison || lost)))) ∧
    (∀ (w : Sector), s.queuesRun = true → s.nextServed (q % 32) = some q → qcHost (s.queueAt q).cfg = true →
      exec (.entryFetch q (some w)) s = .next (s.after (.entryFetch q (some w)) fun s =>
        let s := { s with queue := { s.queue with rotation := Table.set 0 s.queue.rotation (q % 32) (q / 32) } }
        let x := s.queueAt q
        (s.emit (.hostRead (qcPort x.cfg) (x.sqBase + x.sqHead % x.sqSize * 64) 64)).enterEntry q w)) ∧
    (∀ (t : QStore) (rest : List QStore), (s.queueAt q).stores = t :: rest → s.queuesRun = true → t.issued = false →
      (s.earlier q t.pos).any (fun b => b.isLoad && !b.ended) = false → s.processorTakes q = true →
      exec (.storeBufferIssue q) s = .next (s.after (.storeBufferIssue q) fun s =>
        (s.modQueue q fun x => { x with
          stores := mapIf (·.pos == t.pos) (fun t => { t with issued := true }) x.stores
          entries := mapIf (·.pos == t.pos) (fun e => { e with issued := true }) x.entries }).submitOp q t.pos 0 (sectorOf t.offset) .write
            { cls := .wrNc, w := State.placeBytes t.offset t.len t.data, off := t.offset % 64, len := t.len })) ∧
    (∀ (p : Nat) (r : QResponse), p < 32 → s.queue.responses.find? (·.queue % 32 == p) = some r →
      exec (.queueResponse p) s = .next (s.after (.queueResponse p) fun s =>
        ({ s with queue := { s.queue with responses := s.queue.responses.erase r } } : State).answerEntry r))

/-- The commands of a queue complete when their entry may issue (R145, R147, R148, R153, R157): a load whose bytes are in no buffered store goes to the home, one whose bytes are all in the buffer is served from it when the service is not strict and it has no PAIR, a store enters the buffer of 16, an atomic goes to the home when the buffer is empty and every earlier load has ended, ZERO and COPY begin, the keys of a search are taken up, a table command's block goes to the table, and a fence with nothing before it ends. -/
def Obligations.QueueCommands : Prop :=
  ∀ (s : State) (q pos : Nat) (e : QEntry), s.awake → q < 4096 → pos < 2 ^ 32 →
    (s.mayIssue q pos 1 true = some e → (s.earlier q pos).any (fun b => b.isLoad && !b.ended) = false →
      (s.queueAt q).stores = [] → s.processorTakes q = true →
      exec (.read q pos) s = .next (s.after (.read q pos) fun s =>
        ((s.modEntryAt q pos fun e => { e with issued := true }).countQueue q 0).submitOp q pos 0 (sectorOf e.addr0) .read
          { cls := .rdNc, off := e.addr0 % 64, len := e.length })) ∧
    (∀ (f : Nat → Byte), s.mayIssue q pos 1 true = some e → (s.earlier q pos).any (fun b => b.isLoad && !b.ended) = false →
      (s.queueAt q).stores.any (fun t => t.meets e.addr0 e.length) = true → s.strictService q = false → e.pair = false →
      (∀ i < e.length, State.bufferedByte (s.queueAt q).stores (e.addr0 + i) = some (f i)) →
      exec (.read q pos) s = .next (s.after (.read q pos) fun s =>
        let s := ((s.countQueue q 0).countQueue q 6).modEntryAt q pos fun e => { e with
          issued := true, split := e.length == 32 && e.addr0 % 32 == 0 }
        ((s.deliverResult q e.addr1 ((List.range e.length).map f) false).endEntry q pos 0 0).post q)) ∧
    (s.mayIssue q pos 2 true = some e → (s.queueAt q).stores.length < 16 → s.issuedBefore q e = false →
      exec (.write q pos) s = .next (s.after (.write q pos) fun s =>
        (s.modQueue q fun x => { x with
          stores := x.stores ++ [{ pos := pos, offset := e.addr0, len := e.length, data := e.data }] }).countQueue q 1)) ∧
    ((s.queueAt q).stores = [] → (s.earlier q pos).any (fun b => b.isLoad && !b.ended) = false →
      s.processorTakes q = true →
      (let goes := fun (op : AtomicOp) (s : State) =>
         ((s.modEntryAt q pos fun e => { e with issued := true }).countQueue q 2).submitOp q pos 0 e.addr0 .atomic
           { cls := .atomic, op := some op, len := e.length }
       (s.mayIssue q pos 0x10 true = some e →
         exec (.cas128 q pos) s = .next (s.after (.cas128 q pos)
           (goes (.cas (BitVec.ofNat 128 (fld e.data 0 128)) (BitVec.ofNat 128 (fld e.data 128 128)))))) ∧
       (s.mayIssue q pos 0x11 true = some e →
         exec (.swap128 q pos) s = .next (s.after (.swap128 q pos) (goes (.swap (BitVec.ofNat 128 (fld e.data 0 128)))))) ∧
       (s.mayIssue q pos 0x12 true = some e →
         exec (.fadd64 q pos) s = .next (s.after (.fadd64 q pos) (goes (.fadd (BitVec.ofNat 64 (fld e.data 0 64)))))))) ∧
    (s.mayIssue q pos 0x20 false = some e →
      exec (.zero q pos) s = .next (s.after (.zero q pos) (·.modEntryAt q pos fun e => { e with issued := true }))) ∧
    (s.mayIssue q pos 0x21 false = some e →
      exec (.copy q pos) s = .next (s.after (.copy q pos) (·.modEntryAt q pos fun e => { e with issued := true }))) ∧
    (s.mayIssue q pos 0x30 false = some e → s.chartAllowed q e.chart false = true → cdValid (s.chart e.chart).desc1 = true →
      (cdWidth (s.chart e.chart).desc1 = 0 →
        exec (.search q pos) s = .next (s.after (.search q pos) (·.startSearch q pos
          ((List.range e.length).map fun i => BitVec.ofNat 512 (fld e.data (128 * i) 128))))) ∧
      (cdWidth (s.chart e.chart).desc1 = 1 → e.length = 1 →
        exec (.search q pos) s = .next (s.after (.search q pos) (·.startSearch q pos [BitVec.ofNat 512 e.data.toNat])))) ∧
    (∀ (keys : List Byte), s.mayIssue q pos 0x31 false = some e → s.chartAllowed q e.chart false = true →
      cdValid (s.chart e.chart).desc1 = true → qcHost (s.queueAt q).cfg = true → keys.length ≤ 4096 →
      exec (.searchBurst q pos keys) s = .next (s.after (.searchBurst q pos keys) fun s =>
        (s.emit (.hostRead (qcPort (s.queueAt q).cfg) e.addr0 (keyBits (cdWidth (s.chart e.chart).desc1) / 8 * e.length))).startSearch q pos
        (State.splitKeys keys (keyBits (cdWidth (s.chart e.chart).desc1) / 8) e.length))) ∧
    (∀ (block : List Byte), s.mayIssue q pos 0x32 false = some e → s.chartAllowed q e.chart true = true →
      qcHost (s.queueAt q).cfg = true → block.length = e.length → block.length ≤ 176 →
      s.tableLengthOk e.chart block = true →
      exec (.table q pos block) s = .next (s.after (.table q pos block) fun s =>
        (((s.emit (.hostRead (qcPort (s.queueAt q).cfg) e.addr0 e.length)).modEntryAt q pos fun e => { e with issued := true }).countQueue q
          4).submitTable (.queue q pos) e.chart block)) ∧
    (s.entryIn q pos = some e → s.earlier q pos = [] → s.queuesRun = true →
      (s.queueAt q).st ≠ .disabled → e.ended = false →
      (let began := fun (s : State) => (s.modEntryAt q pos fun e => { e with issued := true }).expireStores
       let ends := fun (op : Nat) (s : State) => (began s).endFence q pos op
       (e.opcode = 0x40 → exec (.fenceL q pos) s = .next (s.after (.fenceL q pos) (ends 0x40))) ∧
       (e.opcode = 0x41 → s.storesRetired q [] = true → exec (.fenceS q pos) s = .next (s.after (.fenceS q pos) (ends 0x41))) ∧
       (e.opcode = 0x42 → s.storesRetired q [] = true → exec (.fenceF q pos) s = .next (s.after (.fenceF q pos) (ends 0x42)))))

/-! ### Faults, counters and ports -/

/-- The steps of scrub, buckets and notifications complete on their occasions: the next scrub read (R289), a late pass with event 700A (R287, R293), a bucket's leak (R283), a host port's interrupt and a transport's notification (R300, R397), the restores of firmware-table and regulator words (R277, R314), a core's watchdog (R379), and a drain of a region that has no request left (R45). The steps of the dump rings complete: a grid instant that has come is taken once (R320, R322), a record that is not complete one base period after its instant is abandoned with event 8202 (R324), and the head doorbell of the ring's own port moves its head (R325). -/
def Obligations.FaultSteps : Prop :=
  (∀ (s : State) (n port : Nat), s.awake →
    (n < 384 → s.reg 0x4200 2 ≠ 0 → (s.scrubOf n).word < scrubReads n → s.scrubHeld n (s.scrubOf n).word = false →
      exec (.scrubRead n) s = .next (s.after (.scrubRead n) fun s =>
        ((s.modScrub n fun c => { c with word := c.word + 1 }).scrubWord n (s.scrubOf n).word).endPass n)) ∧
    (scrubStores.find? (fun b => !(s.scrubOf b).late && decide ((s.scrubOf b).began + s.scrubPeriod ≤ s.now)) = some n →
      exec .scrubPeriodMiss s = .next (s.after .scrubPeriodMiss fun s =>
        (((s.modScrub n fun c => { c with late := true }).deadlineMiss 3).bump32 0x4200 5).raise 0x700A .degraded
          (.location n (s.scrubOf n).word 0 0) none .scrub)) ∧
    (n < 15 → s.leakDue n (s.regAt 0x4211 3 n) = true →
      exec (.bucketLeak n) s = .next (s.after (.bucketLeak n) fun s =>
        let s := s.leakStep n
        { s with ras := { s.ras with buckets :=
            ((s.ras.buckets.map fun (p : Nat × Bucket) =>
              (p.1, if bucketClass p.1 == some n then { p.2 with level := p.2.level - 1 } else p.2)).filter
                fun p => decide (p.2 ≠ {})) } })) ∧
    (port < 128 → s.mgmt.dead = false → Table.get 0 s.ras.hostPending port ≠ 0 → s.portRole port = 1 → (s.port port).st = .up →
      Table.get 0 s.ras.hostNotified port = 0 →
      exec (.hostNotify port) s = .next (s.after (.hostNotify port) fun s =>
        ({ s with ras := { s.ras with
            hostPending := Table.set 0 s.ras.hostPending port 0
            hostNotified := Table.set 0 s.ras.hostNotified port (s.now + 1) } } : State).emit (.msix port (s.regAt 0x7020 3 port)))) ∧
    (exec (.transportNotify .i3c) s = .next (s.after (.transportNotify .i3c) (·.notifyBus 0)) ∧
      exec (.transportNotify .fieldBusA) s = .next (s.after (.transportNotify .fieldBusA) (·.notifyBus 1)) ∧
      exec (.transportNotify .fieldBusB) s = .next (s.after (.transportNotify .fieldBusB) (·.notifyBus 1))) ∧
    (n ∈ s.ras.fwRestore →
      exec (.firmwareTableRestore n) s = .next (s.after (.firmwareTableRestore n) fun s =>
        ({ s with ras := { s.ras with fwRestore := s.ras.fwRestore.filter (· != n) } } : State).setDamage (362 + n / fwWords)
          (n % fwWords) 0)) ∧
    (n < 40960 → n ∈ s.tenant.regRestore → s.tenant.heldReleases = [] →
      exec (.regulatorWordRestore n) s = .next (s.after (.regulatorWordRestore n) fun s =>
        let s := s.setDamage 369 n 0
        { s with tenant := { s.tenant with regRestore := s.tenant.regRestore.filter (· != n), heldReleases := [] } })) ∧
    (∀ (cores : BitVec 4), cores &&& ~~~s.mgmt.deadCores ≠ 0 →
      exec (.watchdogExpiry cores) s = .next (s.after (.watchdogExpiry cores) fun s =>
        ({ s with mgmt := { s.mgmt with
            deadCores := s.mgmt.deadCores ||| cores
            dead := s.mgmt.dead || (s.mgmt.deadCores ||| cores) == 0xF#4 } } : State).raise 0x1006 .deviceFatal)) ∧
    (exec .regionDrainDone s = .next (s.after .regionDrainDone fun s =>
      let done := s.tenant.drains.filter s.drained
      let s := { s with tenant := { s.tenant with drains := s.tenant.drains.filter fun d => !s.drained d } }
      let s := done.foldl (fun s d => (s.endDrain d).answerFlush d) s
      State.serveInbox s.mgmt.inbox.length s))) ∧
  (∀ (s : State) (ring : Nat), s.awake → ring < 16 →
    (s.counter.lastInstant < s.canalTime / s.dumpBase * s.dumpBase →
      exec .snapshotInstant s = .next (s.after .snapshotInstant (·.takeInstant (s.canalTime / s.dumpBase * s.dumpBase)))) ∧
    (∀ (d : DumpRecord), (s.ring ring).record = some d → d.instant + s.dumpBase ≤ s.canalTime →
      exec (.dumpRecordDeadline ring) s = .next (s.after (.dumpRecordDeadline ring) fun s =>
        ((s.modRing ring fun x => { (x.skip 1) with record := none }).deadlineMiss 6).raise 0x8202 .contained (.count ring 0))) ∧
    (∀ (port : Nat) (v : BitVec 32), port < 128 → drPort (s.ring ring).cfg = port →
      exec (.dumpHeadDoorbell port ring v) s = .next (s.after (.dumpHeadDoorbell port ring v) (·.moveHead ring v.toNat))))

/-- The events of a port complete on a port of the role and state that they concern: a host port that is UP goes down for a per-port reset with event 9002, for a link loss with event 9001 and for an IDE failure with event 9004, IDE becomes active, the host commits its decoder, a drained port may train again, a trained port is UP or enumerated, with event 9003 for a lower speed and for a lower width, an enumerated pool port is UP or FAILED, and a pool port's link goes down (R16, R332 to R342). -/
def Obligations.PortSteps : Prop :=
  ∀ (s : State) (port : Nat), s.awake → port < 128 →
    (s.portRole port = 1 → (s.port port).st = .up →
      exec (.perPortCxlReset port) s = .next (s.after (.perPortCxlReset port) (·.portDown port 0 0x9002 .note false false)) ∧
      exec (.hostLinkDown port) s = .next (s.after (.hostLinkDown port) (·.portDown port 0 0x9001 .contained true false)) ∧
      exec (.ideFailure port) s = .next (s.after (.ideFailure port) (·.portDown port 2 0x9004 .contained false false)) ∧
      exec (.ideActivation port) s = .next (s.after (.ideActivation port) (·.modPort port fun x => { x with ide := 1 })) ∧
      ∀ (base : Nat), base < 2 ^ 64 → base % 2 ^ 52 = 0 →
        exec (.hdmDecoderCommit port base) s =
          .next (s.after (.hdmDecoderCommit port base) (·.modPort port fun x => { x with hdmBase := some base }))) ∧
    ((s.port port).st = .resetting → s.portBusy port = false →
      exec (.portResetDrainDone port) s = .next (s.after (.portResetDrainDone port) fun s =>
        (if s.portRole port = 1 then (s.purgePort port).purgeBuffers port else s).modPort port fun x =>
          if x.disabling then { x with st := .disabled, disabling := false, cfg := setFld x.cfg 31 1 0 } else { x with st := .down })) ∧
    (∀ (code lanes : Nat), code < 3 → lanes ≤ 16 → pcEnable (s.port port).cfg = true → (s.port port).st = .down →
      State.widthOf (4 * pcQuads (s.port port).cfg) lanes ≠ 0 → s.testMode ≠ 1 → s.isFatal = false →
      exec (.portLinkUp port code lanes) s = .next (s.after (.portLinkUp port code lanes) fun s =>
        let c := (s.port port).cfg
        let width := State.widthOf (4 * pcQuads c) lanes
        let speed := State.speedOf (max (pcMaxSpeed c) code)
        let s := s.modPort port fun x => { x with
          st := if s.portRole port = 2 then .enumerating else .up, speed := speed, lanes := width, ide := 0 }
        let s := if speed < 64 then s.raise 0x9003 .degraded (.count port 0) (some port) else s
        if width < 4 * pcQuads c then s.raise 0x9003 .degraded (.count port 0) (some port) else s)) ∧
    ((s.port port).st = .enumerating →
      exec (.poolEnumerationDone port true) s =
        .next (s.after (.poolEnumerationDone port true) (·.modPort port fun x => { x with st := .up })) ∧
      exec (.poolEnumerationDone port false) s = .next (s.after (.poolEnumerationDone port false) fun s =>
        (s.modPort port fun x => { x with st := .failed }).raise 0x9006 .degraded (.count port 0) (some port))) ∧
    (s.portRole port = 2 → (s.port port).st = .up ∨ (s.port port).st = .enumerating ∨ (s.port port).st = .failed →
      exec (.poolLinkDown port) s = .next (s.after (.poolLinkDown port) fun s =>
        (s.modPort port fun x => { x with st := .down, speed := 0, lanes := 0 }).failPort port))

/-! ### Wiboni links and the canal -/

/-- Each step of a link completes (R347 to R350, R354, R355). A usable DOWN or MISWIRED link whose retry time has come begins to train. A failure at a step of training takes the link DOWN. IDENTIFY records the peer and leads to the measurement, or to MISWIRED with event 9012 where the cabling or the flight size is another. The measurement ends in ACTIVE, or with an SRCH leg above 55 ns in ACTIVE_SLOW with event 9013; the link starts anew and what waited for a path is sent. On an ACTIVE or ACTIVE_SLOW link a flit that fails its CRC is counted and discarded, a good one with a known type is taken in, 1 µs without an ACK replays what is unacknowledged, and 200 ns without a valid flit, or the loss of the link, takes it DOWN. On a link that is not ACTIVE the tail record is dropped 64 µs after it went DOWN; messages that still have no path then fail with event 9016. The link state vector leaves when it has changed or its time has come, and one that arrives is kept, and what it opens a path for is sent. -/
def Obligations.LinkSteps : Prop :=
  ∀ (s : State) (l : Nat), s.awake → l < 128 →
    ((s.linkAt l).st = .down ∨ (s.linkAt l).st = .miswired → s.linkUsable l = true → (s.linkAt l).retryAt ≤ s.now → s.testMode ≠ 2 →
      exec (.linkRetryTimer l) s = .next (s.after (.linkRetryTimer l) (·.modLink l fun k => { k with st := .training }))) ∧
    ((s.linkAt l).st = .training ∨ (s.linkAt l).st = .identify ∨ (s.linkAt l).st = .measure →
      exec (.linkTrainingFailure l) s = .next (s.after (.linkTrainingFailure l) (·.goDown l))) ∧
    (∀ (r : IdentifyRecord), r.device < 1024 → r.link < 128 → (s.linkAt l).st = .training ∨ (s.linkAt l).st = .identify →
      exec (.identify l r) s = .next (s.after (.identify l r) fun s =>
        let s := s.modLink l fun k => { k with peerDevice := r.device, peerLink := r.link }
        if s.expectedPeer l r && r.flightSize == s.flightSize then s.modLink l fun k => { k with st := .measure }
        else (s.linkLeaves l .miswired (s.now + 1000000000)).raise 0x9012 .degraded (.count l 0))) ∧
    (∀ (delay leg : Nat), (s.linkAt l).st = .measure →
      let begun (st : LinkState) (s : State) : State := s.modLink l fun k => { k with
        st := st, delayPs := delay % 2 ^ 32, expect := 0, nextSeq := 0, retry := [], credits := [], partialBytes := []
        nakSent := false, ackedAt := s.now, lastValid := s.now, replayCount := 0, rxCount := 0, tail := [], srchOut := [] }
      (leg ≤ 55000 →
        exec (.measureDone l delay leg) s = .next (s.after (.measureDone l delay leg) fun s =>
          ((begun .active s).flushAll.settleUpstream).settlePaths)) ∧
      (55000 < leg →
        exec (.measureDone l delay leg) s = .next (s.after (.measureDone l delay leg) fun s =>
          ((((begun .activeSlow s).raise 0x9013 .degraded (.count l 0)).flushAll).settleUpstream).settlePaths))) ∧
    ((s.linkAt l).st = .active ∨ (s.linkAt l).st = .activeSlow →
      (∀ (f : Flit) (fec : Nat), fec ≤ 30 → s.testMode ≠ 2 →
        (flGood f = false →
          exec (.flitReceive l f fec) s = .next (s.after (.flitReceive l f fec) fun s =>
            (s.modLink l fun k => { k with
              crcFails := sat32 (k.crcFails + 1), fecCorrected := (k.fecCorrected + fec) % 2 ^ 64 }).discardFlit l)) ∧
        (flGood f = true → flType f ≤ 3 →
          exec (.flitReceive l f fec) s = .next (s.after (.flitReceive l f fec) fun s =>
            let s := s.modLink l fun k => { k with
              crcFails := if fec = 0 then k.crcFails else sat32 (k.crcFails + 1), fecCorrected := (k.fecCorrected + fec) % 2 ^ 64 }
            let s := ((s.modLink l fun k => { k with lastValid := s.now }).takeAck l (flAck f)).takeCredits l (flCreditVc f) (flCredits f)
            let s := if flNak f then s.replay l else s
            let s := if flType f ≠ 1 then s
              else if flSeq f = (s.linkAt l).expect then s.takeData l f
              else if (flSeq f + 4096 - (s.linkAt l).expect) % 4096 < 2048 then s.discardFlit l
              else s
            s.drainTxq l))) ∧
      ((s.linkAt l).retry ≠ [] → (s.linkAt l).ackedAt + 1000 ≤ s.now →
        exec (.ackTimeout l) s = .next (s.after (.ackTimeout l) (·.replay l))) ∧
      ((s.linkAt l).lastValid + 200 ≤ s.now → exec (.linkSilence l) s = .next (s.after (.linkSilence l) (·.goDown l))) ∧
      exec (.linkDown l) s = .next (s.after (.linkDown l) (·.goDown l))) ∧
    ((s.linkAt l).st ≠ .active → (s.linkAt l).st ≠ .activeSlow → (s.linkAt l).downAt + 64000 ≤ s.now →
      exec (.tailRecordExpiry l) s = .next (s.after (.tailRecordExpiry l) (·.modLink l fun k => { k with tail := [] }))) ∧
    ((s.linkAt l).downAt + 64000 ≤ s.now → (s.linkAt l).resend ≠ [] →
      (∀ m ∈ (s.linkAt l).resend, ∀ d parity, m.dest = some (d, parity) → s.pathTo d parity = none) →
      exec (.resendWindowExpiry l) s = .next (s.after (.resendWindowExpiry l) fun s =>
        ((s.linkAt l).resend.foldl (fun s m => s.failForwarded m) (s.modLink l fun k => { k with resend := [] })).raise 0x9016 .contained
          (.count (s.linkAt l).resend.length 0))) ∧
    (s.link.nextVectorSend ≤ s.now ∨ s.ownVector ≠ s.link.sentVector →
      exec .linkStateVectorSend s = .next (s.after .linkStateVectorSend fun s =>
        ({ s with link := { s.link with nextVectorSend := s.now + 10000, sentVector := s.ownVector } } : State).tellNeighbours mkVector
          [s.deviceNumber, s.ownVector.toNat])) ∧
    (∀ (d : Nat) (v : Word128), d < 1024 →
      exec (.linkStateVector d v) s = .next (s.after (.linkStateVector d v) fun s =>
        ({ s with link := { s.link with vectors := Table.set 0 s.link.vectors d v } } : State).flushAll.settlePaths))

/-- Each step of canal time completes (R359 to R363, R433). When its time has come a TIME flit leaves on every ACTIVE or ACTIVE_SLOW link, and the next is due 10 µs later. A TIME flit that arrives on such a link leaves its stamp, and over the upstream link it sets the error estimate and the slew and counts the samples in a row within 500 ps; a device that is ACQUIRING with an offset of at most 1 µs is LOCKED at the sixteenth. A device that has not left ACQUIRING within the lock deadline reports it once, with event A001. An edge of PPS_IN that is the first, that comes more than 2 s after the last one taken, or that lies within 100 ppm of one second after it is taken; any other is counted and rejected with event B009. An input without an edge for more than 2 s loses its qualification with event B00A, and with A004 behind it at a master that it had qualified. -/
def Obligations.TimeSteps : Prop :=
  ∀ (s : State), s.awake →
    (s.canal.nextTimeSend ≤ s.now →
      exec .timeFlitSend s = .next (s.after .timeFlitSend fun s =>
        let up := (List.range 128).filter fun l => (s.linkAt l).st == .active || (s.linkAt l).st == .activeSlow
        let s := up.foldl (fun s l => s.emit (.timeFlit l (s.canalTime * 256) (s.linkAt l).lastTimeRx s.canal.errorPs)) s
        { s with canal := { s.canal with nextTimeSend := s.now + 10000 } })) ∧
    (∀ (l t1 t2 t3 t4 err : Nat), l < 128 → t1 < 2 ^ 72 → t2 < 2 ^ 72 → t3 < 2 ^ 72 → t4 < 2 ^ 72 →
      (s.linkAt l).st = .active ∨ (s.linkAt l).st = .activeSlow →
      let off := State.offsetOf t1 t2 t3 t4
      let n := if off.natAbs < 512 then s.canal.samples + 1 else 0
      let stamped (s : State) : State := s.modLink l fun k => { k with lastTimeRx := s.canalTime * 256, lastValid := s.now }
      (s.canal.upstream ≠ some l → exec (.timeFlit l t1 t2 t3 t4 err) s = .next (s.after (.timeFlit l t1 t2 t3 t4 err) stamped)) ∧
      (s.canal.upstream = some l → s.canal.timeState ≠ .acquiring →
        exec (.timeFlit l t1 t2 t3 t4 err) s = .next (s.after (.timeFlit l t1 t2 t3 t4 err) fun s =>
          let s := stamped s
          ({ s with canal := { s.canal with
              errorPs := min (err + off.natAbs * 250 / 256) (2 ^ 32 - 1), slew := -off, samples := n } } : State).settleTrust)) ∧
      (s.canal.upstream = some l → s.canal.timeState = .acquiring → off.natAbs ≤ 1024000 →
        exec (.timeFlit l t1 t2 t3 t4 err) s = .next (s.after (.timeFlit l t1 t2 t3 t4 err) fun s =>
          let s := stamped s
          ({ s with canal := { s.canal with
              errorPs := min (err + off.natAbs * 250 / 256) (2 ^ 32 - 1), stepArmed := false, slew := -off, samples := n
              timeState := if 16 ≤ n then .locked else .acquiring } } : State).settleTrust))) ∧
    (s.canal.timeState = .acquiring → s.canal.lockMissed = false → s.canal.acquiringAt + s.reg 0x1200 6 * 1000000 ≤ s.now →
      exec .timeLockTimeout s = .next (s.after .timeLockTimeout fun s =>
        (({ s with canal := { s.canal with lockMissed := true } } : State).deadlineMiss 8).raise 0xA001 .degraded)) ∧
    (s.canal.pps.lastEdge = none → exec .ppsEdge s = .next (s.after .ppsEdge (·.takeEdge true))) ∧
    (∀ (t : Nat), s.canal.pps.lastEdge = some t →
      (t + 2000000000 < s.now → exec .ppsEdge s = .next (s.after .ppsEdge (·.takeEdge true))) ∧
      (t + 999900000 ≤ s.now → s.now ≤ t + 1000100000 → exec .ppsEdge s = .next (s.after .ppsEdge (·.takeEdge false))) ∧
      (s.now < t + 999900000 ∨ (t + 1000100000 < s.now ∧ s.now ≤ t + 2000000000) →
        exec .ppsEdge s = .next (s.after .ppsEdge fun s => ({ s with
          canal := { s.canal with pps := { s.canal.pps with lastAny := some s.now, stuck := false } }
          power := { s.power with ppsRejected := sat32 (s.power.ppsRejected + 1) } } : State).raise 0xB009 .note))) ∧
    (s.canal.pps.stuck = false → s.canal.pps.lastAny.getD s.power.windowAt + 2000000000 < s.now →
      let unqualified (s : State) : State :=
        ({ s with canal := { s.canal with pps := { lastAny := s.canal.pps.lastAny, stuck := true } } } : State).raise 0xB00A .degraded
      (s.canal.pps.qualified = false → exec .ppsStuck s = .next (s.after .ppsStuck unqualified)) ∧
      (s.canal.pps.qualified = true →
        exec .ppsStuck s = .next (s.after .ppsStuck fun s =>
          if (unqualified s).isMaster then (unqualified s).raise 0xA004 .note else unqualified s)))

/-- The steps of canal membership complete (R364 to R369): the record leaves every 1 ms, a peer's record is taken in, a silent member is to depart, an announcement with a newer epoch is kept and applies at its instant, quarantines and a duplicate that is still heard are reported again, and a member that has not confirmed CANAL_SET within 1 ms ends the command with CANAL_UNCONFIRMED. -/
def Obligations.MembershipSteps : Prop :=
  ∀ (s : State) (d : Nat), s.awake → d < 1024 →
    (s.canal.nextPublish ≤ s.now → s.power.device = .running → s.testMode = 0 →
      exec .membershipPublish s = .next (s.after .membershipPublish (·.publishNow))) ∧
    (∀ (r : MemberRecord), r.device < 1024 → r.leader < 1024 → r.state < 5 → r.device ≠ s.deviceNumber →
      exec (.membershipRecord r) s = .next (s.after (.membershipRecord r) (·.heardPeer r))) ∧
    (s.canal.active = [s.deviceNumber, d] → s.deviceNumber ≠ d → s.canal.member = .active → s.canal.peers = [] →
      s.canal.leader = s.deviceNumber →
      exec (.memberSilence d) s = .next (s.after (.memberSilence d) (·.want d 0))) ∧
    (∀ (e l : Nat) (ms : List Nat) (t : Nat), s.canal.epoch < e → e < 2 ^ 32 → s.canal.pending = none → l ≠ s.deviceNumber →
      l < 1024 → ms.all deviceOk = true →
      exec (.epochAnnounce e l ms t) s = .next (s.after (.epochAnnounce e l ms t) fun s => { s with canal := { s.canal with
        pending := some { epoch := e, leader := l, members := sortDevices ms, instant := t } } })) ∧
    (∀ (p : PendingEpoch), s.canal.set = none → s.canal.pending = some p → p.instant ≤ s.canalTime →
      exec .epochApply s = .next (s.after .epochApply (·.applyEpoch p))) ∧
    (s.canal.quarantined = [d] → s.canal.duplicates = [] → s.canal.member ≠ .quarantined → s.canal.nextQuarReport ≤ s.now →
      exec .quarantineReport s = .next (s.after .quarantineReport fun s =>
        let r := Table.get 0 s.canal.reasons d
        let s := s.logEvent { code := State.quarantineEvent r, cls := .degraded, detail := .peer d 0 r 0 0, ownInterval := true }
        { s with canal := { s.canal with nextQuarReport := s.now + s.reg 0x1201 8 * 1000000 } })) ∧
    (∀ (v : PeerView), s.canal.quarantined = [] → s.canal.duplicates = [(d, v)] → s.now < v.heard + 3000000 →
      s.canal.member ≠ .quarantined → s.canal.nextQuarReport ≤ s.now →
      exec .quarantineReport s = .next (s.after .quarantineReport fun s =>
        let s := s.logEvent { code := 0xA010, cls := .degraded, detail := .peer d 0 1 0 0, ownInterval := true }
        { s with canal := { s.canal with nextQuarReport := s.now + s.reg 0x1201 8 * 1000000 } })) ∧
    (∀ (j : CanalSetJob), s.canal.set = some j → d ∈ j.unconfirmed → j.started + 1000000 ≤ s.now →
      exec (.canalSetConfirmTimeout d) s = .next (s.after (.canalSetConfirmTimeout d) fun s =>
        let s := j.unconfirmed.foldl (fun s d => s.raise 0xA018 .degraded (.peer d 0 0 0 0)) s
        ({ s with canal := { s.canal with
            set := none, suspects := sortDevices (s.canal.suspects ++ j.unconfirmed) } } : State).endCmd j.ticket 0x1212))

/-! ### Start-up, reset and power -/

/-- The pins act whether or not the device is held in reset (R413, R415, R416, R433, R434, R441, R448): RESET_N low for 1 µs or more holds the device, its release latches the straps and commands VCORE, PWROK low holds the device and releases THERMTRIP_N, the thermal trip asserts it, a VCORE command without an acknowledge is repeated after 10 µs, the acknowledge lets a cold start go on, a sensor below 0 °C raises VCORE, and PFAIL_N that is low for 200 ns begins the power-fail drain or is high again. -/
def Obligations.PinSteps : Prop :=
  ∀ (s : State),
    (∀ (lowNs : Nat), 1000 ≤ lowNs →
      exec (.resetNAssert lowNs) s = .next (s.after (.resetNAssert lowNs) (·.hold 1))) ∧
    (∀ (straps : BitVec 32), s.power.device = .starting → s.power.cold = none → s.power.thermtrip = false →
      exec (.resetNRelease straps [] [] [] true) s = .next (s.after (.resetNRelease straps [] [] [] true) fun s =>
        ({ s with power := { s.power with straps := straps, pwrok := true, releasedAt := s.now, cold := some {} } } : State).sendAvs)) ∧
    (exec .pwrokLow s = .next (s.after .pwrokLow fun s =>
      let t := s.hold (if s.power.thermtrip then 4 else 3)
      { t with power := { t.power with pwrok := false, thermtrip := false } })) ∧
    (exec .thermalTrip s = .next (s.after .thermalTrip fun s =>
      { s.hold 4 with power := { (s.hold 4).power with thermtrip := true } })) ∧
    (s.power.avsAcked = false → s.power.avsSent + 10000 ≤ s.now →
      exec .avsRetry s = .next (s.after .avsRetry (·.sendAvs))) ∧
    (∀ (c : ColdPending), s.power.cold = some c → c.halted = false →
      exec .avsAck s = .next (s.after .avsAck fun s =>
        ({ s with power := { s.power with avsAcked := true } } : State).finishCold c)) ∧
    (∀ (n : Nat) (celsius : Int), n < 16 → celsius < 0 → s.power.avsRaised = false → s.power.sensors = [] → s.awake →
      exec (.coldSensorChange n celsius) s = .next (s.after (.coldSensorChange n celsius) fun s =>
        ({ s with power := { s.power with
            sensors := Table.set 25 s.power.sensors n celsius, avsRaised := true } } : State).sendAvs)) ∧
    (∀ (lowNs edges : Nat), 200 ≤ lowNs → edges ≤ 4 → s.power.pfailStuck = false →
      exec (.pfailNAssert lowNs edges) s = .next (s.after (.pfailNAssert lowNs edges) fun s =>
        ({ s with power := { s.power with pfailLow := true } } : State).powerFails)) ∧
    (exec .pfailNHigh s = .next (s.after .pfailNHigh fun s => { s with power := { s.power with pfailLow := false, pfailStuck := false } }))

/-- The timed steps of start-up, warm reset and power failure complete when they are due (R419, R422, R428, R434): the start-up window closes with event B00B at STARTUP_TIMEOUT, the warm drain ends 100 µs after the reset began, the warm restore releases the device, the power-fail drain ends at its limit, and a PFAIL_N that is still low 10 ms after the window opened is stuck. -/
def Obligations.PowerSteps : Prop :=
  ∀ (s : State),
    (s.power.device = .window → s.reg 0x6000 4 ≠ 0 → s.power.windowAt + s.reg 0x6000 4 * 1000000 ≤ s.now →
      exec .startupTimeout s = .next (s.after .startupTimeout fun s => (s.raise 0xB00B .note).closeWindow)) ∧
    (∀ (bad : List Nat) (romOk : Bool), s.power.device = .warmResetting → s.power.warmDrained = false →
      s.power.warmAt + 100000 ≤ s.now → (bad.all fun c => decide (c < 689)) = true →
      exec (.warmDrainEnd bad romOk) s = .next (s.after (.warmDrainEnd bad romOk) (·.endWarmDrain bad romOk))) ∧
    (s.power.device = .warmResetting → s.power.warmDrained = true →
      exec .warmRestoreDone s = .next (s.after .warmRestoreDone (·.endWarmRestore))) ∧
    (s.power.device = .pfDraining → s.power.pfAt + s.inEffect 0x6010 2 * 1000 ≤ s.now →
      exec .pfDrainDeadline s = .next (s.after .pfDrainDeadline (·.missDrain))) ∧
    (s.power.pfailLow = true → s.power.pfailStuck = false → s.power.windowAt + 10000000 ≤ s.now → s.isFatal = false →
      s.power.device = .running →
      exec .pfailNStuck s = .next (s.after .pfailNStuck fun s =>
        ({ s with power := { s.power with pfailStuck := true } } : State).raise 0xB008 .degraded))

/-! ### The whole machine -/

/-- For every command c and state s, a step with c at the front of the queue is c's execution on s with the queue's rest. -/
def Obligations.StepTakesFront : Prop :=
  ∀ (c : Instr) (cs : List Instr) (s : State), step { s with pending := c :: cs } = exec c { s with pending := cs }

/-- With an empty queue a step lets one cycle of 1.0 ns pass, which is the model's choice (log entry 1): it always answers a next state, no command comes to wait, what had left the device stands, and a device held in reset does nothing but let time pass. -/
def Obligations.IdlePassesCycle : Prop :=
  ∀ (s : State), s.pending = [] → ∃ t, step s = .next t ∧ t.pending = [] ∧ (∃ l, t.out = s.out ++ l) ∧
    (s.power.device = .starting → t = s.passTime ∧ t.now = s.now + 1 ∧ t.regs = s.regs ∧ t.out = s.out)

/-- The state after reset has the invariant of the machine. -/
def Obligations.ResetHoldsInvariant : Prop := State.reset.Inv

/-- Every step keeps the invariant of the machine, from every state that has it: Chamber RAM stays in its canonical form, a device that asserts FAULT_N serves as in the fatal state (R297, R298), and no restarted counter is left unreported (R318). -/
def Obligations.StepKeepsInvariant : Prop :=
  ∀ (s t : State), s.Inv → step s = .next t → t.Inv

/-- The model's choice of where to stop (log entry 2): the one stop of the machine is a command whose operands name an item that the device does not have: exec faults exactly on the ill-formed commands, refuses none, and answers a next state on every well-formed one. -/
def Obligations.OnlyIllFormedCommandsStop : Prop :=
  ∀ (i : Instr) (s : State),
    (i.wellFormed = true → ∃ t, exec i s = .next t) ∧ (i.wellFormed = false → exec i s = .fault .noSuchItem)

/-- A command leaves the queue of waiting commands as it is, and what has left the device is never taken back: what it sends follows what was sent before. -/
def Obligations.QueueAndHistoryStand : Prop :=
  ∀ (i : Instr) (s t : State), exec i s = .next t → t.pending = s.pending ∧ ∃ l, t.out = s.out ++ l

/-- A device in the fatal state or in PF_HALTED issues nothing more on its pool ports and sends no snoop, whatever is commanded and while cycles pass (R298, R429), and one that drains for a power failure issues no pool read (R428). -/
def Obligations.StoppedDeviceIsQuiet : Prop :=
  ∀ (s t : State), step s = .next t →
    (s.isFatal = true → ∃ l, t.out = s.out ++ l ∧ ∀ o ∈ l,
      (∀ p a, o ≠ .poolRead p a) ∧ (∀ p a d m x, o ≠ .poolWrite p a d m x) ∧ ∀ p k h, o ≠ .bisnp p k h) ∧
    (s.power.device = .pfDraining → ∃ l, t.out = s.out ++ l ∧ ∀ o ∈ l, ∀ p a, o ≠ .poolRead p a)

/-- FAULT_N and the fatal latch: the first DEVICE-FATAL record asserts FAULT_N and latches its event code and canal time, and the device stops serving; every step but those of a cold reset keeps FAULT_N, the latch and the fatal state; a warm-reset command that a client submits in the fatal state, where no other is held, ends at once with CMD_FATAL (0x0013). -/
def Obligations.FaultNStands : Prop :=
  (∀ (s : State) (e : Event), e.cls = .deviceFatal → s.ras.faultN = false →
    (s.logEvent e).ras.faultN = true ∧ (s.logEvent e).ras.fatalEvent = e.code ∧ (s.logEvent e).ras.fatalTime = s.canalTime ∧
      (s.logEvent e).isFatal = true) ∧
  (∀ (s t : State), (∀ c ∈ s.pending.head?, resetsCold c = false) → step s = .next t →
    (s.ras.faultN = true → t.ras.faultN = true ∧ t.ras.fatalEvent = s.ras.fatalEvent ∧ t.ras.fatalTime = s.ras.fatalTime) ∧
    (s.isFatal = true → t.isFatal = true)) ∧
  (∀ (s : State) (c : Client) (g : Nat), cmdOk c g = true → s.mayWrite c 0x1F00 1 none = true → s.power.device = .fatal →
    s.mgmt.cmds = [] →
    exec (.warmReset c g) s = .next (s.after (.warmReset c g) fun s =>
      let t := s.touchClient c
      let t := { t with mgmt := { t.mgmt with
        nextTicket := (s.mgmt.nextTicket + 1) % 2 ^ 32
        cmds := [{ ticket := s.mgmt.nextTicket, client := clientKey c, opcode := 0x6001, ctag := g, notify := false
                   buses := busBit c.transport, params := [] }] } }
      (t.endCmd s.mgmt.nextTicket 0x0013).reply c.transport (writeHeader c 0x1F00 1 16) { kind := 0xA, arg := s.mgmt.nextTicket }))

/-- The straps are sampled at the release of RESET_N, which latches them whole; every step of any other command, and every cycle, leaves them as they are; and object 1010:01 reads them. -/
def Obligations.StrapsHold : Prop :=
  (∀ (s t : State) (straps : BitVec 32), s.power.device = .starting → s.power.cold = none → s.power.thermtrip = false →
    exec (.resetNRelease straps [] [] [] true) s = .next t → t.power.straps = straps) ∧
  (∀ (s t : State), (∀ c ∈ s.pending.head?, resetsCold c = false) → step s = .next t → t.power.straps = s.power.straps) ∧
  (∀ (s : State) (tr : Transport) (x : Selector), (s.readObject tr x 0x1010 1).2 = .num s.power.straps.toNat)

/-- The model's reading (log entry 3): a device held in reset is deaf: every well-formed command but those of its reset, power, thermal and AVSBus pins leaves the state as it is (R413, R415, R433, R441, R448). -/
def Obligations.HeldInResetIsDeaf : Prop :=
  ∀ (i : Instr) (s : State), s.power.device = .starting → i.wellFormed = true → inReset i = false → exec i s = .next s

/-- The machine right after reset, with the straps and the open reset values that the model chose (log entries 12 and 13): no command waits and nothing has left; the device is in its start-up window with every strap low and FAULT_N and ALERT_N released; every log, bucket and damaged word is clear and SEQ starts at 1; the cache is CLEAN with no tag, no block and no directory entry; every region, context, queue, chart but the system chart, key slot and dump ring is at rest; no Chamber RAM byte differs from 0; the ports of the host quads are DOWN, and the links are DOWN or absent. -/
def Obligations.ResetState : Prop :=
  let s := State.reset
  s.pending = [] ∧ s.out = [] ∧ s.power.device = .window ∧ s.power.straps = 0 ∧ s.ras.faultN = false ∧ s.ras.alertN = false ∧
  s.ras.log = [] ∧ s.ras.fatalLog = [] ∧ s.ras.nextSeq = 1 ∧ s.ras.buckets = [] ∧ s.ras.damage = [] ∧
  s.cache.st = .clean ∧ s.cache.tags = [] ∧ s.cache.data = [] ∧ s.cache.moored = 0 ∧ s.home.dir = [] ∧ s.home.revMap = [] ∧
  (∀ r, (s.region r).st = .empty) ∧ (∀ q, (s.queueAt q).st = .disabled) ∧ (∀ c, c ≠ 0 → (s.chart c).st = .undefined) ∧
  (∀ k, (s.keySlot k).st = .empty) ∧ (∀ r, (s.ring r).enabled = false) ∧ s.search.rows = [] ∧
  (∀ a, memByte s.queue.chamber a = 0) ∧ s.mgmt.nextTicket = 1 ∧ s.mgmt.results = [] ∧
  (∀ p < 128, (s.port p).st = .down) ∧ (∀ l, (s.linkAt l).st = .down ∨ (s.linkAt l).st = .disabled)

/-! ### What single rules say -/

/-- The home slice, set and tag of a DPA: the slice is the exclusive-or of its six fields, the block number comes back from slice, set and tag, and flipping any one bit of DPA[44:10] changes the slice. -/
def Obligations.HomeOfAddress : Prop :=
  ∀ (dpa : Nat), dpa < 2 ^ 45 →
    (let set := bits dpa 16 12
     let tag := bits dpa 28 17
     homeSlice dpa < 64 ∧
     dpa / 1024 = tag * 2 ^ 18 + set * 2 ^ 6 +
       Nat.xor (homeSlice dpa) (Nat.xor (Nat.xor (set % 64) (set / 64)) (Nat.xor (Nat.xor (tag % 64) (tag / 64 % 64)) (tag / 4096)))) ∧
    ∀ b, 10 ≤ b → b < 45 → homeSlice (Nat.xor dpa (2 ^ b)) ≠ homeSlice dpa

/-- The (138,128) code: a word with no bit flipped is clean, any single flipped bit of the 138 is corrected, with its position as the syndrome, and any two flipped bits are detected and not corrected. -/
def Obligations.CodeCorrectsOneDetectsTwo : Prop :=
  eccCheck 0 = .clean ∧
  (∀ p < 138, eccCheck (BitVec.ofNat 138 (2 ^ p)) = .correctable p ∧ eccResidue (BitVec.ofNat 138 (2 ^ p)) = 0) ∧
  ∀ p q, p < q → q < 138 →
    eccCheck (BitVec.ofNat 138 (2 ^ p + 2 ^ q)) = .uncorrectable (Nat.xor p q) 0 ∧ Nat.xor p q ≠ 0

/-- The best match of a search: of the entries of the searched chart that match in a fired bank it is one with the highest priority and, among those, the lowest index; there is none exactly when no entry matches. The whole record of a search on a healthy chart, with no damaged word and a datum that is not poisoned, gives that entry's datum, priority and index and this device, and the number of entries that matched, up to 1,023. -/
def Obligations.BestMatchWins : Prop :=
  ∀ (s : State) (c width : Nat) (banks : List Nat) (key : BitVec 512),
    let taken := s.search.rows.filter fun (p : Nat × Row) => banks.contains (rowBank p.1) && s.entryMatches p.1 p.2 c width key
    (s.bestMatch c width banks key).2 = taken.length ∧
    ((s.bestMatch c width banks key).1 = none ↔ taken = []) ∧
    (∀ (i : Nat) (r : Row), (s.bestMatch c width banks key).1 = some (i, r) →
      (i, r) ∈ taken ∧ r.chart = c ∧
        ∀ (j : Nat) (x : Row), (j, x) ∈ taken → x.priority < r.priority ∨ (x.priority = r.priority ∧ i ≤ j)) ∧
    (∀ (i : Nat) (r : Row), s.chartServes c = true → (s.chart c).badWord = false → s.ras.damage = [] →
      i / 2 ∉ s.search.datumPoison →
      (s.bestMatch c (cdWidth (s.chart c).desc1) (firedBanks (s.chart c).desc1 (s.chart c).gmap key) key).1 = some (i, r) →
      (s.searchNow c key).2 = mkResult r.datum r.priority i s.deviceNumber
        (s.bestMatch c (cdWidth (s.chart c).desc1) (firedBanks (s.chart c).desc1 (s.chart c).gmap key) key).2 false false true)

/-- A doorbell of a queue states a position modulo 2N. From the queue's own port: the present position has no effect, a position within the ring's room (SQ) or its posted completions (CQ) is taken, any other is ignored with event 4004, and a queue that is not ACTIVE or RECOVERY ignores it with event 4005; bits [31:17] do not matter, and a second doorbell of the same value leaves the queue's positions as the first did. -/
def Obligations.DoorbellsStatePositions : Prop :=
  ∀ (s : State) (q port : Nat) (v : BitVec 32), s.awake → q < 4096 → port < 128 → qcPort (s.queueAt q).cfg = port →
    (let x := s.queueAt q
     let n := fld v 0 17 % (2 * x.sqSize)
     let gap := ahead n x.sqTail x.sqSize
     let room := x.sqSize - ahead x.sqTail x.sqHead x.sqSize
     let i : Instr := .sqTailDoorbell port q v
     (x.fetches = true → n = x.sqTail % (2 * x.sqSize) → exec i s = .next (s.after i id)) ∧
     (x.fetches = true → n ≠ x.sqTail % (2 * x.sqSize) → gap ≤ room →
       exec i s = .next (s.after i fun s => s.modQueue q fun x => { x with sqTail := n })) ∧
     (x.fetches = true → n ≠ x.sqTail % (2 * x.sqSize) → room < gap →
       exec i s = .next (s.after i (·.ignored q 0x4004 .note port))) ∧
     (x.fetches = false → exec i s = .next (s.after i (·.ignored q 0x4005 .note port)))) ∧
    (let x := s.queueAt q
     let n := fld v 0 17 % (2 * x.cqSize)
     let gap := ahead n x.cqHead x.cqSize
     let posted := ahead x.cqTail x.cqHead x.cqSize
     let i : Instr := .cqHeadDoorbell port q v
     (x.fetches = true → n = x.cqHead % (2 * x.cqSize) → exec i s = .next (s.after i id)) ∧
     (x.fetches = true → n ≠ x.cqHead % (2 * x.cqSize) → gap ≤ posted →
       exec i s = .next (s.after i fun s => s.modQueue q fun x => { x with cqHead := n })) ∧
     (x.fetches = true → n ≠ x.cqHead % (2 * x.cqSize) → posted < gap →
       exec i s = .next (s.after i (·.ignored q 0x4004 .note port))) ∧
     (x.fetches = false → exec i s = .next (s.after i (·.ignored q 0x4005 .note port)))) ∧
    (∀ (w : BitVec 32), fld w 0 17 = fld v 0 17 →
      exec (.sqTailDoorbell port q w) s = exec (.sqTailDoorbell port q v) s ∧
      exec (.cqHeadDoorbell port q w) s = exec (.cqHeadDoorbell port q v) s) ∧
    (∀ (t u : State), exec (.sqTailDoorbell port q v) s = .next t → exec (.sqTailDoorbell port q v) t = .next u →
      (u.queueAt q).sqTail = (t.queueAt q).sqTail) ∧
    (∀ (t u : State), exec (.cqHeadDoorbell port q v) s = .next t → exec (.cqHeadDoorbell port q v) t = .next u →
      (u.queueAt q).cqHead = (t.queueAt q).cqHead)

/-- The store buffer: with 16 stores in it later stores and atomics wait; in normal service a load whose bytes are all covered takes each from the youngest store that covers it and does not go to the home; a load that is covered in part, or in strict service any load that overlaps a store, waits; a load with PAIR that is covered whole goes to the home side for the test of its target, with the bytes that the buffer gave; and a load that meets no store goes to the home. -/
def Obligations.StoreBufferForwards : Prop :=
  (∀ (l m : List QStore) (t : QStore) (o : Nat), t.offset ≤ o → o < t.offset + t.len →
    (∀ u ∈ m, ¬(u.offset ≤ o ∧ o < u.offset + u.len)) →
    State.bufferedByte (l ++ t :: m) o = some (BitVec.ofNat 8 (fld t.data (8 * (o - t.offset)) 8))) ∧
  ∀ (s : State) (q pos : Nat) (e : QEntry), s.awake → q < 4096 → pos < 2 ^ 32 →
    (16 ≤ (s.queueAt q).stores.length →
      (s.mayIssue q pos 2 true = some e → exec (.write q pos) s = .next (s.after (.write q pos) id)) ∧
      exec (.cas128 q pos) s = .next (s.after (.cas128 q pos) id) ∧
      exec (.swap128 q pos) s = .next (s.after (.swap128 q pos) id) ∧
      exec (.fadd64 q pos) s = .next (s.after (.fadd64 q pos) id)) ∧
    (s.mayIssue q pos 1 true = some e → (s.earlier q pos).any (fun b => b.isLoad && !b.ended) = false →
      (s.queueAt q).stores.any (fun t => t.meets e.addr0 e.length) = true →
      (s.strictService q = true → exec (.read q pos) s = .next (s.after (.read q pos) id)) ∧
      (∀ i < e.length, State.bufferedByte (s.queueAt q).stores (e.addr0 + i) = none →
        exec (.read q pos) s = .next (s.after (.read q pos) id)) ∧
      (∀ (b : List Byte), s.strictService q = false → e.pair = false →
        ((List.range e.length).map fun i => State.bufferedByte (s.queueAt q).stores (e.addr0 + i)) = b.map some →
        exec (.read q pos) s = .next (s.after (.read q pos) fun s =>
          (((((s.countQueue q 0).countQueue q 6).modEntryAt q pos fun e => { e with
            issued := true, split := e.length == 32 && e.addr0 % 32 == 0 }).deliverResult q e.addr1 b false).endEntry q pos 0 0).post q)) ∧
      (∀ (b : List Byte), s.strictService q = false → e.pair = true → s.processorTakes q = true →
        ((List.range e.length).map fun i => State.bufferedByte (s.queueAt q).stores (e.addr0 + i)) = b.map some →
        exec (.read q pos) s = .next (s.after (.read q pos) fun s =>
          ((((s.modEntryAt q pos fun e => { e with issued := true }).countQueue q 0).countQueue q 6).submitOp q pos 0 (sectorOf e.addr0)
            .read { cls := .rdNc, off := e.addr0 % 64, len := e.length }
            (some { data := BitVec.ofNat 512 (ofLe b * 2 ^ (8 * (e.addr0 % 64))) }))))) ∧
    (s.mayIssue q pos 1 true = some e → (s.earlier q pos).any (fun b => b.isLoad && !b.ended) = false →
      (s.queueAt q).stores.any (fun t => t.meets e.addr0 e.length) = false → s.processorTakes q = true →
      exec (.read q pos) s = .next (s.after (.read q pos) fun s =>
        ((s.modEntryAt q pos fun e => { e with issued := true }).countQueue q 0).submitOp q pos 0 (sectorOf e.addr0) .read
          { cls := .rdNc, off := e.addr0 % 64, len := e.length }))

/-- A write through the Chamber RAM window of a port: when every byte lies in an area of the port and no word of the device is damaged, the written bytes read as written and every other byte of Chamber RAM reads as before; when a byte lies outside every area nothing is written; and a read with no damaged word leaves every byte as it was. -/
def Obligations.WindowWritesItsBytes : Prop :=
  ∀ (s t : State) (port off : Nat), Memory.wf s.queue.chamber = true →
    (∀ (b : List Byte), exec (.chamberWindowAccess port off b.length (some b)) s = .next t → s.awake → s.ras.damage = [] →
      (∀ i < b.length, ∃ a ∈ s.portAreas port false, a.1 ≤ off + i ∧ off + i < a.1 + a.2) →
      memRead t.queue.chamber off b.length = b ∧
        ∀ a, a < off ∨ off + b.length ≤ a → memByte t.queue.chamber a = memByte s.queue.chamber a) ∧
    (∀ (b : List Byte) (i : Nat), exec (.chamberWindowAccess port off b.length (some b)) s = .next t → i < b.length →
      (∀ a ∈ s.portAreas port false, off + i < a.1 ∨ a.1 + a.2 ≤ off + i) →
      ∀ a, memByte t.queue.chamber a = memByte s.queue.chamber a) ∧
    (∀ (len : Nat), exec (.chamberWindowAccess port off len none) s = .next t → s.ras.damage = [] →
      ∀ a, memByte t.queue.chamber a = memByte s.queue.chamber a)

/-- The atomics on the bytes of a sector: each returns the old value; CAS128 writes the new 16 bytes exactly when the old ones equal the compare value, SWAP128 always does, FADD64 writes the sum modulo 2^64 of 8 bytes, and every byte of the sector outside the 16, or 8, keeps its value. -/
def Obligations.AtomicsOnBytes : Prop :=
  ∀ (d : Sector) (dpa : Nat) (c n : Word128) (a : Word64),
    let byte := fun (x : Sector) (i : Nat) => fld x (8 * i) 8
    (dpa % 64 + 16 ≤ 64 →
      (∀ op ∈ [AtomicOp.cas c n, AtomicOp.swap n], (op.apply dpa d).1.toNat = fld d (8 * (dpa % 64)) 128) ∧
      (fld d (8 * (dpa % 64)) 128 ≠ c.toNat → (AtomicOp.cas c n).apply dpa d = (BitVec.ofNat 128 (fld d (8 * (dpa % 64)) 128), none, false)) ∧
      (fld d (8 * (dpa % 64)) 128 = c.toNat → (AtomicOp.cas c n).apply dpa d = (AtomicOp.swap n).apply dpa d) ∧
      ∃ x, ((AtomicOp.swap n).apply dpa d).2 = (some x, true) ∧ fld x (8 * (dpa % 64)) 128 = n.toNat ∧
        ∀ i < 64, i < dpa % 64 ∨ dpa % 64 + 16 ≤ i → byte x i = byte d i) ∧
    (dpa % 64 + 8 ≤ 64 →
      ((AtomicOp.fadd a).apply dpa d).1.toNat = fld d (8 * (dpa % 64)) 64 ∧
      ∃ x, ((AtomicOp.fadd a).apply dpa d).2 = (some x, true) ∧
        fld x (8 * (dpa % 64)) 64 = (fld d (8 * (dpa % 64)) 64 + a.toNat) % 2 ^ 64 ∧
        ∀ i < 64, i < dpa % 64 ∨ dpa % 64 + 8 ≤ i → byte x i = byte d i)

/-- Folding in the event log: a NOTE or CONTAINED occurrence whose section sets no interval of its own and whose code and DETAIL equal those of a record first made less than NOTE_LOG_INTERVAL (object 4220:01, in ms) ago changes nothing but that record's COUNT, which grows by 1 up to 65,535; every other occurrence makes a record of its own at the end of the log of 4,096, so that one of class DEGRADED or above is never folded. -/
def Obligations.RepeatsFold : Prop :=
  ∀ (s : State) (e : Event),
    (∀ (a b : List LogRecord) (r : LogRecord), s.ras.log = a ++ r :: b → e.cls = .note ∨ e.cls = .contained → e.ownInterval = false →
      r.event = e.code → r.detail = e.detail → s.now < r.at_ + s.reg 0x4220 1 * 1000000 →
      (∀ x ∈ a ++ b, ¬(x.event = e.code ∧ x.detail = e.detail ∧ s.now < x.at_ + s.reg 0x4220 1 * 1000000)) →
      s.logEvent e = { s with ras := { s.ras with log := a ++ { r with count := min (r.count + 1) 65535 } :: b } }) ∧
    ((e.cls ≠ .note ∧ e.cls ≠ .contained) ∨ e.ownInterval = true ∨
      (∀ x ∈ s.ras.log, ¬(x.event = e.code ∧ x.detail = e.detail ∧ s.now < x.at_ + s.reg 0x4220 1 * 1000000)) →
      (s.logEvent e).ras.log = (if 4096 ≤ s.ras.log.length then s.ras.log.drop 1 else s.ras.log) ++ [s.newRecord e] ∧
      (s.logEvent e).ras.nextSeq = s.ras.nextSeq + 1)

/-! ### Frames -/

/-- The frame of the queue commands that only take up their entry: ZERO, COPY and WRITE leave every byte of Chamber RAM, every other queue, the state, configuration and ring positions of their own queue, and every other part of the device as they are; WRITE also counts itself in its queue processor's event counter, and in no other when no counter has bad parity (R318). -/
def Obligations.QueueEntryFrame : Prop :=
  ∀ (s t : State) (q pos : Nat) (i : Instr), s.Inv → i ∈ [Instr.zero q pos, .copy q pos, .write q pos] → exec i s = .next t →
    (∀ a, memByte t.queue.chamber a = memByte s.queue.chamber a) ∧
    (∀ p, p ≠ q → t.queueAt p = s.queueAt p) ∧
    (let x := s.queueAt q
     let y := t.queueAt q
     y.st = x.st ∧ y.cfg = x.cfg ∧ y.sqBase = x.sqBase ∧ y.cqBase = x.cqBase ∧ y.sqTail = x.sqTail ∧ y.sqHead = x.sqHead ∧
       y.cqTail = x.cqTail ∧ y.cqHead = x.cqHead) ∧
    t.slices = s.slices ∧ t.cache = s.cache ∧ t.home = s.home ∧ t.tenant = s.tenant ∧ t.prot = s.prot ∧ t.search = s.search ∧
    t.link = s.link ∧ t.canal = s.canal ∧ t.mgmt = s.mgmt ∧ t.power = s.power ∧ t.now = s.now ∧ t.canalTime = s.canalTime ∧
    (i ≠ .write q pos → t.regs = s.regs ∧ t.ras = s.ras ∧ t.counter = s.counter ∧ (t.queueAt q).stores = (s.queueAt q).stores) ∧
    (s.counter.badParity = [] → t.regs = s.regs ∧ t.ras = s.ras ∧
      ∀ n, n ≠ 1280 + 8 * (q % 32) + 1 → Table.get 0 t.counter.counters n = Table.get 0 s.counter.counters n)

/-- The frame of the events that concern one port or link: IDE activation, the commit of a decoder and a successful enumeration change nothing but their port, and the retry timer and the expiry of the tail record nothing but their link. -/
def Obligations.OnePortOrLinkChanges : Prop :=
  ∀ (s t : State) (n : Nat) (i : Instr), s.Inv → exec i s = .next t →
    ((∃ b, i = .hdmDecoderCommit n b) ∨ i = .ideActivation n ∨ i = .poolEnumerationDone n true →
      t = { s with link := { s.link with ports := t.link.ports } } ∧ ∀ p, p ≠ n → t.port p = s.port p) ∧
    (i = .linkRetryTimer n ∨ i = .tailRecordExpiry n →
      t = { s with link := { s.link with links := t.link.links } } ∧ ∀ l, l ≠ n → t.linkAt l = s.linkAt l)

/-- The frame of the queries: the mailbox, MCTP and field-bus queries change nothing but what has left the device and the count of free values taken. -/
def Obligations.QueriesOnlyAnswer : Prop :=
  ∀ (s t : State) (port : Nat) (bus : Bool) (a b : Word128) (payload : List Byte) (i : Instr), s.Inv →
    i ∈ [Instr.identifyDevice port, .backgroundOperationStatus port, .getEventRecords port, .clearEventRecords port,
      .getEventInterruptPolicy port, .getFwInfo port, .transferFw port, .activateFw port, .getSupportedLogs port, .getLog port,
      .identifyMemoryDevice port, .getEndpointId, .getMctpVersionSupport, .getMessageTypeSupport, .getVendorDefinedMessageSupport,
      .neighbourDiscovery bus a b, .icmpv6Echo bus a b payload] →
    exec i s = .next t → t = { s with out := t.out, free := t.free }

/-- The frame of steps that change one thing: a duplicate record's expiry changes the duplicate records of the table clients, RK_VALUE the watch list, an announcement the pending epoch, a TIME flit's sending when the next is due, an acknowledge the trackers of the slices, a set policy its port, an assigned address the I3C address, and PFAIL_N high what is known of PFAIL_N; SPEC with a tag of 16 bits changes the counters alone when none has bad parity. Nothing else changes but what has left the device. -/
def Obligations.OneThingChanges : Prop :=
  ∀ (s t : State), s.Inv →
    (∀ (c q : Nat), exec (.dedupRecordExpiry c q) s = .next t → t = { s with search := { s.search with dedup := t.search.dedup } }) ∧
    (∀ (d : Nat), exec (.rkValue d) s = .next t → t = { s with prot := { s.prot with watch := t.prot.watch } }) ∧
    (∀ (e l : Nat) (ms : List Nat) (at_ : Nat), exec (.epochAnnounce e l ms at_) s = .next t →
      t = { s with canal := { s.canal with pending := t.canal.pending } }) ∧
    (exec .timeFlitSend s = .next t → t = { s with canal := { s.canal with nextTimeSend := t.canal.nextTimeSend }, out := t.out }) ∧
    (∀ (d : Nat), exec (.requesterAck d) s = .next t → t = { s with slices := t.slices }) ∧
    (∀ (p : Nat) (w : BitVec 32), exec (.setEventInterruptPolicy p w) s = .next t →
      t = { s with link := { s.link with ports := t.link.ports }, out := t.out } ∧ ∀ n, n ≠ p → t.port n = s.port n) ∧
    (∀ (a : BitVec 7), exec (.dynamicAddressAssignment a) s = .next t → t = { s with mgmt := { s.mgmt with i3cAddress := t.mgmt.i3cAddress } }) ∧
    (exec .pfailNHigh s = .next t → t = { s with power := { s.power with pfailLow := false, pfailStuck := false } }) ∧
    (∀ (p h g : Nat), s.counter.badParity = [] → g < 2 ^ 16 → exec (.spec p h g) s = .next t → t = { s with counter := { s.counter with
      counters := t.counter.counters } })
end

