-- ==== Sys2Proof/Laws/Exec.lean ====
section
/-! SUPPORT. Each command's meaning as the run of its effect: what a proof about a command starts from. -/

namespace Sys2Proof.Machine

theorem exec_rdS (port hpa tag : Nat) (s : State) : exec (.rdS port hpa tag) s =
  run (.rdS port hpa tag) s fun s => s.hostRequest port hpa tag .rdS ⟨0, 0, false⟩ false := rfl

theorem exec_rdAny (port hpa tag : Nat) (s : State) : exec (.rdAny port hpa tag) s =
  run (.rdAny port hpa tag) s fun s => s.hostRequest port hpa tag .rdAny ⟨0, 0, false⟩ false := rfl

theorem exec_rdOwn (port hpa tag : Nat) (s : State) : exec (.rdOwn port hpa tag) s =
  run (.rdOwn port hpa tag) s fun s => s.hostRequest port hpa tag .rdOwn ⟨0, 0, false⟩ false := rfl

theorem exec_upg (port hpa tag : Nat) (s : State) : exec (.upg port hpa tag) s =
  run (.upg port hpa tag) s fun s => s.hostRequest port hpa tag .upg ⟨0, 0, false⟩ false := rfl

theorem exec_rdNc (port hpa tag : Nat) (s : State) : exec (.rdNc port hpa tag) s =
  run (.rdNc port hpa tag) s fun s => s.hostRequest port hpa tag .rdNc ⟨0, 0, false⟩ false := rfl

theorem exec_invNc (port hpa tag : Nat) (s : State) : exec (.invNc port hpa tag) s =
  run (.invNc port hpa tag) s fun s => s.hostRequest port hpa tag .invNc ⟨0, 0, false⟩ false := rfl

theorem exec_wrNc (port hpa tag : Nat) (w : WriteData) (s : State) : exec (.wrNc port hpa tag w) s =
  run (.wrNc port hpa tag w) s fun s => s.hostRequest port hpa tag .wrNc w false := rfl

theorem exec_wbI (port hpa tag : Nat) (w : WriteData) (s : State) : exec (.wbI port hpa tag w) s =
  run (.wbI port hpa tag w) s fun s => s.hostRequest port hpa tag .wbI w false := rfl

theorem exec_wbS (port hpa tag : Nat) (w : WriteData) (s : State) : exec (.wbS port hpa tag w) s =
  run (.wbS port hpa tag w) s fun s => s.hostRequest port hpa tag .wbS w false := rfl

theorem exec_wbE (port hpa tag : Nat) (w : WriteData) (s : State) : exec (.wbE port hpa tag w) s =
  run (.wbE port hpa tag w) s fun s => s.hostRequest port hpa tag .wbE w false := rfl

theorem exec_clnEvict (port hpa tag : Nat) (s : State) : exec (.clnEvict port hpa tag) s =
  run (.clnEvict port hpa tag) s fun s => s.hostRequest port hpa tag .clnEvict ⟨0, 0, false⟩ false := rfl

theorem exec_spec (port hpa tag : Nat) (s : State) : exec (.spec port hpa tag) s =
  run (.spec port hpa tag) s fun s =>
    if s.isFatal || !s.portServes port hpa false then s
    else if 65536 ≤ tag then s.violation 0x3016 s.position port 0
    else s.count (1024 + 2 * s.decodeQuad port hpa) := rfl

theorem exec_cxlIoMemoryRequest (port hpa tag : Nat) (w : Option WriteData) (s : State) : exec (.cxlIoMemoryRequest port hpa tag w) s =
  run (.cxlIoMemoryRequest port hpa tag w) s fun s =>
    match w with
    | none => s.hostRequest port hpa tag .rdNc ⟨0, 0, false⟩ true
    | some w => s.hostRequest port hpa tag .wrNc w true := rfl

theorem exec_lookasideMissResult (unit : LookUnit) (s : State) : exec (.lookasideMissResult unit) s =
  run (.lookasideMissResult unit) s fun s => s.lookResult unit := rfl

theorem exec_admissionRequest (unit : LookUnit) (s : State) : exec (.admissionRequest unit) s =
  run (.admissionRequest unit) s fun s => s.admission unit := rfl

theorem exec_guaranteeMiss (txn : Nat) (s : State) : exec (.guaranteeMiss txn) s =
  run (.guaranteeMiss txn) s fun s => s.guaranteeMissed txn := rfl

theorem exec_fill (slice reg : Nat) (s : State) : exec (.fill slice reg) s =
  run (.fill slice reg) s fun s => s.fillRegister slice reg := rfl

theorem exec_missWaitServe (slice : Nat) (s : State) : exec (.missWaitServe slice) s =
  run (.missWaitServe slice) s fun s => s.serveMissWait slice := rfl

theorem exec_writeBufferWaitReadIssue (slice reg : Nat) (s : State) : exec (.writeBufferWaitReadIssue slice reg) s =
  run (.writeBufferWaitReadIssue slice reg) s fun s => s.issueWaited slice reg := rfl

theorem exec_crossBlockPrefetch (dpa region svc : Nat) (s : State) : exec (.crossBlockPrefetch dpa region svc) s =
  run (.crossBlockPrefetch dpa region svc) s fun s => s.crossPrefetch dpa region svc := rfl

theorem exec_writeBufferAdmit (slice : Nat) (s : State) : exec (.writeBufferAdmit slice) s =
  run (.writeBufferAdmit slice) s fun s => s.admitWrite slice := rfl

theorem exec_mergeWindowExpiry (slice dpa : Nat) (s : State) : exec (.mergeWindowExpiry slice dpa) s =
  run (.mergeWindowExpiry slice dpa) s fun s => s.expireMerge slice dpa := rfl

theorem exec_pendingPoolWriteIssue (slice dpa : Nat) (s : State) : exec (.pendingPoolWriteIssue slice dpa) s =
  run (.pendingPoolWriteIssue slice dpa) s fun s => s.sendNext slice dpa := rfl

theorem exec_poolWriteEncrypt (id : Nat) (s : State) : exec (.poolWriteEncrypt id) s =
  run (.poolWriteEncrypt id) s fun s => s.encryptWrite id := rfl

theorem exec_pageReencryptReadsDone (id : Nat) (answers : List PoolAnswer) (s : State) : exec (.pageReencryptReadsDone id answers) s =
  run (.pageReencryptReadsDone id answers) s fun s => s.pageDone id answers := rfl

theorem exec_poolWriteCompletion (id : Nat) (ok : Bool) (s : State) : exec (.poolWriteCompletion id ok) s =
  run (.poolWriteCompletion id ok) s fun s => s.writeCompleted id ok := rfl

theorem exec_poolReadResponse (id : Nat) (answer : PoolAnswer) (s : State) : exec (.poolReadResponse id answer) s =
  run (.poolReadResponse id answer) s fun s => s.readResponse id answer := rfl

theorem exec_poolTimeoutExpiry (id : Nat) (s : State) : exec (.poolTimeoutExpiry id) s =
  run (.poolTimeoutExpiry id) s fun s => s.poolTimeout id := rfl

theorem exec_cacheEnable (client : Client) (ctag : Nat) (s : State) : exec (.cacheEnable client ctag) s =
  run (.cacheEnable client ctag) s fun s => s.command client 0x2201 ctag [] := rfl

theorem exec_cacheDisable (client : Client) (ctag : Nat) (s : State) : exec (.cacheDisable client ctag) s =
  run (.cacheDisable client ctag) s fun s => s.command client 0x2202 ctag [] := rfl

theorem exec_cacheInvalidate (client : Client) (ctag : Nat) (s : State) : exec (.cacheInvalidate client ctag) s =
  run (.cacheInvalidate client ctag) s fun s => s.command client 0x2203 ctag [] := rfl

theorem exec_cacheMoor (client : Client) (ctag : Nat) (ways : Nat) (s : State) : exec (.cacheMoor client ctag ways) s =
  run (.cacheMoor client ctag ways) s fun s => s.command client 0x2204 ctag (fieldBytes ways 1) := rfl

theorem exec_cacheUndrydock (client : Client) (ctag : Nat) (slice way : Nat) (s : State) : exec (.cacheUndrydock client ctag slice way) s =
  run (.cacheUndrydock client ctag slice way) s fun s => s.command client 0x2205 ctag (fieldBytes slice 1 ++ fieldBytes way 1) := rfl

theorem exec_requesterAck (dpa : Nat) (s : State) : exec (.requesterAck dpa) s =
  run (.requesterAck dpa) s fun s => s.ackGrant dpa := rfl

theorem exec_blockedRequestStart (slice : Nat) (s : State) : exec (.blockedRequestStart slice) s =
  run (.blockedRequestStart slice) s fun s => s.startBlocked slice := rfl

theorem exec_dwellElapsed (dpa : Nat) (s : State) : exec (.dwellElapsed dpa) s =
  run (.dwellElapsed dpa) s fun s => s.dwellElapsed dpa := rfl

theorem exec_reverseWalkDone (port dpa marker : Nat) (s : State) : exec (.reverseWalkDone port dpa marker) s =
  run (.reverseWalkDone port dpa marker) s fun s => s.walkDone port dpa marker := rfl

theorem exec_birspi (source : SnoopSource) (blk : Bool) (s : State) : exec (.birspi source blk) s =
  run (.birspi source blk) s fun s => s.snoopAnswer source 0 blk := rfl

theorem exec_birsps (source : SnoopSource) (blk : Bool) (s : State) : exec (.birsps source blk) s =
  run (.birsps source blk) s fun s => s.snoopAnswer source 1 blk := rfl

theorem exec_birspe (source : SnoopSource) (blk : Bool) (s : State) : exec (.birspe source blk) s =
  run (.birspe source blk) s fun s => s.snoopAnswer source 2 blk := rfl

theorem exec_biconflict (port hpa : Nat) (s : State) : exec (.biconflict port hpa) s =
  run (.biconflict port hpa) s fun s => s.conflict port hpa := rfl

theorem exec_snoopTimeout (dpa : Nat) (s : State) : exec (.snoopTimeout dpa) s =
  run (.snoopTimeout dpa) s fun s => s.snoopTimeout dpa := rfl

theorem exec_poisonWriteDone (dpa : Nat) (s : State) : exec (.poisonWriteDone dpa) s =
  run (.poisonWriteDone dpa) s fun s => s.poisonWriteDone dpa := rfl

theorem exec_poisonRetry (dpa : Nat) (s : State) : exec (.poisonRetry dpa) s =
  run (.poisonRetry dpa) s fun s => s.retryPoison dpa := rfl

theorem exec_setRecallSweepStep (slice set : Nat) (s : State) : exec (.setRecallSweepStep slice set) s =
  run (.setRecallSweepStep slice set) s fun s => s.setRecallStep slice set := rfl

theorem exec_forwardedSnoop (home : Nat) (kind : SnoopKind) (whom : SnoopWhom) (dpa : Nat) (s : State) : exec (.forwardedSnoop home kind whom dpa) s =
  run (.forwardedSnoop home kind whom dpa) s fun s => s.peerSnoop home kind whom dpa := rfl

theorem exec_forwardedResponse (peer tag : Nat) (data : Option Sector) (poison : Bool) (cmp : Nat) (s : State) : exec (.forwardedResponse peer tag data poison cmp) s =
  run (.forwardedResponse peer tag data poison cmp) s fun s => s.forwardedResponse peer tag data poison cmp := rfl

theorem exec_queueEnable (client : Client) (queue : Nat) (s : State) : exec (.queueEnable client queue) s =
  run (.queueEnable client queue) s fun s => s.namedWrite client 0x2600 4 [1] (some (0x2600, queue)) := rfl

theorem exec_queueDisable (client : Client) (queue : Nat) (s : State) : exec (.queueDisable client queue) s =
  run (.queueDisable client queue) s fun s => s.namedWrite client 0x2600 4 [2] (some (0x2600, queue)) := rfl

theorem exec_queueReset (client : Client) (queue : Nat) (s : State) : exec (.queueReset client queue) s =
  run (.queueReset client queue) s fun s => s.namedWrite client 0x2600 4 [3] (some (0x2600, queue)) := rfl

theorem exec_queueDrainDone (queue : Nat) (s : State) : exec (.queueDrainDone queue) s =
  run (.queueDrainDone queue) s fun s => s.queueDrained queue := rfl

theorem exec_sqTailDoorbell (port queue : Nat) (value : BitVec 32) (s : State) : exec (.sqTailDoorbell port queue value) s =
  run (.sqTailDoorbell port queue value) s fun s => s.sqDoorbell port queue value := rfl

theorem exec_cqHeadDoorbell (port queue : Nat) (value : BitVec 32) (s : State) : exec (.cqHeadDoorbell port queue value) s =
  run (.cqHeadDoorbell port queue value) s fun s => s.cqDoorbell port queue value := rfl

theorem exec_chamberWindowAccess (port offset len : Nat) (write : Option (List Byte)) (s : State) : exec (.chamberWindowAccess port offset len write) s =
  run (.chamberWindowAccess port offset len write) s fun s => s.windowAccess port offset len write := rfl

theorem exec_entryFetch (queue : Nat) (hostRead : Option Sector) (s : State) : exec (.entryFetch queue hostRead) s =
  run (.entryFetch queue hostRead) s fun s => s.fetchEntry queue hostRead := rfl

theorem exec_read (queue pos : Nat) (s : State) : exec (.read queue pos) s =
  run (.read queue pos) s fun s => s.issueRead queue pos := rfl

theorem exec_write (queue pos : Nat) (s : State) : exec (.write queue pos) s =
  run (.write queue pos) s fun s => s.issueWrite queue pos := rfl

theorem exec_cas128 (queue pos : Nat) (s : State) : exec (.cas128 queue pos) s =
  run (.cas128 queue pos) s fun s =>
    s.issueAtomic queue pos 0x10 fun e => .cas (BitVec.ofNat 128 (fld e.data 0 128)) (BitVec.ofNat 128 (fld e.data 128 128)) := rfl

theorem exec_swap128 (queue pos : Nat) (s : State) : exec (.swap128 queue pos) s =
  run (.swap128 queue pos) s fun s => s.issueAtomic queue pos 0x11 fun e => .swap (BitVec.ofNat 128 (fld e.data 0 128)) := rfl

theorem exec_fadd64 (queue pos : Nat) (s : State) : exec (.fadd64 queue pos) s =
  run (.fadd64 queue pos) s fun s => s.issueAtomic queue pos 0x12 fun e => .fadd (BitVec.ofNat 64 (fld e.data 0 64)) := rfl

theorem exec_zero (queue pos : Nat) (s : State) : exec (.zero queue pos) s =
  run (.zero queue pos) s fun s => s.issueBulk queue pos 0x20 := rfl

theorem exec_copy (queue pos : Nat) (s : State) : exec (.copy queue pos) s =
  run (.copy queue pos) s fun s => s.issueBulk queue pos 0x21 := rfl

theorem exec_search (queue pos : Nat) (s : State) : exec (.search queue pos) s =
  run (.search queue pos) s fun s => s.issueSearchEntry queue pos := rfl

theorem exec_searchBurst (queue pos : Nat) (hostKeys : List Byte) (s : State) : exec (.searchBurst queue pos hostKeys) s =
  run (.searchBurst queue pos hostKeys) s fun s => s.issueBurst queue pos hostKeys := rfl

theorem exec_table (queue pos : Nat) (hostBlock : List Byte) (s : State) : exec (.table queue pos hostBlock) s =
  run (.table queue pos hostBlock) s fun s => s.issueTable queue pos hostBlock := rfl

theorem exec_fenceL (queue pos : Nat) (s : State) : exec (.fenceL queue pos) s =
  run (.fenceL queue pos) s fun s => s.issueFence queue pos 0x40 := rfl

theorem exec_fenceS (queue pos : Nat) (s : State) : exec (.fenceS queue pos) s =
  run (.fenceS queue pos) s fun s => s.issueFence queue pos 0x41 := rfl

theorem exec_fenceF (queue pos : Nat) (s : State) : exec (.fenceF queue pos) s =
  run (.fenceF queue pos) s fun s => s.issueFence queue pos 0x42 := rfl

theorem exec_storeBufferIssue (queue : Nat) (s : State) : exec (.storeBufferIssue queue) s =
  run (.storeBufferIssue queue) s fun s => s.issueStore queue := rfl

theorem exec_queueResponse (qp : Nat) (s : State) : exec (.queueResponse qp) s =
  run (.queueResponse qp) s fun s => s.queueResponse qp := rfl

theorem exec_searchResult (id : Nat) (s : State) : exec (.searchResult id) s =
  run (.searchResult id) s fun s => s.searchResult id := rfl

theorem exec_chartCommit (client : Client) (ctag : Nat) (chart : Nat) (s : State) : exec (.chartCommit client ctag chart) s =
  run (.chartCommit client ctag chart) s fun s => s.command client 0x3001 ctag (fieldBytes chart 1) := rfl

theorem exec_chartDrop (client : Client) (ctag : Nat) (chart : Nat) (s : State) : exec (.chartDrop client ctag chart) s =
  run (.chartDrop client ctag chart) s fun s => s.command client 0x3002 ctag (fieldBytes chart 1) := rfl

theorem exec_chartMove (client : Client) (ctag : Nat) (chart : Nat) (s : State) : exec (.chartMove client ctag chart) s =
  run (.chartMove client ctag chart) s fun s => s.command client 0x3003 ctag (fieldBytes chart 1) := rfl

theorem exec_chartAdmit (client : Client) (ctag : Nat) (chart device : Nat) (s : State) : exec (.chartAdmit client ctag chart device) s =
  run (.chartAdmit client ctag chart device) s fun s => s.command client 0x3004 ctag (fieldBytes chart 2 ++ fieldBytes device 2) := rfl

theorem exec_chartRelease (client : Client) (ctag : Nat) (chart device : Nat) (s : State) : exec (.chartRelease client ctag chart device) s =
  run (.chartRelease client ctag chart device) s fun s => s.command client 0x3005 ctag (fieldBytes chart 2 ++ fieldBytes device 2) := rfl

theorem exec_tableExec (client : Client) (ctag : Nat) (chart : Nat) (block : List Byte) (s : State) : exec (.tableExec client ctag chart block) s =
  run (.tableExec client ctag chart block) s fun s => s.command client 0x3101 ctag (fieldBytes chart 16 ++ block) := rfl

theorem exec_insert (chart : Nat) (s : State) : exec (.insert chart) s =
  run (.insert chart) s fun s => (s.startTable chart 1 State.startInsert).settleCharts := rfl

theorem exec_delete (chart : Nat) (s : State) : exec (.delete chart) s =
  run (.delete chart) s fun s => (s.startTable chart 2 State.startDelete).settleCharts := rfl

theorem exec_modify (chart : Nat) (s : State) : exec (.modify chart) s =
  run (.modify chart) s fun s => (s.startTable chart 3 State.startModify).settleCharts := rfl

theorem exec_readback (chart : Nat) (s : State) : exec (.readback chart) s =
  run (.readback chart) s fun s => (s.startTable chart 4 State.startReadback).settleCharts := rfl

theorem exec_tableSubOperation (owner chart : Nat) (op : TaggedOp) (entry : Nat) (value mask : BitVec 512) (priority : Nat) (datum : BitVec 64) (s : State) : exec (.tableSubOperation owner chart op entry value mask priority datum) s =
  run (.tableSubOperation owner chart op entry value mask priority datum) s fun s =>
    s.subOperation owner chart op.tag op.op entry { chart := chart, value := value, mask := mask, priority := priority, datum := datum } := rfl

theorem exec_holderConfirm (holder tag : Nat) (ok : Bool) (index rows : Nat) (result : List Byte) (s : State) : exec (.holderConfirm holder tag ok index rows result) s =
  run (.holderConfirm holder tag ok index rows result) s fun s => (s.holderConfirmed holder tag ok index rows result).settleCharts := rfl

theorem exec_holderConfirmTimeout (entry : Nat) (s : State) : exec (.holderConfirmTimeout entry) s =
  run (.holderConfirmTimeout entry) s fun s => (s.confirmTimeout entry).settleCharts := rfl

theorem exec_dedupRecordExpiry (client cseq : Nat) (s : State) : exec (.dedupRecordExpiry client cseq) s =
  run (.dedupRecordExpiry client cseq) s fun s => s.expireRecord client cseq := rfl

theorem exec_prepare (coordinator chart generation : Nat) (word1 word0 : Word128) (dmap members : List Nat) (drop : Bool) (instant : Nat) (s : State) : exec (.prepare coordinator chart generation word1 word0 dmap members drop instant) s =
  run (.prepare coordinator chart generation word1 word0 dmap members drop instant) s fun s =>
    s.prepared chart { coordinator := coordinator, generation := generation, word1 := word1, word0 := word0, dmap := dmap
                       members := members, drop := drop, instant := instant, started := s.now } := rfl

theorem exec_ready (member chart : Nat) (reply : SpanReply) (s : State) : exec (.ready member chart reply) s =
  run (.ready member chart reply) s fun s => s.readyFrom member chart reply := rfl

theorem exec_spanReadyDeadline (chart : Nat) (s : State) : exec (.spanReadyDeadline chart) s =
  run (.spanReadyDeadline chart) s fun s => s.readyDeadline chart := rfl

theorem exec_abort (chart generation : Nat) (s : State) : exec (.abort chart generation) s =
  run (.abort chart generation) s fun s => s.aborted chart generation := rfl

theorem exec_spanApply (chart : Nat) (s : State) : exec (.spanApply chart) s =
  run (.spanApply chart) s fun s => s.applySpan chart := rfl

theorem exec_applied (member chart : Nat) (s : State) : exec (.applied member chart) s =
  run (.applied member chart) s fun s => s.appliedBy member chart := rfl

theorem exec_spanConfirmTimeout (chart : Nat) (s : State) : exec (.spanConfirmTimeout chart) s =
  run (.spanConfirmTimeout chart) s fun s => s.spanTimeout chart := rfl

theorem exec_cascadeLaunch (id : Nat) (s : State) : exec (.cascadeLaunch id) s =
  run (.cascadeLaunch id) s fun s => s.launch id := rfl

theorem exec_partRequest (link chart gen : Nat) (stamp : BitVec 32) (launch : Nat) (key : BitVec 512) (s : State) : exec (.partRequest link chart gen stamp launch key) s =
  run (.partRequest link chart gen stamp launch key) s fun s => s.partArrives link chart gen stamp launch key := rfl

theorem exec_partNoSlot (id : Nat) (s : State) : exec (.partNoSlot id) s =
  run (.partNoSlot id) s fun s => s.partNoSlot id := rfl

theorem exec_partAnswer (link member launch : Nat) (answer : PartAnswer) (s : State) : exec (.partAnswer link member launch answer) s =
  run (.partAnswer link member launch answer) s fun s => s.partAnswered link member launch answer := rfl

theorem exec_relayDeadline (id : Nat) (s : State) : exec (.relayDeadline id) s =
  run (.relayDeadline id) s fun s => s.relayDue id := rfl

theorem exec_cascadeRelease (id : Nat) (s : State) : exec (.cascadeRelease id) s =
  run (.cascadeRelease id) s fun s => s.release id := rfl

theorem exec_nodeReadResponse (id : Nat) (answers : List PoolAnswer) (s : State) : exec (.nodeReadResponse id answers) s =
  run (.nodeReadResponse id answers) s fun s => s.nodeReads id answers := rfl

theorem exec_nodeWritebackDone (root level index : Nat) (ok : Bool) (s : State) : exec (.nodeWritebackDone root level index ok) s =
  run (.nodeWritebackDone root level index ok) s fun s => s.writebackDone root level index ok := rfl

theorem exec_nodeRetry (root level index : Nat) (s : State) : exec (.nodeRetry root level index) s =
  run (.nodeRetry root level index) s fun s => s.retryNode root level index := rfl

theorem exec_rkValue (dpa : Nat) (s : State) : exec (.rkValue dpa) s =
  run (.rkValue dpa) s fun s => s.rkValue dpa := rfl

theorem exec_rkWriteStart (dpa : Nat) (s : State) : exec (.rkWriteStart dpa) s =
  run (.rkWriteStart dpa) s fun s => s.rkWriteStart dpa := rfl

theorem exec_protInit (client : Client) (ctag : Nat) (root : Nat) (s : State) : exec (.protInit client ctag root) s =
  run (.protInit client ctag root) s fun s => s.command client 0x4001 ctag (fieldBytes root 2) := rfl

theorem exec_protRelease (client : Client) (ctag : Nat) (root : Nat) (s : State) : exec (.protRelease client ctag root) s =
  run (.protRelease client ctag root) s fun s => s.command client 0x4002 ctag (fieldBytes root 2) := rfl

theorem exec_protReknit (client : Client) (ctag : Nat) (root slot : Nat) (s : State) : exec (.protReknit client ctag root slot) s =
  run (.protReknit client ctag root slot) s fun s => s.command client 0x4003 ctag (fieldBytes root 2 ++ fieldBytes slot 2) := rfl

theorem exec_protEnable (client : Client) (ctag : Nat) (s : State) : exec (.protEnable client ctag) s =
  run (.protEnable client ctag) s fun s => s.command client 0x4004 ctag [] := rfl

theorem exec_protDisable (client : Client) (ctag : Nat) (s : State) : exec (.protDisable client ctag) s =
  run (.protDisable client ctag) s fun s => s.command client 0x4005 ctag [] := rfl

theorem exec_kekEstablish (client : Client) (ctag : Nat) (publicKey : List Byte) (s : State) : exec (.kekEstablish client ctag publicKey) s =
  run (.kekEstablish client ctag publicKey) s fun s => s.command client 0x4006 ctag publicKey := rfl

theorem exec_kekClear (client : Client) (ctag : Nat) (s : State) : exec (.kekClear client ctag) s =
  run (.kekClear client ctag) s fun s => s.command client 0x4007 ctag [] := rfl

theorem exec_keyLoad (client : Client) (ctag : Nat) (slot : Nat) (wrapped : List Byte) (s : State) : exec (.keyLoad client ctag slot wrapped) s =
  run (.keyLoad client ctag slot wrapped) s fun s => s.command client 0x4008 ctag (fieldBytes slot 2 ++ wrapped) := rfl

theorem exec_keyErase (client : Client) (ctag : Nat) (slot : Nat) (s : State) : exec (.keyErase client ctag slot) s =
  run (.keyErase client ctag slot) s fun s => s.command client 0x4009 ctag (fieldBytes slot 2) := rfl

theorem exec_scrubRead (bucket : Nat) (s : State) : exec (.scrubRead bucket) s =
  run (.scrubRead bucket) s fun s => s.scrubNext bucket := rfl

theorem exec_bucketLeak (cls : Nat) (s : State) : exec (.bucketLeak cls) s =
  run (.bucketLeak cls) s fun s => s.bucketLeak cls := rfl

theorem exec_hostNotify (port : Nat) (s : State) : exec (.hostNotify port) s =
  run (.hostNotify port) s fun s => s.hostNotify port := rfl

theorem exec_transportNotify (transport : Transport) (s : State) : exec (.transportNotify transport) s =
  run (.transportNotify transport) s fun s => s.transportNotify transport := rfl

theorem exec_alertAck (client : Client) (seq : Nat) (s : State) : exec (.alertAck client seq) s =
  run (.alertAck client seq) s fun s => s.namedWrite client 0x7030 3 (fieldBytes seq 4) none := rfl

theorem exec_faultSummaryClear (client : Client) (value : Nat) (s : State) : exec (.faultSummaryClear client value) s =
  run (.faultSummaryClear client value) s fun s => s.namedWrite client 0x7000 2 (fieldBytes value 1) none := rfl

theorem exec_fatalLogClear (client : Client) (value : Nat) (s : State) : exec (.fatalLogClear client value) s =
  run (.fatalLogClear client value) s fun s => s.namedWrite client 0x7002 4 (fieldBytes value 1) none := rfl

theorem exec_injectArm (client : Client) (value : Nat) (s : State) : exec (.injectArm client value) s =
  run (.injectArm client value) s fun s => s.namedWrite client 0x4230 4 (fieldBytes value 1) none := rfl

theorem exec_injectBucket (client : Client) (value : Nat) (s : State) : exec (.injectBucket client value) s =
  run (.injectBucket client value) s fun s => s.namedWrite client 0x4230 2 (fieldBytes value 2) none := rfl

theorem exec_scrubEnable (client : Client) (value : Nat) (s : State) : exec (.scrubEnable client value) s =
  run (.scrubEnable client value) s fun s => s.namedWrite client 0x4200 2 (fieldBytes value 1) none := rfl

theorem exec_ctxEntry (client : Client) (ctx : Nat) (value : Word128) (s : State) : exec (.ctxEntry client ctx value) s =
  run (.ctxEntry client ctx value) s fun s => s.namedWrite client 0x2000 2 (leBytes value.toNat 16) (some (0x2000, ctx)) := rfl

theorem exec_ctxPeak (client : Client) (ctx value : Nat) (s : State) : exec (.ctxPeak client ctx value) s =
  run (.ctxPeak client ctx value) s fun s => s.namedWrite client 0x4410 4 (fieldBytes value 2) (some (0x4410, ctx)) := rfl

theorem exec_wbHighWater (client : Client) (slice value : Nat) (s : State) : exec (.wbHighWater client slice value) s =
  run (.wbHighWater client slice value) s fun s => s.namedWrite client 0x2210 5 (fieldBytes value 1) (some (0x2210, slice)) := rfl

theorem exec_portSuspectClear (client : Client) (port value : Nat) (s : State) : exec (.portSuspectClear client port value) s =
  run (.portSuspectClear client port value) s fun s => s.namedWrite client 0x2420 4 (fieldBytes value 1) (some (0x2420, port)) := rfl

theorem exec_lookasideFlush (client : Client) (value : Nat) (s : State) : exec (.lookasideFlush client value) s =
  run (.lookasideFlush client value) s fun s => s.namedWrite client 0x2020 2 (fieldBytes value 1) none := rfl

theorem exec_powerCap (client : Client) (value : Nat) (s : State) : exec (.powerCap client value) s =
  run (.powerCap client value) s fun s => s.namedWrite client 0x3000 4 (fieldBytes value 1) none := rfl

theorem exec_rowSelect (client : Client) (source : Bool) (value : Nat) (s : State) : exec (.rowSelect client source value) s =
  run (.rowSelect client source value) s fun s =>
    if source then s.namedWrite client 0x3030 2 (fieldBytes value 1) none
    else s.namedWrite client 0x3030 1 (fieldBytes value 4) none := rfl

theorem exec_leakIntervalWrite (client : Client) (cls : Option Nat) (value : Nat) (s : State) : exec (.leakIntervalWrite client cls value) s =
  run (.leakIntervalWrite client cls value) s fun s =>
    match cls with
    | some n => s.namedWrite client 0x4211 3 (fieldBytes value 4) (some (0x4211, n))
    | none => s.namedWrite client 0x2230 2 (fieldBytes value 4) none := rfl

theorem exec_regionCommit (client : Client) (ctag : Nat) (region : Nat) (s : State) : exec (.regionCommit client ctag region) s =
  run (.regionCommit client ctag region) s fun s => s.command client 0x2001 ctag (fieldBytes region 2) := rfl

theorem exec_regionDelete (client : Client) (ctag : Nat) (region : Nat) (s : State) : exec (.regionDelete client ctag region) s =
  run (.regionDelete client ctag region) s fun s => s.command client 0x2002 ctag (fieldBytes region 2) := rfl

theorem exec_regionFreeze (client : Client) (ctag : Nat) (region : Nat) (s : State) : exec (.regionFreeze client ctag region) s =
  run (.regionFreeze client ctag region) s fun s => s.command client 0x2003 ctag (fieldBytes region 2) := rfl

theorem exec_regionThaw (client : Client) (ctag : Nat) (region : Nat) (s : State) : exec (.regionThaw client ctag region) s =
  run (.regionThaw client ctag region) s fun s => s.command client 0x2004 ctag (fieldBytes region 2) := rfl

theorem exec_dumpRecordDeadline (ring : Nat) (s : State) : exec (.dumpRecordDeadline ring) s =
  run (.dumpRecordDeadline ring) s fun s => s.missDeadline ring := rfl

theorem exec_dumpEnable (client : Client) (ring : Nat) (s : State) : exec (.dumpEnable client ring) s =
  run (.dumpEnable client ring) s fun s => s.namedWrite client 0x4621 3 [1] (some (0x4621, ring)) := rfl

theorem exec_dumpDisable (client : Client) (ring : Nat) (s : State) : exec (.dumpDisable client ring) s =
  run (.dumpDisable client ring) s fun s => s.namedWrite client 0x4621 3 [2] (some (0x4621, ring)) := rfl

theorem exec_dumpHeadDoorbell (port ring : Nat) (value : BitVec 32) (s : State) : exec (.dumpHeadDoorbell port ring value) s =
  run (.dumpHeadDoorbell port ring value) s fun s => s.headDoorbell port ring value := rfl

theorem exec_dumpHead (client : Client) (ring : Nat) (value : BitVec 32) (s : State) : exec (.dumpHead client ring value) s =
  run (.dumpHead client ring value) s fun s => s.namedWrite client 0x4621 5 (leBytes value.toNat 4) (some (0x4621, ring)) := rfl

theorem exec_portControlDisable (client : Client) (port value : Nat) (s : State) : exec (.portControlDisable client port value) s =
  run (.portControlDisable client port value) s fun s => s.namedWrite client 0x5001 7 (fieldBytes value 1) (some (0x5001, port)) := rfl

theorem exec_portConfig (client : Client) (port : Nat) (value : BitVec 32) (s : State) : exec (.portConfig client port value) s =
  run (.portConfig client port value) s fun s => s.namedWrite client 0x5001 2 (leBytes value.toNat 4) (some (0x5001, port)) := rfl

theorem exec_quadRole (client : Client) (quad value : Nat) (s : State) : exec (.quadRole client quad value) s =
  run (.quadRole client quad value) s fun s => s.namedWrite client 0x5000 2 (fieldBytes value 1) (some (0x5000, quad)) := rfl

theorem exec_targetDesc (client : Client) (target : Nat) (value : Word128) (s : State) : exec (.targetDesc client target value) s =
  run (.targetDesc client target value) s fun s => s.namedWrite client 0x5101 2 (leBytes value.toNat 16) (some (0x5101, target)) := rfl

theorem exec_linkEnable (client : Client) (link value : Nat) (s : State) : exec (.linkEnable client link value) s =
  run (.linkEnable client link value) s fun s => s.namedWrite client 0x5200 8 (fieldBytes value 1) (some (0x5200, link)) := rfl

theorem exec_objectWrite (client : Client) (index sub : Nat) (data : List Byte) (s : State) : exec (.objectWrite client index sub data) s =
  run (.objectWrite client index sub data) s fun s => s.namedWrite client index sub data none := rfl

theorem exec_perPortCxlReset (port : Nat) (s : State) : exec (.perPortCxlReset port) s =
  run (.perPortCxlReset port) s fun s => s.portReset port := rfl

theorem exec_portResetDrainDone (port : Nat) (s : State) : exec (.portResetDrainDone port) s =
  run (.portResetDrainDone port) s fun s => s.portDrained port := rfl

theorem exec_hostLinkDown (port : Nat) (s : State) : exec (.hostLinkDown port) s =
  run (.hostLinkDown port) s fun s => s.hostLinkLost port := rfl

theorem exec_portLinkUp (port speed lanes : Nat) (s : State) : exec (.portLinkUp port speed lanes) s =
  run (.portLinkUp port speed lanes) s fun s => s.portTrained port speed lanes := rfl

theorem exec_ideFailure (port : Nat) (s : State) : exec (.ideFailure port) s =
  run (.ideFailure port) s fun s => s.ideFailed port := rfl

theorem exec_poolEnumerationDone (port : Nat) (usable : Bool) (s : State) : exec (.poolEnumerationDone port usable) s =
  run (.poolEnumerationDone port usable) s fun s => s.enumerated port usable := rfl

theorem exec_linkRetryTimer (link : Nat) (s : State) : exec (.linkRetryTimer link) s =
  run (.linkRetryTimer link) s fun s => s.linkRetry link := rfl

theorem exec_identify (link : Nat) (peer : IdentifyRecord) (s : State) : exec (.identify link peer) s =
  run (.identify link peer) s fun s => s.identified link peer := rfl

theorem exec_measureDone (link delayPs legPs : Nat) (s : State) : exec (.measureDone link delayPs legPs) s =
  run (.measureDone link delayPs legPs) s fun s => s.measured link delayPs legPs := rfl

theorem exec_flitReceive (link : Nat) (flit : Flit) (fecCorrected : Nat) (s : State) : exec (.flitReceive link flit fecCorrected) s =
  run (.flitReceive link flit fecCorrected) s fun s => s.flitArrives link flit fecCorrected := rfl

theorem exec_ackTimeout (link : Nat) (s : State) : exec (.ackTimeout link) s =
  run (.ackTimeout link) s fun s => s.ackLate link := rfl

theorem exec_linkSilence (link : Nat) (s : State) : exec (.linkSilence link) s =
  run (.linkSilence link) s fun s => s.silent link := rfl

theorem exec_linkDown (link : Nat) (s : State) : exec (.linkDown link) s =
  run (.linkDown link) s fun s => if (s.linkAt link).st == .active || (s.linkAt link).st == .activeSlow then s.goDown link else s.trainingFails link := rfl

theorem exec_tailRecordExpiry (link : Nat) (s : State) : exec (.tailRecordExpiry link) s =
  run (.tailRecordExpiry link) s fun s => s.tailExpires link := rfl

theorem exec_resendWindowExpiry (link : Nat) (s : State) : exec (.resendWindowExpiry link) s =
  run (.resendWindowExpiry link) s fun s => s.resendExpires link := rfl

theorem exec_linkStateVector (device : Nat) (vector : Word128) (s : State) : exec (.linkStateVector device vector) s =
  run (.linkStateVector device vector) s fun s => s.takeVector device vector := rfl

theorem exec_timeFlit (link t1 t2 t3 t4 errorPs : Nat) (s : State) : exec (.timeFlit link t1 t2 t3 t4 errorPs) s =
  run (.timeFlit link t1 t2 t3 t4 errorPs) s fun s => s.timeFlit link t1 t2 t3 t4 errorPs := rfl

theorem exec_membershipRecord (record : MemberRecord) (s : State) : exec (.membershipRecord record) s =
  run (.membershipRecord record) s fun s => s.heard record := rfl

theorem exec_memberSilence (device : Nat) (s : State) : exec (.memberSilence device) s =
  run (.memberSilence device) s fun s => s.memberSilent device := rfl

theorem exec_epochAnnounce (epoch leader : Nat) (members : List Nat) (instant : Nat) (s : State) : exec (.epochAnnounce epoch leader members instant) s =
  run (.epochAnnounce epoch leader members instant) s fun s => s.epochAnnounced epoch leader members instant := rfl

theorem exec_canalSet (client : Client) (ctag : Nat) (index sub : Nat) (value : BitVec 64) (s : State) : exec (.canalSet client ctag index sub value) s =
  run (.canalSet client ctag index sub value) s fun s => s.command client 0x1201 ctag (fieldBytes index 2 ++ fieldBytes sub 2 ++ leBytes value.toNat 8) := rfl

theorem exec_canalSetConfirmTimeout (device : Nat) (s : State) : exec (.canalSetConfirmTimeout device) s =
  run (.canalSetConfirmTimeout device) s fun s => s.canalSetTimeout device := rfl

theorem exec_canalLeave (client : Client) (ctag : Nat) (s : State) : exec (.canalLeave client ctag) s =
  run (.canalLeave client ctag) s fun s => s.command client 0x1202 ctag [] := rfl

theorem exec_canalJoin (client : Client) (ctag : Nat) (s : State) : exec (.canalJoin client ctag) s =
  run (.canalJoin client ctag) s fun s => s.command client 0x1203 ctag [] := rfl

theorem exec_linkRetrain (client : Client) (ctag : Nat) (link : Nat) (s : State) : exec (.linkRetrain client ctag link) s =
  run (.linkRetrain client ctag link) s fun s => s.command client 0x5201 ctag (fieldBytes link 1) := rfl

theorem exec_frameRead (transport : Transport) (header : Word128) (s : State) : exec (.frameRead transport header) s =
  run (.frameRead transport header) s fun s => s.frameArrives { transport := transport, header := header } := rfl

theorem exec_frameWrite (transport : Transport) (header : Word128) (data : List Byte) (s : State) : exec (.frameWrite transport header data) s =
  run (.frameWrite transport header data) s fun s => s.frameArrives { transport := transport, header := header, data := data } := rfl

theorem exec_segRead (transport : Transport) (header : Word128) (s : State) : exec (.segRead transport header) s =
  run (.segRead transport header) s fun s => s.frameArrives { transport := transport, header := header } := rfl

theorem exec_segWrite (transport : Transport) (header : Word128) (data : List Byte) (s : State) : exec (.segWrite transport header data) s =
  run (.segWrite transport header data) s fun s => s.frameArrives { transport := transport, header := header, data := data } := rfl

theorem exec_segCancel (transport : Transport) (header : Word128) (s : State) : exec (.segCancel transport header) s =
  run (.segCancel transport header) s fun s => s.frameArrives { transport := transport, header := header } := rfl

theorem exec_segTimeout (client : Client) (index sub : Nat) (s : State) : exec (.segTimeout client index sub) s =
  run (.segTimeout client index sub) s fun s => s.segmentLate client index sub := rfl

theorem exec_segReadClose (client : Client) (index sub : Nat) (s : State) : exec (.segReadClose client index sub) s =
  run (.segReadClose client index sub) s fun s => s.segmentOver client index sub := rfl

theorem exec_objDedupExpiry (client : Client) (seq : Nat) (s : State) : exec (.objDedupExpiry client seq) s =
  run (.objDedupExpiry client seq) s fun s => s.expireFrame client seq := rfl

theorem exec_cmdSubmit (client : Client) (record : List Byte) (s : State) : exec (.cmdSubmit client record) s =
  run (.cmdSubmit client record) s fun s => s.namedWrite client 0x1F00 1 record none := rfl

theorem exec_nop (client : Client) (ctag : Nat) (s : State) : exec (.nop client ctag) s =
  run (.nop client ctag) s fun s => s.command client 0x1001 ctag [] := rfl

theorem exec_watchdogExpiry (cores : BitVec 4) (s : State) : exec (.watchdogExpiry cores) s =
  run (.watchdogExpiry cores) s fun s => s.watchdogs cores := rfl

theorem exec_objectFrame (port : Nat) (payload : List Byte) (s : State) : exec (.objectFrame port payload) s =
  run (.objectFrame port payload) s fun s => s.objectFrame port payload := rfl

theorem exec_identifyDevice (port : Nat) (s : State) : exec (.identifyDevice port) s =
  run (.identifyDevice port) s fun s => s.mailbox port State.mboxIdentify := rfl

theorem exec_backgroundOperationStatus (port : Nat) (s : State) : exec (.backgroundOperationStatus port) s =
  run (.backgroundOperationStatus port) s fun s => s.mailbox port fun s => (s, mboxSuccess, List.replicate 8 0) := rfl

theorem exec_getEventRecords (port : Nat) (s : State) : exec (.getEventRecords port) s =
  run (.getEventRecords port) s fun s => s.mailbox port fun s => (s, mboxSuccess, List.replicate 32 0) := rfl

theorem exec_clearEventRecords (port : Nat) (s : State) : exec (.clearEventRecords port) s =
  run (.clearEventRecords port) s fun s => s.mailbox port fun s => (s, mboxSuccess, []) := rfl

theorem exec_getEventInterruptPolicy (port : Nat) (s : State) : exec (.getEventInterruptPolicy port) s =
  run (.getEventInterruptPolicy port) s fun s => s.mailbox port fun s => (s, mboxSuccess, leBytes (s.port port).interruptPolicy.toNat 4) := rfl

theorem exec_setEventInterruptPolicy (port : Nat) (policy : BitVec 32) (s : State) : exec (.setEventInterruptPolicy port policy) s =
  run (.setEventInterruptPolicy port policy) s fun s => s.mailbox port fun s =>
    (s.modPort port fun x => { x with interruptPolicy := policy }, mboxSuccess, []) := rfl

theorem exec_getFwInfo (port : Nat) (s : State) : exec (.getFwInfo port) s =
  run (.getFwInfo port) s fun s => s.mailbox port State.mboxFwInfo := rfl

theorem exec_transferFw (port : Nat) (s : State) : exec (.transferFw port) s =
  run (.transferFw port) s fun s => s.mailbox port fun s => (s, mboxUnsupported, []) := rfl

theorem exec_activateFw (port : Nat) (s : State) : exec (.activateFw port) s =
  run (.activateFw port) s fun s => s.mailbox port fun s => (s, mboxUnsupported, []) := rfl

theorem exec_getSupportedLogs (port : Nat) (s : State) : exec (.getSupportedLogs port) s =
  run (.getSupportedLogs port) s fun s => s.mailbox port State.mboxLogs := rfl

theorem exec_getLog (port : Nat) (s : State) : exec (.getLog port) s =
  run (.getLog port) s fun s => s.mailbox port State.mboxLog := rfl

theorem exec_identifyMemoryDevice (port : Nat) (s : State) : exec (.identifyMemoryDevice port) s =
  run (.identifyMemoryDevice port) s fun s => s.mailbox port State.mboxMemory := rfl

theorem exec_setEndpointId (eid : BitVec 8) (s : State) : exec (.setEndpointId eid) s =
  run (.setEndpointId eid) s fun s => s.mctp fun s => s.setEid eid := rfl

theorem exec_dynamicAddressAssignment (address : BitVec 7) (s : State) : exec (.dynamicAddressAssignment address) s =
  run (.dynamicAddressAssignment address) s fun s => { s with mgmt := { s.mgmt with i3cAddress := address } } := rfl

theorem exec_neighbourDiscovery (bus : Bool) (target source : Word128) (s : State) : exec (.neighbourDiscovery bus target source) s =
  run (.neighbourDiscovery bus target source) s fun s =>
    s.busPacket bus target (if source = 0 then allNodes else source) (State.neighbourAdvert bus (source != 0)) := rfl

theorem exec_icmpv6Echo (bus : Bool) (target source : Word128) (payload : List Byte) (s : State) : exec (.icmpv6Echo bus target source payload) s =
  run (.icmpv6Echo bus target source payload) s fun s => s.busPacket bus target source ([129, 0] ++ payload) := rfl

theorem exec_fieldBusDown (bus : Bool) (s : State) : exec (.fieldBusDown bus) s =
  run (.fieldBusDown bus) s fun s => s.busDown (bit bus) := rfl

theorem exec_resetNAssert (lowNs : Nat) (s : State) : exec (.resetNAssert lowNs) s =
  run (.resetNAssert lowNs) s fun s => s.resetLow lowNs := rfl

theorem exec_resetNRelease (straps : BitVec 32) (badWays badWords : List (Nat × Nat)) (badCheckers : List Nat) (romOk : Bool) (s : State) : exec (.resetNRelease straps badWays badWords badCheckers romOk) s =
  run (.resetNRelease straps badWays badWords badCheckers romOk) s fun s =>
    s.pinsRelease straps { badWays := badWays, badWords := badWords, badCheckers := badCheckers, romOk := romOk } := rfl

theorem exec_startupDone (client : Client) (ctag : Nat) (s : State) : exec (.startupDone client ctag) s =
  run (.startupDone client ctag) s fun s => s.command client 0x6002 ctag [] := rfl

theorem exec_warmReset (client : Client) (ctag : Nat) (s : State) : exec (.warmReset client ctag) s =
  run (.warmReset client ctag) s fun s => s.command client 0x6001 ctag [] := rfl

theorem exec_warmDrainEnd (badCheckers : List Nat) (romOk : Bool) (s : State) : exec (.warmDrainEnd badCheckers romOk) s =
  run (.warmDrainEnd badCheckers romOk) s fun s => s.warmDrainEnd badCheckers romOk := rfl

theorem exec_pfailNAssert (lowNs edges : Nat) (s : State) : exec (.pfailNAssert lowNs edges) s =
  run (.pfailNAssert lowNs edges) s fun s => s.pfailAssert lowNs edges := rfl

theorem exec_coldSensorChange (sensor : Nat) (celsius : Int) (s : State) : exec (.coldSensorChange sensor celsius) s =
  run (.coldSensorChange sensor celsius) s fun s => s.sensorReads sensor celsius := rfl

theorem exec_poolLinkDown (port : Nat) (s : State) : exec (.poolLinkDown port) s =
  run (.poolLinkDown port) s fun s => s.poolLinkLost port := rfl

theorem exec_fieldBusUp (bus : Bool) (s : State) : exec (.fieldBusUp bus) s =
  run (.fieldBusUp bus) s fun s => s.busUp (bit bus) := rfl

theorem exec_linkTrainingFailure (link : Nat) (s : State) : exec (.linkTrainingFailure link) s =
  run (.linkTrainingFailure link) s fun s => s.trainingFails link := rfl

theorem exec_ideActivation (port : Nat) (s : State) : exec (.ideActivation port) s =
  run (.ideActivation port) s fun s => s.ideActive port := rfl

theorem exec_hdmDecoderCommit (port base : Nat) (s : State) : exec (.hdmDecoderCommit port base) s =
  run (.hdmDecoderCommit port base) s fun s => s.commitHdm port base := rfl

theorem exec_chartWordReload (chart : Nat) (s : State) : exec (.chartWordReload chart) s =
  run (.chartWordReload chart) s fun s =>
    ((s.readRecordWord (chartRecord chart)).modChart chart fun x => { x with badWord := false }).setDamage State.chartStore chart 0 := rfl

theorem exec_keySlotRestore (pound slot : Nat) (s : State) : exec (.keySlotRestore pound slot) s =
  run (.keySlotRestore pound slot) s fun s => s.keyRestored pound slot := rfl

theorem exec_firmwareTableRestore (word : Nat) (s : State) : exec (.firmwareTableRestore word) s =
  run (.firmwareTableRestore word) s fun s => s.firmwareRestored word := rfl

theorem exec_regulatorWordRestore (word : Nat) (s : State) : exec (.regulatorWordRestore word) s =
  run (.regulatorWordRestore word) s fun s =>
    if !s.tenant.regRestore.contains word then s
    else
      let held := s.tenant.heldReleases
      let s := { s.setDamage 369 word 0 with tenant := { s.tenant with
          regRestore := s.tenant.regRestore.filter (· != word), heldReleases := [] } }
      held.foldl (fun s id => s.releaseSlot id) s := rfl

theorem exec_slotOffer (s : State) : exec (.slotOffer) s =
  run .slotOffer s State.offerSlot := rfl

theorem exec_drydockLeak (s : State) : exec (.drydockLeak) s =
  run .drydockLeak s State.drydockLeak := rfl

theorem exec_cacheDrainDone (s : State) : exec (.cacheDrainDone) s =
  run .cacheDrainDone s State.drainDone := rfl

theorem exec_invalidatePassDone (s : State) : exec (.invalidatePassDone) s =
  run .invalidatePassDone s State.passDone := rfl

theorem exec_moorFillsDone (s : State) : exec (.moorFillsDone) s =
  run .moorFillsDone s State.moorFillsDone := rfl

theorem exec_wayZeroingDone (s : State) : exec (.wayZeroingDone) s =
  run .wayZeroingDone s State.zeroingDone := rfl

theorem exec_retireSweepStart (s : State) : exec (.retireSweepStart) s =
  run .retireSweepStart s State.retireStart := rfl

theorem exec_retireSweepDone (s : State) : exec (.retireSweepDone) s =
  run .retireSweepDone s State.retireDone := rfl

theorem exec_searchIssue (s : State) : exec (.searchIssue) s =
  run .searchIssue s State.issueCycle := rfl

theorem exec_applyGroupWrite (s : State) : exec (.applyGroupWrite) s =
  run .applyGroupWrite s State.applyHead := rfl

theorem exec_sweepRead (s : State) : exec (.sweepRead) s =
  run .sweepRead s State.sweepOnce := rfl

theorem exec_sweepPeriodMiss (s : State) : exec (.sweepPeriodMiss) s =
  run .sweepPeriodMiss s State.sweepMissed := rfl

theorem exec_pendingUpdateResend (s : State) : exec (.pendingUpdateResend) s =
  run .pendingUpdateResend s State.resendUpdates := rfl

theorem exec_rkRead (s : State) : exec (.rkRead) s =
  run .rkRead s State.rkRead := rfl

theorem exec_rkWriteEncrypt (s : State) : exec (.rkWriteEncrypt) s =
  run .rkWriteEncrypt s State.rkWriteEncrypt := rfl

theorem exec_reknitStall (s : State) : exec (.reknitStall) s =
  run .reknitStall s State.reknitStall := rfl

theorem exec_protFlushDone (s : State) : exec (.protFlushDone) s =
  run .protFlushDone s State.protFlushDone := rfl

theorem exec_scrubPeriodMiss (s : State) : exec (.scrubPeriodMiss) s =
  run .scrubPeriodMiss s State.scrubMissed := rfl

theorem exec_regionDrainDone (s : State) : exec (.regionDrainDone) s =
  run .regionDrainDone s State.drainsDone := rfl

theorem exec_snapshotInstant (s : State) : exec (.snapshotInstant) s =
  run .snapshotInstant s State.snapshot := rfl

theorem exec_linkStateVectorSend (s : State) : exec (.linkStateVectorSend) s =
  run .linkStateVectorSend s State.sendVector := rfl

theorem exec_timeFlitSend (s : State) : exec (.timeFlitSend) s =
  run .timeFlitSend s State.sendTime := rfl

theorem exec_timeLockTimeout (s : State) : exec (.timeLockTimeout) s =
  run .timeLockTimeout s State.lockTimeout := rfl

theorem exec_ppsEdge (s : State) : exec (.ppsEdge) s =
  run .ppsEdge s State.ppsEdge := rfl

theorem exec_ppsStuck (s : State) : exec (.ppsStuck) s =
  run .ppsStuck s State.ppsStuck := rfl

theorem exec_membershipPublish (s : State) : exec (.membershipPublish) s =
  run .membershipPublish s State.publish := rfl

theorem exec_epochApply (s : State) : exec (.epochApply) s =
  run .epochApply s State.epochApply := rfl

theorem exec_quarantineReport (s : State) : exec (.quarantineReport) s =
  run .quarantineReport s State.reportQuarantine := rfl

theorem exec_commandAccept (s : State) : exec (.commandAccept) s =
  run .commandAccept s State.acceptNext := rfl

theorem exec_getEndpointId (s : State) : exec (.getEndpointId) s =
  run .getEndpointId s fun s => s.mctp fun s => (s, [0, s.mgmt.eid, 0, 0]) := rfl

theorem exec_getMctpVersionSupport (s : State) : exec (.getMctpVersionSupport) s =
  run .getMctpVersionSupport s fun s => s.mctp fun s => ((s.freeBytes 4).1, [0, 1] ++ (s.freeBytes 4).2) := rfl

theorem exec_getMessageTypeSupport (s : State) : exec (.getMessageTypeSupport) s =
  run .getMessageTypeSupport s fun s => s.mctp fun s => (s, [0, 1, 0x7E]) := rfl

theorem exec_getVendorDefinedMessageSupport (s : State) : exec (.getVendorDefinedMessageSupport) s =
  run .getVendorDefinedMessageSupport s fun s => s.mctp fun s =>
    ((s.freeBytes 2).1, [0, 0xFF, 0] ++ beBytes Config.vendorId.toNat 2 ++ (s.freeBytes 2).2) := rfl

theorem exec_pwrokLow (s : State) : exec (.pwrokLow) s =
  run .pwrokLow s State.pwrokFalls := rfl

theorem exec_startupTimeout (s : State) : exec (.startupTimeout) s =
  run .startupTimeout s State.startupTimeout := rfl

theorem exec_warmRestoreDone (s : State) : exec (.warmRestoreDone) s =
  run .warmRestoreDone s State.warmRestored := rfl

theorem exec_pfDrainDeadline (s : State) : exec (.pfDrainDeadline) s =
  run .pfDrainDeadline s State.drainDeadline := rfl

theorem exec_pfailNStuck (s : State) : exec (.pfailNStuck) s =
  run .pfailNStuck s State.pfailStays := rfl

theorem exec_thermalTrip (s : State) : exec (.thermalTrip) s =
  run .thermalTrip s State.trip := rfl

theorem exec_avsRetry (s : State) : exec (.avsRetry) s =
  run .avsRetry s State.retryAvs := rfl

theorem exec_avsAck (s : State) : exec (.avsAck) s =
  run .avsAck s State.avsAcknowledged := rfl

theorem exec_pfailNHigh (s : State) : exec (.pfailNHigh) s =
  run .pfailNHigh s State.pfailHigh := rfl

/-- Every meaning is the run of an effect. -/
theorem exec_eq_run (i : Instr) (s : State) : ∃ effect, exec i s = run i s effect := by
  cases i with
  | rdS port hpa tag => exact ⟨_, exec_rdS port hpa tag s⟩
  | rdAny port hpa tag => exact ⟨_, exec_rdAny port hpa tag s⟩
  | rdOwn port hpa tag => exact ⟨_, exec_rdOwn port hpa tag s⟩
  | upg port hpa tag => exact ⟨_, exec_upg port hpa tag s⟩
  | rdNc port hpa tag => exact ⟨_, exec_rdNc port hpa tag s⟩
  | invNc port hpa tag => exact ⟨_, exec_invNc port hpa tag s⟩
  | wrNc port hpa tag w => exact ⟨_, exec_wrNc port hpa tag w s⟩
  | wbI port hpa tag w => exact ⟨_, exec_wbI port hpa tag w s⟩
  | wbS port hpa tag w => exact ⟨_, exec_wbS port hpa tag w s⟩
  | wbE port hpa tag w => exact ⟨_, exec_wbE port hpa tag w s⟩
  | clnEvict port hpa tag => exact ⟨_, exec_clnEvict port hpa tag s⟩
  | spec port hpa tag => exact ⟨_, exec_spec port hpa tag s⟩
  | cxlIoMemoryRequest port hpa tag w => exact ⟨_, exec_cxlIoMemoryRequest port hpa tag w s⟩
  | lookasideMissResult unit => exact ⟨_, exec_lookasideMissResult unit s⟩
  | admissionRequest unit => exact ⟨_, exec_admissionRequest unit s⟩
  | guaranteeMiss txn => exact ⟨_, exec_guaranteeMiss txn s⟩
  | fill slice reg => exact ⟨_, exec_fill slice reg s⟩
  | missWaitServe slice => exact ⟨_, exec_missWaitServe slice s⟩
  | writeBufferWaitReadIssue slice reg => exact ⟨_, exec_writeBufferWaitReadIssue slice reg s⟩
  | crossBlockPrefetch dpa region svc => exact ⟨_, exec_crossBlockPrefetch dpa region svc s⟩
  | writeBufferAdmit slice => exact ⟨_, exec_writeBufferAdmit slice s⟩
  | mergeWindowExpiry slice dpa => exact ⟨_, exec_mergeWindowExpiry slice dpa s⟩
  | pendingPoolWriteIssue slice dpa => exact ⟨_, exec_pendingPoolWriteIssue slice dpa s⟩
  | poolWriteEncrypt id => exact ⟨_, exec_poolWriteEncrypt id s⟩
  | pageReencryptReadsDone id answers => exact ⟨_, exec_pageReencryptReadsDone id answers s⟩
  | poolWriteCompletion id ok => exact ⟨_, exec_poolWriteCompletion id ok s⟩
  | poolReadResponse id answer => exact ⟨_, exec_poolReadResponse id answer s⟩
  | poolTimeoutExpiry id => exact ⟨_, exec_poolTimeoutExpiry id s⟩
  | cacheEnable client ctag => exact ⟨_, exec_cacheEnable client ctag s⟩
  | cacheDisable client ctag => exact ⟨_, exec_cacheDisable client ctag s⟩
  | cacheInvalidate client ctag => exact ⟨_, exec_cacheInvalidate client ctag s⟩
  | cacheMoor client ctag ways => exact ⟨_, exec_cacheMoor client ctag ways s⟩
  | cacheUndrydock client ctag slice way => exact ⟨_, exec_cacheUndrydock client ctag slice way s⟩
  | requesterAck dpa => exact ⟨_, exec_requesterAck dpa s⟩
  | blockedRequestStart slice => exact ⟨_, exec_blockedRequestStart slice s⟩
  | dwellElapsed dpa => exact ⟨_, exec_dwellElapsed dpa s⟩
  | reverseWalkDone port dpa marker => exact ⟨_, exec_reverseWalkDone port dpa marker s⟩
  | birspi source blk => exact ⟨_, exec_birspi source blk s⟩
  | birsps source blk => exact ⟨_, exec_birsps source blk s⟩
  | birspe source blk => exact ⟨_, exec_birspe source blk s⟩
  | biconflict port hpa => exact ⟨_, exec_biconflict port hpa s⟩
  | snoopTimeout dpa => exact ⟨_, exec_snoopTimeout dpa s⟩
  | poisonWriteDone dpa => exact ⟨_, exec_poisonWriteDone dpa s⟩
  | poisonRetry dpa => exact ⟨_, exec_poisonRetry dpa s⟩
  | setRecallSweepStep slice set => exact ⟨_, exec_setRecallSweepStep slice set s⟩
  | forwardedSnoop home kind whom dpa => exact ⟨_, exec_forwardedSnoop home kind whom dpa s⟩
  | forwardedResponse peer tag data poison cmp => exact ⟨_, exec_forwardedResponse peer tag data poison cmp s⟩
  | queueEnable client queue => exact ⟨_, exec_queueEnable client queue s⟩
  | queueDisable client queue => exact ⟨_, exec_queueDisable client queue s⟩
  | queueReset client queue => exact ⟨_, exec_queueReset client queue s⟩
  | queueDrainDone queue => exact ⟨_, exec_queueDrainDone queue s⟩
  | sqTailDoorbell port queue value => exact ⟨_, exec_sqTailDoorbell port queue value s⟩
  | cqHeadDoorbell port queue value => exact ⟨_, exec_cqHeadDoorbell port queue value s⟩
  | chamberWindowAccess port offset len write => exact ⟨_, exec_chamberWindowAccess port offset len write s⟩
  | entryFetch queue hostRead => exact ⟨_, exec_entryFetch queue hostRead s⟩
  | read queue pos => exact ⟨_, exec_read queue pos s⟩
  | write queue pos => exact ⟨_, exec_write queue pos s⟩
  | cas128 queue pos => exact ⟨_, exec_cas128 queue pos s⟩
  | swap128 queue pos => exact ⟨_, exec_swap128 queue pos s⟩
  | fadd64 queue pos => exact ⟨_, exec_fadd64 queue pos s⟩
  | zero queue pos => exact ⟨_, exec_zero queue pos s⟩
  | copy queue pos => exact ⟨_, exec_copy queue pos s⟩
  | search queue pos => exact ⟨_, exec_search queue pos s⟩
  | searchBurst queue pos hostKeys => exact ⟨_, exec_searchBurst queue pos hostKeys s⟩
  | table queue pos hostBlock => exact ⟨_, exec_table queue pos hostBlock s⟩
  | fenceL queue pos => exact ⟨_, exec_fenceL queue pos s⟩
  | fenceS queue pos => exact ⟨_, exec_fenceS queue pos s⟩
  | fenceF queue pos => exact ⟨_, exec_fenceF queue pos s⟩
  | storeBufferIssue queue => exact ⟨_, exec_storeBufferIssue queue s⟩
  | queueResponse qp => exact ⟨_, exec_queueResponse qp s⟩
  | searchResult id => exact ⟨_, exec_searchResult id s⟩
  | chartCommit client ctag chart => exact ⟨_, exec_chartCommit client ctag chart s⟩
  | chartDrop client ctag chart => exact ⟨_, exec_chartDrop client ctag chart s⟩
  | chartMove client ctag chart => exact ⟨_, exec_chartMove client ctag chart s⟩
  | chartAdmit client ctag chart device => exact ⟨_, exec_chartAdmit client ctag chart device s⟩
  | chartRelease client ctag chart device => exact ⟨_, exec_chartRelease client ctag chart device s⟩
  | tableExec client ctag chart block => exact ⟨_, exec_tableExec client ctag chart block s⟩
  | insert chart => exact ⟨_, exec_insert chart s⟩
  | delete chart => exact ⟨_, exec_delete chart s⟩
  | modify chart => exact ⟨_, exec_modify chart s⟩
  | readback chart => exact ⟨_, exec_readback chart s⟩
  | tableSubOperation owner chart op entry value mask priority datum => exact ⟨_, exec_tableSubOperation owner chart op entry value mask priority datum s⟩
  | holderConfirm holder tag ok index rows result => exact ⟨_, exec_holderConfirm holder tag ok index rows result s⟩
  | holderConfirmTimeout entry => exact ⟨_, exec_holderConfirmTimeout entry s⟩
  | dedupRecordExpiry client cseq => exact ⟨_, exec_dedupRecordExpiry client cseq s⟩
  | prepare coordinator chart generation word1 word0 dmap members drop instant => exact ⟨_, exec_prepare coordinator chart generation word1 word0 dmap members drop instant s⟩
  | ready member chart reply => exact ⟨_, exec_ready member chart reply s⟩
  | spanReadyDeadline chart => exact ⟨_, exec_spanReadyDeadline chart s⟩
  | abort chart generation => exact ⟨_, exec_abort chart generation s⟩
  | spanApply chart => exact ⟨_, exec_spanApply chart s⟩
  | applied member chart => exact ⟨_, exec_applied member chart s⟩
  | spanConfirmTimeout chart => exact ⟨_, exec_spanConfirmTimeout chart s⟩
  | cascadeLaunch id => exact ⟨_, exec_cascadeLaunch id s⟩
  | partRequest link chart gen stamp launch key => exact ⟨_, exec_partRequest link chart gen stamp launch key s⟩
  | partNoSlot id => exact ⟨_, exec_partNoSlot id s⟩
  | partAnswer link member launch answer => exact ⟨_, exec_partAnswer link member launch answer s⟩
  | relayDeadline id => exact ⟨_, exec_relayDeadline id s⟩
  | cascadeRelease id => exact ⟨_, exec_cascadeRelease id s⟩
  | nodeReadResponse id answers => exact ⟨_, exec_nodeReadResponse id answers s⟩
  | nodeWritebackDone root level index ok => exact ⟨_, exec_nodeWritebackDone root level index ok s⟩
  | nodeRetry root level index => exact ⟨_, exec_nodeRetry root level index s⟩
  | rkValue dpa => exact ⟨_, exec_rkValue dpa s⟩
  | rkWriteStart dpa => exact ⟨_, exec_rkWriteStart dpa s⟩
  | protInit client ctag root => exact ⟨_, exec_protInit client ctag root s⟩
  | protRelease client ctag root => exact ⟨_, exec_protRelease client ctag root s⟩
  | protReknit client ctag root slot => exact ⟨_, exec_protReknit client ctag root slot s⟩
  | protEnable client ctag => exact ⟨_, exec_protEnable client ctag s⟩
  | protDisable client ctag => exact ⟨_, exec_protDisable client ctag s⟩
  | kekEstablish client ctag publicKey => exact ⟨_, exec_kekEstablish client ctag publicKey s⟩
  | kekClear client ctag => exact ⟨_, exec_kekClear client ctag s⟩
  | keyLoad client ctag slot wrapped => exact ⟨_, exec_keyLoad client ctag slot wrapped s⟩
  | keyErase client ctag slot => exact ⟨_, exec_keyErase client ctag slot s⟩
  | scrubRead bucket => exact ⟨_, exec_scrubRead bucket s⟩
  | bucketLeak cls => exact ⟨_, exec_bucketLeak cls s⟩
  | hostNotify port => exact ⟨_, exec_hostNotify port s⟩
  | transportNotify transport => exact ⟨_, exec_transportNotify transport s⟩
  | alertAck client seq => exact ⟨_, exec_alertAck client seq s⟩
  | faultSummaryClear client value => exact ⟨_, exec_faultSummaryClear client value s⟩
  | fatalLogClear client value => exact ⟨_, exec_fatalLogClear client value s⟩
  | injectArm client value => exact ⟨_, exec_injectArm client value s⟩
  | injectBucket client value => exact ⟨_, exec_injectBucket client value s⟩
  | scrubEnable client value => exact ⟨_, exec_scrubEnable client value s⟩
  | ctxEntry client ctx value => exact ⟨_, exec_ctxEntry client ctx value s⟩
  | ctxPeak client ctx value => exact ⟨_, exec_ctxPeak client ctx value s⟩
  | wbHighWater client slice value => exact ⟨_, exec_wbHighWater client slice value s⟩
  | portSuspectClear client port value => exact ⟨_, exec_portSuspectClear client port value s⟩
  | lookasideFlush client value => exact ⟨_, exec_lookasideFlush client value s⟩
  | powerCap client value => exact ⟨_, exec_powerCap client value s⟩
  | rowSelect client source value => exact ⟨_, exec_rowSelect client source value s⟩
  | leakIntervalWrite client cls value => exact ⟨_, exec_leakIntervalWrite client cls value s⟩
  | regionCommit client ctag region => exact ⟨_, exec_regionCommit client ctag region s⟩
  | regionDelete client ctag region => exact ⟨_, exec_regionDelete client ctag region s⟩
  | regionFreeze client ctag region => exact ⟨_, exec_regionFreeze client ctag region s⟩
  | regionThaw client ctag region => exact ⟨_, exec_regionThaw client ctag region s⟩
  | dumpRecordDeadline ring => exact ⟨_, exec_dumpRecordDeadline ring s⟩
  | dumpEnable client ring => exact ⟨_, exec_dumpEnable client ring s⟩
  | dumpDisable client ring => exact ⟨_, exec_dumpDisable client ring s⟩
  | dumpHeadDoorbell port ring value => exact ⟨_, exec_dumpHeadDoorbell port ring value s⟩
  | dumpHead client ring value => exact ⟨_, exec_dumpHead client ring value s⟩
  | portControlDisable client port value => exact ⟨_, exec_portControlDisable client port value s⟩
  | portConfig client port value => exact ⟨_, exec_portConfig client port value s⟩
  | quadRole client quad value => exact ⟨_, exec_quadRole client quad value s⟩
  | targetDesc client target value => exact ⟨_, exec_targetDesc client target value s⟩
  | linkEnable client link value => exact ⟨_, exec_linkEnable client link value s⟩
  | objectWrite client index sub data => exact ⟨_, exec_objectWrite client index sub data s⟩
  | perPortCxlReset port => exact ⟨_, exec_perPortCxlReset port s⟩
  | portResetDrainDone port => exact ⟨_, exec_portResetDrainDone port s⟩
  | hostLinkDown port => exact ⟨_, exec_hostLinkDown port s⟩
  | portLinkUp port speed lanes => exact ⟨_, exec_portLinkUp port speed lanes s⟩
  | ideFailure port => exact ⟨_, exec_ideFailure port s⟩
  | poolEnumerationDone port usable => exact ⟨_, exec_poolEnumerationDone port usable s⟩
  | linkRetryTimer link => exact ⟨_, exec_linkRetryTimer link s⟩
  | identify link peer => exact ⟨_, exec_identify link peer s⟩
  | measureDone link delayPs legPs => exact ⟨_, exec_measureDone link delayPs legPs s⟩
  | flitReceive link flit fecCorrected => exact ⟨_, exec_flitReceive link flit fecCorrected s⟩
  | ackTimeout link => exact ⟨_, exec_ackTimeout link s⟩
  | linkSilence link => exact ⟨_, exec_linkSilence link s⟩
  | linkDown link => exact ⟨_, exec_linkDown link s⟩
  | tailRecordExpiry link => exact ⟨_, exec_tailRecordExpiry link s⟩
  | resendWindowExpiry link => exact ⟨_, exec_resendWindowExpiry link s⟩
  | linkStateVector device vector => exact ⟨_, exec_linkStateVector device vector s⟩
  | timeFlit link t1 t2 t3 t4 errorPs => exact ⟨_, exec_timeFlit link t1 t2 t3 t4 errorPs s⟩
  | membershipRecord record => exact ⟨_, exec_membershipRecord record s⟩
  | memberSilence device => exact ⟨_, exec_memberSilence device s⟩
  | epochAnnounce epoch leader members instant => exact ⟨_, exec_epochAnnounce epoch leader members instant s⟩
  | canalSet client ctag index sub value => exact ⟨_, exec_canalSet client ctag index sub value s⟩
  | canalSetConfirmTimeout device => exact ⟨_, exec_canalSetConfirmTimeout device s⟩
  | canalLeave client ctag => exact ⟨_, exec_canalLeave client ctag s⟩
  | canalJoin client ctag => exact ⟨_, exec_canalJoin client ctag s⟩
  | linkRetrain client ctag link => exact ⟨_, exec_linkRetrain client ctag link s⟩
  | frameRead transport header => exact ⟨_, exec_frameRead transport header s⟩
  | frameWrite transport header data => exact ⟨_, exec_frameWrite transport header data s⟩
  | segRead transport header => exact ⟨_, exec_segRead transport header s⟩
  | segWrite transport header data => exact ⟨_, exec_segWrite transport header data s⟩
  | segCancel transport header => exact ⟨_, exec_segCancel transport header s⟩
  | segTimeout client index sub => exact ⟨_, exec_segTimeout client index sub s⟩
  | segReadClose client index sub => exact ⟨_, exec_segReadClose client index sub s⟩
  | objDedupExpiry client seq => exact ⟨_, exec_objDedupExpiry client seq s⟩
  | cmdSubmit client record => exact ⟨_, exec_cmdSubmit client record s⟩
  | nop client ctag => exact ⟨_, exec_nop client ctag s⟩
  | watchdogExpiry cores => exact ⟨_, exec_watchdogExpiry cores s⟩
  | objectFrame port payload => exact ⟨_, exec_objectFrame port payload s⟩
  | identifyDevice port => exact ⟨_, exec_identifyDevice port s⟩
  | backgroundOperationStatus port => exact ⟨_, exec_backgroundOperationStatus port s⟩
  | getEventRecords port => exact ⟨_, exec_getEventRecords port s⟩
  | clearEventRecords port => exact ⟨_, exec_clearEventRecords port s⟩
  | getEventInterruptPolicy port => exact ⟨_, exec_getEventInterruptPolicy port s⟩
  | setEventInterruptPolicy port policy => exact ⟨_, exec_setEventInterruptPolicy port policy s⟩
  | getFwInfo port => exact ⟨_, exec_getFwInfo port s⟩
  | transferFw port => exact ⟨_, exec_transferFw port s⟩
  | activateFw port => exact ⟨_, exec_activateFw port s⟩
  | getSupportedLogs port => exact ⟨_, exec_getSupportedLogs port s⟩
  | getLog port => exact ⟨_, exec_getLog port s⟩
  | identifyMemoryDevice port => exact ⟨_, exec_identifyMemoryDevice port s⟩
  | setEndpointId eid => exact ⟨_, exec_setEndpointId eid s⟩
  | dynamicAddressAssignment address => exact ⟨_, exec_dynamicAddressAssignment address s⟩
  | neighbourDiscovery bus target source => exact ⟨_, exec_neighbourDiscovery bus target source s⟩
  | icmpv6Echo bus target source payload => exact ⟨_, exec_icmpv6Echo bus target source payload s⟩
  | fieldBusDown bus => exact ⟨_, exec_fieldBusDown bus s⟩
  | resetNAssert lowNs => exact ⟨_, exec_resetNAssert lowNs s⟩
  | resetNRelease straps badWays badWords badCheckers romOk => exact ⟨_, exec_resetNRelease straps badWays badWords badCheckers romOk s⟩
  | startupDone client ctag => exact ⟨_, exec_startupDone client ctag s⟩
  | warmReset client ctag => exact ⟨_, exec_warmReset client ctag s⟩
  | warmDrainEnd badCheckers romOk => exact ⟨_, exec_warmDrainEnd badCheckers romOk s⟩
  | pfailNAssert lowNs edges => exact ⟨_, exec_pfailNAssert lowNs edges s⟩
  | coldSensorChange sensor celsius => exact ⟨_, exec_coldSensorChange sensor celsius s⟩
  | poolLinkDown port => exact ⟨_, exec_poolLinkDown port s⟩
  | fieldBusUp bus => exact ⟨_, exec_fieldBusUp bus s⟩
  | linkTrainingFailure link => exact ⟨_, exec_linkTrainingFailure link s⟩
  | ideActivation port => exact ⟨_, exec_ideActivation port s⟩
  | hdmDecoderCommit port base => exact ⟨_, exec_hdmDecoderCommit port base s⟩
  | chartWordReload chart => exact ⟨_, exec_chartWordReload chart s⟩
  | keySlotRestore pound slot => exact ⟨_, exec_keySlotRestore pound slot s⟩
  | firmwareTableRestore word => exact ⟨_, exec_firmwareTableRestore word s⟩
  | regulatorWordRestore word => exact ⟨_, exec_regulatorWordRestore word s⟩
  | slotOffer => exact ⟨_, exec_slotOffer s⟩
  | drydockLeak => exact ⟨_, exec_drydockLeak s⟩
  | cacheDrainDone => exact ⟨_, exec_cacheDrainDone s⟩
  | invalidatePassDone => exact ⟨_, exec_invalidatePassDone s⟩
  | moorFillsDone => exact ⟨_, exec_moorFillsDone s⟩
  | wayZeroingDone => exact ⟨_, exec_wayZeroingDone s⟩
  | retireSweepStart => exact ⟨_, exec_retireSweepStart s⟩
  | retireSweepDone => exact ⟨_, exec_retireSweepDone s⟩
  | searchIssue => exact ⟨_, exec_searchIssue s⟩
  | applyGroupWrite => exact ⟨_, exec_applyGroupWrite s⟩
  | sweepRead => exact ⟨_, exec_sweepRead s⟩
  | sweepPeriodMiss => exact ⟨_, exec_sweepPeriodMiss s⟩
  | pendingUpdateResend => exact ⟨_, exec_pendingUpdateResend s⟩
  | rkRead => exact ⟨_, exec_rkRead s⟩
  | rkWriteEncrypt => exact ⟨_, exec_rkWriteEncrypt s⟩
  | reknitStall => exact ⟨_, exec_reknitStall s⟩
  | protFlushDone => exact ⟨_, exec_protFlushDone s⟩
  | scrubPeriodMiss => exact ⟨_, exec_scrubPeriodMiss s⟩
  | regionDrainDone => exact ⟨_, exec_regionDrainDone s⟩
  | snapshotInstant => exact ⟨_, exec_snapshotInstant s⟩
  | linkStateVectorSend => exact ⟨_, exec_linkStateVectorSend s⟩
  | timeFlitSend => exact ⟨_, exec_timeFlitSend s⟩
  | timeLockTimeout => exact ⟨_, exec_timeLockTimeout s⟩
  | ppsEdge => exact ⟨_, exec_ppsEdge s⟩
  | ppsStuck => exact ⟨_, exec_ppsStuck s⟩
  | membershipPublish => exact ⟨_, exec_membershipPublish s⟩
  | epochApply => exact ⟨_, exec_epochApply s⟩
  | quarantineReport => exact ⟨_, exec_quarantineReport s⟩
  | commandAccept => exact ⟨_, exec_commandAccept s⟩
  | getEndpointId => exact ⟨_, exec_getEndpointId s⟩
  | getMctpVersionSupport => exact ⟨_, exec_getMctpVersionSupport s⟩
  | getMessageTypeSupport => exact ⟨_, exec_getMessageTypeSupport s⟩
  | getVendorDefinedMessageSupport => exact ⟨_, exec_getVendorDefinedMessageSupport s⟩
  | pwrokLow => exact ⟨_, exec_pwrokLow s⟩
  | startupTimeout => exact ⟨_, exec_startupTimeout s⟩
  | warmRestoreDone => exact ⟨_, exec_warmRestoreDone s⟩
  | pfDrainDeadline => exact ⟨_, exec_pfDrainDeadline s⟩
  | pfailNStuck => exact ⟨_, exec_pfailNStuck s⟩
  | thermalTrip => exact ⟨_, exec_thermalTrip s⟩
  | avsRetry => exact ⟨_, exec_avsRetry s⟩
  | avsAck => exact ⟨_, exec_avsAck s⟩
  | pfailNHigh => exact ⟨_, exec_pfailNHigh s⟩

end Sys2Proof.Machine
end

