-- ==== Sys2Proof/Laws/State.lean ====
section
/-! SUPPORT. What each shared update leaves of the state: one lemma per field and update, so that no proof unfolds a record update; and the value it gives the field it writes. -/

namespace Sys2Proof.Machine
namespace State

variable (s : State)

/-! ### `setRegAt` -/

@[simp] theorem setRegAt_pending (i j k v : Nat) : (s.setRegAt i j k v).pending = s.pending := rfl
@[simp] theorem setRegAt_now (i j k v : Nat) : (s.setRegAt i j k v).now = s.now := rfl
@[simp] theorem setRegAt_canalTime (i j k v : Nat) : (s.setRegAt i j k v).canalTime = s.canalTime := rfl
@[simp] theorem setRegAt_nextId (i j k v : Nat) : (s.setRegAt i j k v).nextId = s.nextId := rfl
@[simp] theorem setRegAt_free (i j k v : Nat) : (s.setRegAt i j k v).free = s.free := rfl
@[simp] theorem setRegAt_slices (i j k v : Nat) : (s.setRegAt i j k v).slices = s.slices := rfl
@[simp] theorem setRegAt_cache (i j k v : Nat) : (s.setRegAt i j k v).cache = s.cache := rfl
@[simp] theorem setRegAt_home (i j k v : Nat) : (s.setRegAt i j k v).home = s.home := rfl
@[simp] theorem setRegAt_tenant (i j k v : Nat) : (s.setRegAt i j k v).tenant = s.tenant := rfl
@[simp] theorem setRegAt_prot (i j k v : Nat) : (s.setRegAt i j k v).prot = s.prot := rfl
@[simp] theorem setRegAt_queue (i j k v : Nat) : (s.setRegAt i j k v).queue = s.queue := rfl
@[simp] theorem setRegAt_search (i j k v : Nat) : (s.setRegAt i j k v).search = s.search := rfl
@[simp] theorem setRegAt_ras (i j k v : Nat) : (s.setRegAt i j k v).ras = s.ras := rfl
@[simp] theorem setRegAt_counter (i j k v : Nat) : (s.setRegAt i j k v).counter = s.counter := rfl
@[simp] theorem setRegAt_link (i j k v : Nat) : (s.setRegAt i j k v).link = s.link := rfl
@[simp] theorem setRegAt_canal (i j k v : Nat) : (s.setRegAt i j k v).canal = s.canal := rfl
@[simp] theorem setRegAt_mgmt (i j k v : Nat) : (s.setRegAt i j k v).mgmt = s.mgmt := rfl
@[simp] theorem setRegAt_power (i j k v : Nat) : (s.setRegAt i j k v).power = s.power := rfl
@[simp] theorem setRegAt_out (i j k v : Nat) : (s.setRegAt i j k v).out = s.out := rfl

/-! ### `setReg` -/

@[simp] theorem setReg_pending (i j v : Nat) : (s.setReg i j v).pending = s.pending := rfl
@[simp] theorem setReg_now (i j v : Nat) : (s.setReg i j v).now = s.now := rfl
@[simp] theorem setReg_canalTime (i j v : Nat) : (s.setReg i j v).canalTime = s.canalTime := rfl
@[simp] theorem setReg_nextId (i j v : Nat) : (s.setReg i j v).nextId = s.nextId := rfl
@[simp] theorem setReg_free (i j v : Nat) : (s.setReg i j v).free = s.free := rfl
@[simp] theorem setReg_slices (i j v : Nat) : (s.setReg i j v).slices = s.slices := rfl
@[simp] theorem setReg_cache (i j v : Nat) : (s.setReg i j v).cache = s.cache := rfl
@[simp] theorem setReg_home (i j v : Nat) : (s.setReg i j v).home = s.home := rfl
@[simp] theorem setReg_tenant (i j v : Nat) : (s.setReg i j v).tenant = s.tenant := rfl
@[simp] theorem setReg_prot (i j v : Nat) : (s.setReg i j v).prot = s.prot := rfl
@[simp] theorem setReg_queue (i j v : Nat) : (s.setReg i j v).queue = s.queue := rfl
@[simp] theorem setReg_search (i j v : Nat) : (s.setReg i j v).search = s.search := rfl
@[simp] theorem setReg_ras (i j v : Nat) : (s.setReg i j v).ras = s.ras := rfl
@[simp] theorem setReg_counter (i j v : Nat) : (s.setReg i j v).counter = s.counter := rfl
@[simp] theorem setReg_link (i j v : Nat) : (s.setReg i j v).link = s.link := rfl
@[simp] theorem setReg_canal (i j v : Nat) : (s.setReg i j v).canal = s.canal := rfl
@[simp] theorem setReg_mgmt (i j v : Nat) : (s.setReg i j v).mgmt = s.mgmt := rfl
@[simp] theorem setReg_power (i j v : Nat) : (s.setReg i j v).power = s.power := rfl
@[simp] theorem setReg_out (i j v : Nat) : (s.setReg i j v).out = s.out := rfl

/-! ### `bump32` -/

@[simp] theorem bump32_pending (i j n : Nat) : (s.bump32 i j n).pending = s.pending := rfl
@[simp] theorem bump32_now (i j n : Nat) : (s.bump32 i j n).now = s.now := rfl
@[simp] theorem bump32_canalTime (i j n : Nat) : (s.bump32 i j n).canalTime = s.canalTime := rfl
@[simp] theorem bump32_nextId (i j n : Nat) : (s.bump32 i j n).nextId = s.nextId := rfl
@[simp] theorem bump32_free (i j n : Nat) : (s.bump32 i j n).free = s.free := rfl
@[simp] theorem bump32_slices (i j n : Nat) : (s.bump32 i j n).slices = s.slices := rfl
@[simp] theorem bump32_cache (i j n : Nat) : (s.bump32 i j n).cache = s.cache := rfl
@[simp] theorem bump32_home (i j n : Nat) : (s.bump32 i j n).home = s.home := rfl
@[simp] theorem bump32_tenant (i j n : Nat) : (s.bump32 i j n).tenant = s.tenant := rfl
@[simp] theorem bump32_prot (i j n : Nat) : (s.bump32 i j n).prot = s.prot := rfl
@[simp] theorem bump32_queue (i j n : Nat) : (s.bump32 i j n).queue = s.queue := rfl
@[simp] theorem bump32_search (i j n : Nat) : (s.bump32 i j n).search = s.search := rfl
@[simp] theorem bump32_ras (i j n : Nat) : (s.bump32 i j n).ras = s.ras := rfl
@[simp] theorem bump32_counter (i j n : Nat) : (s.bump32 i j n).counter = s.counter := rfl
@[simp] theorem bump32_link (i j n : Nat) : (s.bump32 i j n).link = s.link := rfl
@[simp] theorem bump32_canal (i j n : Nat) : (s.bump32 i j n).canal = s.canal := rfl
@[simp] theorem bump32_mgmt (i j n : Nat) : (s.bump32 i j n).mgmt = s.mgmt := rfl
@[simp] theorem bump32_power (i j n : Nat) : (s.bump32 i j n).power = s.power := rfl
@[simp] theorem bump32_out (i j n : Nat) : (s.bump32 i j n).out = s.out := rfl

/-! ### `bump64` -/

@[simp] theorem bump64_pending (i j : Nat) : (s.bump64 i j).pending = s.pending := rfl
@[simp] theorem bump64_now (i j : Nat) : (s.bump64 i j).now = s.now := rfl
@[simp] theorem bump64_canalTime (i j : Nat) : (s.bump64 i j).canalTime = s.canalTime := rfl
@[simp] theorem bump64_nextId (i j : Nat) : (s.bump64 i j).nextId = s.nextId := rfl
@[simp] theorem bump64_free (i j : Nat) : (s.bump64 i j).free = s.free := rfl
@[simp] theorem bump64_slices (i j : Nat) : (s.bump64 i j).slices = s.slices := rfl
@[simp] theorem bump64_cache (i j : Nat) : (s.bump64 i j).cache = s.cache := rfl
@[simp] theorem bump64_home (i j : Nat) : (s.bump64 i j).home = s.home := rfl
@[simp] theorem bump64_tenant (i j : Nat) : (s.bump64 i j).tenant = s.tenant := rfl
@[simp] theorem bump64_prot (i j : Nat) : (s.bump64 i j).prot = s.prot := rfl
@[simp] theorem bump64_queue (i j : Nat) : (s.bump64 i j).queue = s.queue := rfl
@[simp] theorem bump64_search (i j : Nat) : (s.bump64 i j).search = s.search := rfl
@[simp] theorem bump64_ras (i j : Nat) : (s.bump64 i j).ras = s.ras := rfl
@[simp] theorem bump64_counter (i j : Nat) : (s.bump64 i j).counter = s.counter := rfl
@[simp] theorem bump64_link (i j : Nat) : (s.bump64 i j).link = s.link := rfl
@[simp] theorem bump64_canal (i j : Nat) : (s.bump64 i j).canal = s.canal := rfl
@[simp] theorem bump64_mgmt (i j : Nat) : (s.bump64 i j).mgmt = s.mgmt := rfl
@[simp] theorem bump64_power (i j : Nat) : (s.bump64 i j).power = s.power := rfl
@[simp] theorem bump64_out (i j : Nat) : (s.bump64 i j).out = s.out := rfl

/-! ### `deadlineMiss` -/

@[simp] theorem deadlineMiss_pending (n : Nat) : (s.deadlineMiss n).pending = s.pending := rfl
@[simp] theorem deadlineMiss_now (n : Nat) : (s.deadlineMiss n).now = s.now := rfl
@[simp] theorem deadlineMiss_canalTime (n : Nat) : (s.deadlineMiss n).canalTime = s.canalTime := rfl
@[simp] theorem deadlineMiss_nextId (n : Nat) : (s.deadlineMiss n).nextId = s.nextId := rfl
@[simp] theorem deadlineMiss_free (n : Nat) : (s.deadlineMiss n).free = s.free := rfl
@[simp] theorem deadlineMiss_slices (n : Nat) : (s.deadlineMiss n).slices = s.slices := rfl
@[simp] theorem deadlineMiss_cache (n : Nat) : (s.deadlineMiss n).cache = s.cache := rfl
@[simp] theorem deadlineMiss_home (n : Nat) : (s.deadlineMiss n).home = s.home := rfl
@[simp] theorem deadlineMiss_tenant (n : Nat) : (s.deadlineMiss n).tenant = s.tenant := rfl
@[simp] theorem deadlineMiss_prot (n : Nat) : (s.deadlineMiss n).prot = s.prot := rfl
@[simp] theorem deadlineMiss_queue (n : Nat) : (s.deadlineMiss n).queue = s.queue := rfl
@[simp] theorem deadlineMiss_search (n : Nat) : (s.deadlineMiss n).search = s.search := rfl
@[simp] theorem deadlineMiss_ras (n : Nat) : (s.deadlineMiss n).ras = s.ras := rfl
@[simp] theorem deadlineMiss_counter (n : Nat) : (s.deadlineMiss n).counter = s.counter := rfl
@[simp] theorem deadlineMiss_link (n : Nat) : (s.deadlineMiss n).link = s.link := rfl
@[simp] theorem deadlineMiss_canal (n : Nat) : (s.deadlineMiss n).canal = s.canal := rfl
@[simp] theorem deadlineMiss_mgmt (n : Nat) : (s.deadlineMiss n).mgmt = s.mgmt := rfl
@[simp] theorem deadlineMiss_power (n : Nat) : (s.deadlineMiss n).power = s.power := rfl
@[simp] theorem deadlineMiss_out (n : Nat) : (s.deadlineMiss n).out = s.out := rfl

/-! ### `countBy` -/

@[simp] theorem countBy_pending (n k : Nat) : (s.countBy n k).pending = s.pending := by unfold State.countBy; split <;> rfl
@[simp] theorem countBy_now (n k : Nat) : (s.countBy n k).now = s.now := by unfold State.countBy; split <;> rfl
@[simp] theorem countBy_canalTime (n k : Nat) : (s.countBy n k).canalTime = s.canalTime := by unfold State.countBy; split <;> rfl
@[simp] theorem countBy_regs (n k : Nat) : (s.countBy n k).regs = s.regs := by unfold State.countBy; split <;> rfl
@[simp] theorem countBy_nextId (n k : Nat) : (s.countBy n k).nextId = s.nextId := by unfold State.countBy; split <;> rfl
@[simp] theorem countBy_free (n k : Nat) : (s.countBy n k).free = s.free := by unfold State.countBy; split <;> rfl
@[simp] theorem countBy_slices (n k : Nat) : (s.countBy n k).slices = s.slices := by unfold State.countBy; split <;> rfl
@[simp] theorem countBy_cache (n k : Nat) : (s.countBy n k).cache = s.cache := by unfold State.countBy; split <;> rfl
@[simp] theorem countBy_home (n k : Nat) : (s.countBy n k).home = s.home := by unfold State.countBy; split <;> rfl
@[simp] theorem countBy_tenant (n k : Nat) : (s.countBy n k).tenant = s.tenant := by unfold State.countBy; split <;> rfl
@[simp] theorem countBy_prot (n k : Nat) : (s.countBy n k).prot = s.prot := by unfold State.countBy; split <;> rfl
@[simp] theorem countBy_queue (n k : Nat) : (s.countBy n k).queue = s.queue := by unfold State.countBy; split <;> rfl
@[simp] theorem countBy_search (n k : Nat) : (s.countBy n k).search = s.search := by unfold State.countBy; split <;> rfl
@[simp] theorem countBy_ras (n k : Nat) : (s.countBy n k).ras = s.ras := by unfold State.countBy; split <;> rfl
@[simp] theorem countBy_link (n k : Nat) : (s.countBy n k).link = s.link := by unfold State.countBy; split <;> rfl
@[simp] theorem countBy_canal (n k : Nat) : (s.countBy n k).canal = s.canal := by unfold State.countBy; split <;> rfl
@[simp] theorem countBy_mgmt (n k : Nat) : (s.countBy n k).mgmt = s.mgmt := by unfold State.countBy; split <;> rfl
@[simp] theorem countBy_power (n k : Nat) : (s.countBy n k).power = s.power := by unfold State.countBy; split <;> rfl
@[simp] theorem countBy_out (n k : Nat) : (s.countBy n k).out = s.out := by unfold State.countBy; split <;> rfl

/-! ### `count` -/

@[simp] theorem count_pending (n : Nat) : (s.count n).pending = s.pending := by simp [State.count]
@[simp] theorem count_now (n : Nat) : (s.count n).now = s.now := by simp [State.count]
@[simp] theorem count_canalTime (n : Nat) : (s.count n).canalTime = s.canalTime := by simp [State.count]
@[simp] theorem count_regs (n : Nat) : (s.count n).regs = s.regs := by simp [State.count]
@[simp] theorem count_nextId (n : Nat) : (s.count n).nextId = s.nextId := by simp [State.count]
@[simp] theorem count_free (n : Nat) : (s.count n).free = s.free := by simp [State.count]
@[simp] theorem count_slices (n : Nat) : (s.count n).slices = s.slices := by simp [State.count]
@[simp] theorem count_cache (n : Nat) : (s.count n).cache = s.cache := by simp [State.count]
@[simp] theorem count_home (n : Nat) : (s.count n).home = s.home := by simp [State.count]
@[simp] theorem count_tenant (n : Nat) : (s.count n).tenant = s.tenant := by simp [State.count]
@[simp] theorem count_prot (n : Nat) : (s.count n).prot = s.prot := by simp [State.count]
@[simp] theorem count_queue (n : Nat) : (s.count n).queue = s.queue := by simp [State.count]
@[simp] theorem count_search (n : Nat) : (s.count n).search = s.search := by simp [State.count]
@[simp] theorem count_ras (n : Nat) : (s.count n).ras = s.ras := by simp [State.count]
@[simp] theorem count_link (n : Nat) : (s.count n).link = s.link := by simp [State.count]
@[simp] theorem count_canal (n : Nat) : (s.count n).canal = s.canal := by simp [State.count]
@[simp] theorem count_mgmt (n : Nat) : (s.count n).mgmt = s.mgmt := by simp [State.count]
@[simp] theorem count_power (n : Nat) : (s.count n).power = s.power := by simp [State.count]
@[simp] theorem count_out (n : Nat) : (s.count n).out = s.out := by simp [State.count]

/-! ### `countCtx` -/

@[simp] theorem countCtx_pending (c w k : Nat) : (s.countCtx c w k).pending = s.pending := rfl
@[simp] theorem countCtx_now (c w k : Nat) : (s.countCtx c w k).now = s.now := rfl
@[simp] theorem countCtx_canalTime (c w k : Nat) : (s.countCtx c w k).canalTime = s.canalTime := rfl
@[simp] theorem countCtx_regs (c w k : Nat) : (s.countCtx c w k).regs = s.regs := rfl
@[simp] theorem countCtx_nextId (c w k : Nat) : (s.countCtx c w k).nextId = s.nextId := rfl
@[simp] theorem countCtx_free (c w k : Nat) : (s.countCtx c w k).free = s.free := rfl
@[simp] theorem countCtx_slices (c w k : Nat) : (s.countCtx c w k).slices = s.slices := rfl
@[simp] theorem countCtx_cache (c w k : Nat) : (s.countCtx c w k).cache = s.cache := rfl
@[simp] theorem countCtx_home (c w k : Nat) : (s.countCtx c w k).home = s.home := rfl
@[simp] theorem countCtx_prot (c w k : Nat) : (s.countCtx c w k).prot = s.prot := rfl
@[simp] theorem countCtx_queue (c w k : Nat) : (s.countCtx c w k).queue = s.queue := rfl
@[simp] theorem countCtx_search (c w k : Nat) : (s.countCtx c w k).search = s.search := rfl
@[simp] theorem countCtx_ras (c w k : Nat) : (s.countCtx c w k).ras = s.ras := rfl
@[simp] theorem countCtx_link (c w k : Nat) : (s.countCtx c w k).link = s.link := rfl
@[simp] theorem countCtx_canal (c w k : Nat) : (s.countCtx c w k).canal = s.canal := rfl
@[simp] theorem countCtx_mgmt (c w k : Nat) : (s.countCtx c w k).mgmt = s.mgmt := rfl
@[simp] theorem countCtx_power (c w k : Nat) : (s.countCtx c w k).power = s.power := rfl
@[simp] theorem countCtx_out (c w k : Nat) : (s.countCtx c w k).out = s.out := rfl

/-! ### `fresh` -/

@[simp] theorem fresh_pending : (s.fresh.2).pending = s.pending := rfl
@[simp] theorem fresh_now : (s.fresh.2).now = s.now := rfl
@[simp] theorem fresh_canalTime : (s.fresh.2).canalTime = s.canalTime := rfl
@[simp] theorem fresh_regs : (s.fresh.2).regs = s.regs := rfl
@[simp] theorem fresh_free : (s.fresh.2).free = s.free := rfl
@[simp] theorem fresh_slices : (s.fresh.2).slices = s.slices := rfl
@[simp] theorem fresh_cache : (s.fresh.2).cache = s.cache := rfl
@[simp] theorem fresh_home : (s.fresh.2).home = s.home := rfl
@[simp] theorem fresh_tenant : (s.fresh.2).tenant = s.tenant := rfl
@[simp] theorem fresh_prot : (s.fresh.2).prot = s.prot := rfl
@[simp] theorem fresh_queue : (s.fresh.2).queue = s.queue := rfl
@[simp] theorem fresh_search : (s.fresh.2).search = s.search := rfl
@[simp] theorem fresh_ras : (s.fresh.2).ras = s.ras := rfl
@[simp] theorem fresh_counter : (s.fresh.2).counter = s.counter := rfl
@[simp] theorem fresh_link : (s.fresh.2).link = s.link := rfl
@[simp] theorem fresh_canal : (s.fresh.2).canal = s.canal := rfl
@[simp] theorem fresh_mgmt : (s.fresh.2).mgmt = s.mgmt := rfl
@[simp] theorem fresh_power : (s.fresh.2).power = s.power := rfl
@[simp] theorem fresh_out : (s.fresh.2).out = s.out := rfl

/-! ### `drawFree` -/

@[simp] theorem drawFree_pending : (s.drawFree.2).pending = s.pending := rfl
@[simp] theorem drawFree_now : (s.drawFree.2).now = s.now := rfl
@[simp] theorem drawFree_canalTime : (s.drawFree.2).canalTime = s.canalTime := rfl
@[simp] theorem drawFree_regs : (s.drawFree.2).regs = s.regs := rfl
@[simp] theorem drawFree_nextId : (s.drawFree.2).nextId = s.nextId := rfl
@[simp] theorem drawFree_slices : (s.drawFree.2).slices = s.slices := rfl
@[simp] theorem drawFree_cache : (s.drawFree.2).cache = s.cache := rfl
@[simp] theorem drawFree_home : (s.drawFree.2).home = s.home := rfl
@[simp] theorem drawFree_tenant : (s.drawFree.2).tenant = s.tenant := rfl
@[simp] theorem drawFree_prot : (s.drawFree.2).prot = s.prot := rfl
@[simp] theorem drawFree_queue : (s.drawFree.2).queue = s.queue := rfl
@[simp] theorem drawFree_search : (s.drawFree.2).search = s.search := rfl
@[simp] theorem drawFree_ras : (s.drawFree.2).ras = s.ras := rfl
@[simp] theorem drawFree_counter : (s.drawFree.2).counter = s.counter := rfl
@[simp] theorem drawFree_link : (s.drawFree.2).link = s.link := rfl
@[simp] theorem drawFree_canal : (s.drawFree.2).canal = s.canal := rfl
@[simp] theorem drawFree_mgmt : (s.drawFree.2).mgmt = s.mgmt := rfl
@[simp] theorem drawFree_power : (s.drawFree.2).power = s.power := rfl
@[simp] theorem drawFree_out : (s.drawFree.2).out = s.out := rfl

/-! ### `emit` -/

@[simp] theorem emit_pending (o : Out) : (s.emit o).pending = s.pending := rfl
@[simp] theorem emit_now (o : Out) : (s.emit o).now = s.now := rfl
@[simp] theorem emit_canalTime (o : Out) : (s.emit o).canalTime = s.canalTime := rfl
@[simp] theorem emit_regs (o : Out) : (s.emit o).regs = s.regs := rfl
@[simp] theorem emit_nextId (o : Out) : (s.emit o).nextId = s.nextId := rfl
@[simp] theorem emit_free (o : Out) : (s.emit o).free = s.free := rfl
@[simp] theorem emit_slices (o : Out) : (s.emit o).slices = s.slices := rfl
@[simp] theorem emit_cache (o : Out) : (s.emit o).cache = s.cache := rfl
@[simp] theorem emit_home (o : Out) : (s.emit o).home = s.home := rfl
@[simp] theorem emit_tenant (o : Out) : (s.emit o).tenant = s.tenant := rfl
@[simp] theorem emit_prot (o : Out) : (s.emit o).prot = s.prot := rfl
@[simp] theorem emit_queue (o : Out) : (s.emit o).queue = s.queue := rfl
@[simp] theorem emit_search (o : Out) : (s.emit o).search = s.search := rfl
@[simp] theorem emit_ras (o : Out) : (s.emit o).ras = s.ras := rfl
@[simp] theorem emit_counter (o : Out) : (s.emit o).counter = s.counter := rfl
@[simp] theorem emit_link (o : Out) : (s.emit o).link = s.link := rfl
@[simp] theorem emit_canal (o : Out) : (s.emit o).canal = s.canal := rfl
@[simp] theorem emit_mgmt (o : Out) : (s.emit o).mgmt = s.mgmt := rfl
@[simp] theorem emit_power (o : Out) : (s.emit o).power = s.power := rfl

/-! ### `modSlice` -/

@[simp] theorem modSlice_pending (k : Nat) (f : Slice → Slice) : (s.modSlice k f).pending = s.pending := rfl
@[simp] theorem modSlice_now (k : Nat) (f : Slice → Slice) : (s.modSlice k f).now = s.now := rfl
@[simp] theorem modSlice_canalTime (k : Nat) (f : Slice → Slice) : (s.modSlice k f).canalTime = s.canalTime := rfl
@[simp] theorem modSlice_regs (k : Nat) (f : Slice → Slice) : (s.modSlice k f).regs = s.regs := rfl
@[simp] theorem modSlice_nextId (k : Nat) (f : Slice → Slice) : (s.modSlice k f).nextId = s.nextId := rfl
@[simp] theorem modSlice_free (k : Nat) (f : Slice → Slice) : (s.modSlice k f).free = s.free := rfl
@[simp] theorem modSlice_cache (k : Nat) (f : Slice → Slice) : (s.modSlice k f).cache = s.cache := rfl
@[simp] theorem modSlice_home (k : Nat) (f : Slice → Slice) : (s.modSlice k f).home = s.home := rfl
@[simp] theorem modSlice_tenant (k : Nat) (f : Slice → Slice) : (s.modSlice k f).tenant = s.tenant := rfl
@[simp] theorem modSlice_prot (k : Nat) (f : Slice → Slice) : (s.modSlice k f).prot = s.prot := rfl
@[simp] theorem modSlice_queue (k : Nat) (f : Slice → Slice) : (s.modSlice k f).queue = s.queue := rfl
@[simp] theorem modSlice_search (k : Nat) (f : Slice → Slice) : (s.modSlice k f).search = s.search := rfl
@[simp] theorem modSlice_ras (k : Nat) (f : Slice → Slice) : (s.modSlice k f).ras = s.ras := rfl
@[simp] theorem modSlice_counter (k : Nat) (f : Slice → Slice) : (s.modSlice k f).counter = s.counter := rfl
@[simp] theorem modSlice_link (k : Nat) (f : Slice → Slice) : (s.modSlice k f).link = s.link := rfl
@[simp] theorem modSlice_canal (k : Nat) (f : Slice → Slice) : (s.modSlice k f).canal = s.canal := rfl
@[simp] theorem modSlice_mgmt (k : Nat) (f : Slice → Slice) : (s.modSlice k f).mgmt = s.mgmt := rfl
@[simp] theorem modSlice_power (k : Nat) (f : Slice → Slice) : (s.modSlice k f).power = s.power := rfl
@[simp] theorem modSlice_out (k : Nat) (f : Slice → Slice) : (s.modSlice k f).out = s.out := rfl

/-! ### `modQueue` -/

@[simp] theorem modQueue_pending (k : Nat) (f : Queue → Queue) : (s.modQueue k f).pending = s.pending := rfl
@[simp] theorem modQueue_now (k : Nat) (f : Queue → Queue) : (s.modQueue k f).now = s.now := rfl
@[simp] theorem modQueue_canalTime (k : Nat) (f : Queue → Queue) : (s.modQueue k f).canalTime = s.canalTime := rfl
@[simp] theorem modQueue_regs (k : Nat) (f : Queue → Queue) : (s.modQueue k f).regs = s.regs := rfl
@[simp] theorem modQueue_nextId (k : Nat) (f : Queue → Queue) : (s.modQueue k f).nextId = s.nextId := rfl
@[simp] theorem modQueue_free (k : Nat) (f : Queue → Queue) : (s.modQueue k f).free = s.free := rfl
@[simp] theorem modQueue_slices (k : Nat) (f : Queue → Queue) : (s.modQueue k f).slices = s.slices := rfl
@[simp] theorem modQueue_cache (k : Nat) (f : Queue → Queue) : (s.modQueue k f).cache = s.cache := rfl
@[simp] theorem modQueue_home (k : Nat) (f : Queue → Queue) : (s.modQueue k f).home = s.home := rfl
@[simp] theorem modQueue_tenant (k : Nat) (f : Queue → Queue) : (s.modQueue k f).tenant = s.tenant := rfl
@[simp] theorem modQueue_prot (k : Nat) (f : Queue → Queue) : (s.modQueue k f).prot = s.prot := rfl
@[simp] theorem modQueue_search (k : Nat) (f : Queue → Queue) : (s.modQueue k f).search = s.search := rfl
@[simp] theorem modQueue_ras (k : Nat) (f : Queue → Queue) : (s.modQueue k f).ras = s.ras := rfl
@[simp] theorem modQueue_counter (k : Nat) (f : Queue → Queue) : (s.modQueue k f).counter = s.counter := rfl
@[simp] theorem modQueue_link (k : Nat) (f : Queue → Queue) : (s.modQueue k f).link = s.link := rfl
@[simp] theorem modQueue_canal (k : Nat) (f : Queue → Queue) : (s.modQueue k f).canal = s.canal := rfl
@[simp] theorem modQueue_mgmt (k : Nat) (f : Queue → Queue) : (s.modQueue k f).mgmt = s.mgmt := rfl
@[simp] theorem modQueue_power (k : Nat) (f : Queue → Queue) : (s.modQueue k f).power = s.power := rfl
@[simp] theorem modQueue_out (k : Nat) (f : Queue → Queue) : (s.modQueue k f).out = s.out := rfl

/-! ### `modRegion` -/

@[simp] theorem modRegion_pending (k : Nat) (f : Region → Region) : (s.modRegion k f).pending = s.pending := rfl
@[simp] theorem modRegion_now (k : Nat) (f : Region → Region) : (s.modRegion k f).now = s.now := rfl
@[simp] theorem modRegion_canalTime (k : Nat) (f : Region → Region) : (s.modRegion k f).canalTime = s.canalTime := rfl
@[simp] theorem modRegion_regs (k : Nat) (f : Region → Region) : (s.modRegion k f).regs = s.regs := rfl
@[simp] theorem modRegion_nextId (k : Nat) (f : Region → Region) : (s.modRegion k f).nextId = s.nextId := rfl
@[simp] theorem modRegion_free (k : Nat) (f : Region → Region) : (s.modRegion k f).free = s.free := rfl
@[simp] theorem modRegion_slices (k : Nat) (f : Region → Region) : (s.modRegion k f).slices = s.slices := rfl
@[simp] theorem modRegion_cache (k : Nat) (f : Region → Region) : (s.modRegion k f).cache = s.cache := rfl
@[simp] theorem modRegion_home (k : Nat) (f : Region → Region) : (s.modRegion k f).home = s.home := rfl
@[simp] theorem modRegion_prot (k : Nat) (f : Region → Region) : (s.modRegion k f).prot = s.prot := rfl
@[simp] theorem modRegion_queue (k : Nat) (f : Region → Region) : (s.modRegion k f).queue = s.queue := rfl
@[simp] theorem modRegion_search (k : Nat) (f : Region → Region) : (s.modRegion k f).search = s.search := rfl
@[simp] theorem modRegion_ras (k : Nat) (f : Region → Region) : (s.modRegion k f).ras = s.ras := rfl
@[simp] theorem modRegion_counter (k : Nat) (f : Region → Region) : (s.modRegion k f).counter = s.counter := rfl
@[simp] theorem modRegion_link (k : Nat) (f : Region → Region) : (s.modRegion k f).link = s.link := rfl
@[simp] theorem modRegion_canal (k : Nat) (f : Region → Region) : (s.modRegion k f).canal = s.canal := rfl
@[simp] theorem modRegion_mgmt (k : Nat) (f : Region → Region) : (s.modRegion k f).mgmt = s.mgmt := rfl
@[simp] theorem modRegion_power (k : Nat) (f : Region → Region) : (s.modRegion k f).power = s.power := rfl
@[simp] theorem modRegion_out (k : Nat) (f : Region → Region) : (s.modRegion k f).out = s.out := rfl

/-! ### `modAcct` -/

@[simp] theorem modAcct_pending (k : Nat) (f : CtxAccount → CtxAccount) : (s.modAcct k f).pending = s.pending := rfl
@[simp] theorem modAcct_now (k : Nat) (f : CtxAccount → CtxAccount) : (s.modAcct k f).now = s.now := rfl
@[simp] theorem modAcct_canalTime (k : Nat) (f : CtxAccount → CtxAccount) : (s.modAcct k f).canalTime = s.canalTime := rfl
@[simp] theorem modAcct_regs (k : Nat) (f : CtxAccount → CtxAccount) : (s.modAcct k f).regs = s.regs := rfl
@[simp] theorem modAcct_nextId (k : Nat) (f : CtxAccount → CtxAccount) : (s.modAcct k f).nextId = s.nextId := rfl
@[simp] theorem modAcct_free (k : Nat) (f : CtxAccount → CtxAccount) : (s.modAcct k f).free = s.free := rfl
@[simp] theorem modAcct_slices (k : Nat) (f : CtxAccount → CtxAccount) : (s.modAcct k f).slices = s.slices := rfl
@[simp] theorem modAcct_cache (k : Nat) (f : CtxAccount → CtxAccount) : (s.modAcct k f).cache = s.cache := rfl
@[simp] theorem modAcct_home (k : Nat) (f : CtxAccount → CtxAccount) : (s.modAcct k f).home = s.home := rfl
@[simp] theorem modAcct_prot (k : Nat) (f : CtxAccount → CtxAccount) : (s.modAcct k f).prot = s.prot := rfl
@[simp] theorem modAcct_queue (k : Nat) (f : CtxAccount → CtxAccount) : (s.modAcct k f).queue = s.queue := rfl
@[simp] theorem modAcct_search (k : Nat) (f : CtxAccount → CtxAccount) : (s.modAcct k f).search = s.search := rfl
@[simp] theorem modAcct_ras (k : Nat) (f : CtxAccount → CtxAccount) : (s.modAcct k f).ras = s.ras := rfl
@[simp] theorem modAcct_counter (k : Nat) (f : CtxAccount → CtxAccount) : (s.modAcct k f).counter = s.counter := rfl
@[simp] theorem modAcct_link (k : Nat) (f : CtxAccount → CtxAccount) : (s.modAcct k f).link = s.link := rfl
@[simp] theorem modAcct_canal (k : Nat) (f : CtxAccount → CtxAccount) : (s.modAcct k f).canal = s.canal := rfl
@[simp] theorem modAcct_mgmt (k : Nat) (f : CtxAccount → CtxAccount) : (s.modAcct k f).mgmt = s.mgmt := rfl
@[simp] theorem modAcct_power (k : Nat) (f : CtxAccount → CtxAccount) : (s.modAcct k f).power = s.power := rfl
@[simp] theorem modAcct_out (k : Nat) (f : CtxAccount → CtxAccount) : (s.modAcct k f).out = s.out := rfl

/-! ### `modPort` -/

@[simp] theorem modPort_pending (k : Nat) (f : Port → Port) : (s.modPort k f).pending = s.pending := rfl
@[simp] theorem modPort_now (k : Nat) (f : Port → Port) : (s.modPort k f).now = s.now := rfl
@[simp] theorem modPort_canalTime (k : Nat) (f : Port → Port) : (s.modPort k f).canalTime = s.canalTime := rfl
@[simp] theorem modPort_regs (k : Nat) (f : Port → Port) : (s.modPort k f).regs = s.regs := rfl
@[simp] theorem modPort_nextId (k : Nat) (f : Port → Port) : (s.modPort k f).nextId = s.nextId := rfl
@[simp] theorem modPort_free (k : Nat) (f : Port → Port) : (s.modPort k f).free = s.free := rfl
@[simp] theorem modPort_slices (k : Nat) (f : Port → Port) : (s.modPort k f).slices = s.slices := rfl
@[simp] theorem modPort_cache (k : Nat) (f : Port → Port) : (s.modPort k f).cache = s.cache := rfl
@[simp] theorem modPort_home (k : Nat) (f : Port → Port) : (s.modPort k f).home = s.home := rfl
@[simp] theorem modPort_tenant (k : Nat) (f : Port → Port) : (s.modPort k f).tenant = s.tenant := rfl
@[simp] theorem modPort_prot (k : Nat) (f : Port → Port) : (s.modPort k f).prot = s.prot := rfl
@[simp] theorem modPort_queue (k : Nat) (f : Port → Port) : (s.modPort k f).queue = s.queue := rfl
@[simp] theorem modPort_search (k : Nat) (f : Port → Port) : (s.modPort k f).search = s.search := rfl
@[simp] theorem modPort_ras (k : Nat) (f : Port → Port) : (s.modPort k f).ras = s.ras := rfl
@[simp] theorem modPort_counter (k : Nat) (f : Port → Port) : (s.modPort k f).counter = s.counter := rfl
@[simp] theorem modPort_canal (k : Nat) (f : Port → Port) : (s.modPort k f).canal = s.canal := rfl
@[simp] theorem modPort_mgmt (k : Nat) (f : Port → Port) : (s.modPort k f).mgmt = s.mgmt := rfl
@[simp] theorem modPort_power (k : Nat) (f : Port → Port) : (s.modPort k f).power = s.power := rfl
@[simp] theorem modPort_out (k : Nat) (f : Port → Port) : (s.modPort k f).out = s.out := rfl

/-! ### `modLink` -/

@[simp] theorem modLink_pending (k : Nat) (f : Link → Link) : (s.modLink k f).pending = s.pending := rfl
@[simp] theorem modLink_now (k : Nat) (f : Link → Link) : (s.modLink k f).now = s.now := rfl
@[simp] theorem modLink_canalTime (k : Nat) (f : Link → Link) : (s.modLink k f).canalTime = s.canalTime := rfl
@[simp] theorem modLink_regs (k : Nat) (f : Link → Link) : (s.modLink k f).regs = s.regs := rfl
@[simp] theorem modLink_nextId (k : Nat) (f : Link → Link) : (s.modLink k f).nextId = s.nextId := rfl
@[simp] theorem modLink_free (k : Nat) (f : Link → Link) : (s.modLink k f).free = s.free := rfl
@[simp] theorem modLink_slices (k : Nat) (f : Link → Link) : (s.modLink k f).slices = s.slices := rfl
@[simp] theorem modLink_cache (k : Nat) (f : Link → Link) : (s.modLink k f).cache = s.cache := rfl
@[simp] theorem modLink_home (k : Nat) (f : Link → Link) : (s.modLink k f).home = s.home := rfl
@[simp] theorem modLink_tenant (k : Nat) (f : Link → Link) : (s.modLink k f).tenant = s.tenant := rfl
@[simp] theorem modLink_prot (k : Nat) (f : Link → Link) : (s.modLink k f).prot = s.prot := rfl
@[simp] theorem modLink_queue (k : Nat) (f : Link → Link) : (s.modLink k f).queue = s.queue := rfl
@[simp] theorem modLink_search (k : Nat) (f : Link → Link) : (s.modLink k f).search = s.search := rfl
@[simp] theorem modLink_ras (k : Nat) (f : Link → Link) : (s.modLink k f).ras = s.ras := rfl
@[simp] theorem modLink_counter (k : Nat) (f : Link → Link) : (s.modLink k f).counter = s.counter := rfl
@[simp] theorem modLink_canal (k : Nat) (f : Link → Link) : (s.modLink k f).canal = s.canal := rfl
@[simp] theorem modLink_mgmt (k : Nat) (f : Link → Link) : (s.modLink k f).mgmt = s.mgmt := rfl
@[simp] theorem modLink_power (k : Nat) (f : Link → Link) : (s.modLink k f).power = s.power := rfl
@[simp] theorem modLink_out (k : Nat) (f : Link → Link) : (s.modLink k f).out = s.out := rfl

/-! ### `modChart` -/

@[simp] theorem modChart_pending (k : Nat) (f : Chart → Chart) : (s.modChart k f).pending = s.pending := rfl
@[simp] theorem modChart_now (k : Nat) (f : Chart → Chart) : (s.modChart k f).now = s.now := rfl
@[simp] theorem modChart_canalTime (k : Nat) (f : Chart → Chart) : (s.modChart k f).canalTime = s.canalTime := rfl
@[simp] theorem modChart_regs (k : Nat) (f : Chart → Chart) : (s.modChart k f).regs = s.regs := rfl
@[simp] theorem modChart_nextId (k : Nat) (f : Chart → Chart) : (s.modChart k f).nextId = s.nextId := rfl
@[simp] theorem modChart_free (k : Nat) (f : Chart → Chart) : (s.modChart k f).free = s.free := rfl
@[simp] theorem modChart_slices (k : Nat) (f : Chart → Chart) : (s.modChart k f).slices = s.slices := rfl
@[simp] theorem modChart_cache (k : Nat) (f : Chart → Chart) : (s.modChart k f).cache = s.cache := rfl
@[simp] theorem modChart_home (k : Nat) (f : Chart → Chart) : (s.modChart k f).home = s.home := rfl
@[simp] theorem modChart_tenant (k : Nat) (f : Chart → Chart) : (s.modChart k f).tenant = s.tenant := rfl
@[simp] theorem modChart_prot (k : Nat) (f : Chart → Chart) : (s.modChart k f).prot = s.prot := rfl
@[simp] theorem modChart_queue (k : Nat) (f : Chart → Chart) : (s.modChart k f).queue = s.queue := rfl
@[simp] theorem modChart_ras (k : Nat) (f : Chart → Chart) : (s.modChart k f).ras = s.ras := rfl
@[simp] theorem modChart_counter (k : Nat) (f : Chart → Chart) : (s.modChart k f).counter = s.counter := rfl
@[simp] theorem modChart_link (k : Nat) (f : Chart → Chart) : (s.modChart k f).link = s.link := rfl
@[simp] theorem modChart_canal (k : Nat) (f : Chart → Chart) : (s.modChart k f).canal = s.canal := rfl
@[simp] theorem modChart_mgmt (k : Nat) (f : Chart → Chart) : (s.modChart k f).mgmt = s.mgmt := rfl
@[simp] theorem modChart_power (k : Nat) (f : Chart → Chart) : (s.modChart k f).power = s.power := rfl
@[simp] theorem modChart_out (k : Nat) (f : Chart → Chart) : (s.modChart k f).out = s.out := rfl

/-! ### `modProtRegion` -/

@[simp] theorem modProtRegion_pending (k : Nat) (f : ProtRegion → ProtRegion) : (s.modProtRegion k f).pending = s.pending := rfl
@[simp] theorem modProtRegion_now (k : Nat) (f : ProtRegion → ProtRegion) : (s.modProtRegion k f).now = s.now := rfl
@[simp] theorem modProtRegion_canalTime (k : Nat) (f : ProtRegion → ProtRegion) : (s.modProtRegion k f).canalTime = s.canalTime := rfl
@[simp] theorem modProtRegion_regs (k : Nat) (f : ProtRegion → ProtRegion) : (s.modProtRegion k f).regs = s.regs := rfl
@[simp] theorem modProtRegion_nextId (k : Nat) (f : ProtRegion → ProtRegion) : (s.modProtRegion k f).nextId = s.nextId := rfl
@[simp] theorem modProtRegion_free (k : Nat) (f : ProtRegion → ProtRegion) : (s.modProtRegion k f).free = s.free := rfl
@[simp] theorem modProtRegion_slices (k : Nat) (f : ProtRegion → ProtRegion) : (s.modProtRegion k f).slices = s.slices := rfl
@[simp] theorem modProtRegion_cache (k : Nat) (f : ProtRegion → ProtRegion) : (s.modProtRegion k f).cache = s.cache := rfl
@[simp] theorem modProtRegion_home (k : Nat) (f : ProtRegion → ProtRegion) : (s.modProtRegion k f).home = s.home := rfl
@[simp] theorem modProtRegion_tenant (k : Nat) (f : ProtRegion → ProtRegion) : (s.modProtRegion k f).tenant = s.tenant := rfl
@[simp] theorem modProtRegion_queue (k : Nat) (f : ProtRegion → ProtRegion) : (s.modProtRegion k f).queue = s.queue := rfl
@[simp] theorem modProtRegion_search (k : Nat) (f : ProtRegion → ProtRegion) : (s.modProtRegion k f).search = s.search := rfl
@[simp] theorem modProtRegion_ras (k : Nat) (f : ProtRegion → ProtRegion) : (s.modProtRegion k f).ras = s.ras := rfl
@[simp] theorem modProtRegion_counter (k : Nat) (f : ProtRegion → ProtRegion) : (s.modProtRegion k f).counter = s.counter := rfl
@[simp] theorem modProtRegion_link (k : Nat) (f : ProtRegion → ProtRegion) : (s.modProtRegion k f).link = s.link := rfl
@[simp] theorem modProtRegion_canal (k : Nat) (f : ProtRegion → ProtRegion) : (s.modProtRegion k f).canal = s.canal := rfl
@[simp] theorem modProtRegion_mgmt (k : Nat) (f : ProtRegion → ProtRegion) : (s.modProtRegion k f).mgmt = s.mgmt := rfl
@[simp] theorem modProtRegion_power (k : Nat) (f : ProtRegion → ProtRegion) : (s.modProtRegion k f).power = s.power := rfl
@[simp] theorem modProtRegion_out (k : Nat) (f : ProtRegion → ProtRegion) : (s.modProtRegion k f).out = s.out := rfl

/-! ### `modKeySlot` -/

@[simp] theorem modKeySlot_pending (k : Nat) (f : KeySlot → KeySlot) : (s.modKeySlot k f).pending = s.pending := rfl
@[simp] theorem modKeySlot_now (k : Nat) (f : KeySlot → KeySlot) : (s.modKeySlot k f).now = s.now := rfl
@[simp] theorem modKeySlot_canalTime (k : Nat) (f : KeySlot → KeySlot) : (s.modKeySlot k f).canalTime = s.canalTime := rfl
@[simp] theorem modKeySlot_regs (k : Nat) (f : KeySlot → KeySlot) : (s.modKeySlot k f).regs = s.regs := rfl
@[simp] theorem modKeySlot_nextId (k : Nat) (f : KeySlot → KeySlot) : (s.modKeySlot k f).nextId = s.nextId := rfl
@[simp] theorem modKeySlot_free (k : Nat) (f : KeySlot → KeySlot) : (s.modKeySlot k f).free = s.free := rfl
@[simp] theorem modKeySlot_slices (k : Nat) (f : KeySlot → KeySlot) : (s.modKeySlot k f).slices = s.slices := rfl
@[simp] theorem modKeySlot_cache (k : Nat) (f : KeySlot → KeySlot) : (s.modKeySlot k f).cache = s.cache := rfl
@[simp] theorem modKeySlot_home (k : Nat) (f : KeySlot → KeySlot) : (s.modKeySlot k f).home = s.home := rfl
@[simp] theorem modKeySlot_tenant (k : Nat) (f : KeySlot → KeySlot) : (s.modKeySlot k f).tenant = s.tenant := rfl
@[simp] theorem modKeySlot_queue (k : Nat) (f : KeySlot → KeySlot) : (s.modKeySlot k f).queue = s.queue := rfl
@[simp] theorem modKeySlot_search (k : Nat) (f : KeySlot → KeySlot) : (s.modKeySlot k f).search = s.search := rfl
@[simp] theorem modKeySlot_ras (k : Nat) (f : KeySlot → KeySlot) : (s.modKeySlot k f).ras = s.ras := rfl
@[simp] theorem modKeySlot_counter (k : Nat) (f : KeySlot → KeySlot) : (s.modKeySlot k f).counter = s.counter := rfl
@[simp] theorem modKeySlot_link (k : Nat) (f : KeySlot → KeySlot) : (s.modKeySlot k f).link = s.link := rfl
@[simp] theorem modKeySlot_canal (k : Nat) (f : KeySlot → KeySlot) : (s.modKeySlot k f).canal = s.canal := rfl
@[simp] theorem modKeySlot_mgmt (k : Nat) (f : KeySlot → KeySlot) : (s.modKeySlot k f).mgmt = s.mgmt := rfl
@[simp] theorem modKeySlot_power (k : Nat) (f : KeySlot → KeySlot) : (s.modKeySlot k f).power = s.power := rfl
@[simp] theorem modKeySlot_out (k : Nat) (f : KeySlot → KeySlot) : (s.modKeySlot k f).out = s.out := rfl

/-! ### `setDamage` -/

@[simp] theorem setDamage_pending (b w : Nat) (e : BitVec 138) : (s.setDamage b w e).pending = s.pending := rfl
@[simp] theorem setDamage_now (b w : Nat) (e : BitVec 138) : (s.setDamage b w e).now = s.now := rfl
@[simp] theorem setDamage_canalTime (b w : Nat) (e : BitVec 138) : (s.setDamage b w e).canalTime = s.canalTime := rfl
@[simp] theorem setDamage_regs (b w : Nat) (e : BitVec 138) : (s.setDamage b w e).regs = s.regs := rfl
@[simp] theorem setDamage_nextId (b w : Nat) (e : BitVec 138) : (s.setDamage b w e).nextId = s.nextId := rfl
@[simp] theorem setDamage_free (b w : Nat) (e : BitVec 138) : (s.setDamage b w e).free = s.free := rfl
@[simp] theorem setDamage_slices (b w : Nat) (e : BitVec 138) : (s.setDamage b w e).slices = s.slices := rfl
@[simp] theorem setDamage_cache (b w : Nat) (e : BitVec 138) : (s.setDamage b w e).cache = s.cache := rfl
@[simp] theorem setDamage_home (b w : Nat) (e : BitVec 138) : (s.setDamage b w e).home = s.home := rfl
@[simp] theorem setDamage_tenant (b w : Nat) (e : BitVec 138) : (s.setDamage b w e).tenant = s.tenant := rfl
@[simp] theorem setDamage_prot (b w : Nat) (e : BitVec 138) : (s.setDamage b w e).prot = s.prot := rfl
@[simp] theorem setDamage_queue (b w : Nat) (e : BitVec 138) : (s.setDamage b w e).queue = s.queue := rfl
@[simp] theorem setDamage_search (b w : Nat) (e : BitVec 138) : (s.setDamage b w e).search = s.search := rfl
@[simp] theorem setDamage_counter (b w : Nat) (e : BitVec 138) : (s.setDamage b w e).counter = s.counter := rfl
@[simp] theorem setDamage_link (b w : Nat) (e : BitVec 138) : (s.setDamage b w e).link = s.link := rfl
@[simp] theorem setDamage_canal (b w : Nat) (e : BitVec 138) : (s.setDamage b w e).canal = s.canal := rfl
@[simp] theorem setDamage_mgmt (b w : Nat) (e : BitVec 138) : (s.setDamage b w e).mgmt = s.mgmt := rfl
@[simp] theorem setDamage_power (b w : Nat) (e : BitVec 138) : (s.setDamage b w e).power = s.power := rfl
@[simp] theorem setDamage_out (b w : Nat) (e : BitVec 138) : (s.setDamage b w e).out = s.out := rfl

/-! ### The written field -/

@[simp] theorem fresh_nextId : s.fresh.2.nextId = s.nextId + 1 := rfl
@[simp] theorem fresh_fst : s.fresh.1 = s.nextId := rfl
@[simp] theorem drawFree_free : s.drawFree.2.free = s.free + 1 := rfl
@[simp] theorem emit_out (o : Out) : (s.emit o).out = s.out ++ [o] := rfl

end State
end Sys2Proof.Machine
end

