-- ==== Sys2Proof/Laws/Tables.lean ====
section
/-! SUPPORT. Tables and byte memory: reading after writing, and that every operation keeps the canonical form. -/

namespace Sys2Proof.Machine

variable {α : Type} [DecidableEq α] {d : α}

/-! ### Reading after writing -/

omit [DecidableEq α] in
@[simp] theorem Table.get_nil (n : Nat) : Table.get d ([] : Table α) n = d := rfl

/-- Keys of a canonical table lie at or above its bound, so a lower key is not listed. -/
theorem Table.get_of_lt_above {t : Table α} {b n : Nat} (h : Table.above d b t = true) (hn : n < b) :
    Table.get d t n = d := by
  induction t generalizing b with
  | nil => rfl
  | cons p t ih =>
    obtain ⟨k, v⟩ := p
    simp only [Table.above, Bool.and_eq_true, decide_eq_true_eq] at h
    have hk : k ≠ n := by omega
    simp only [Table.get, hk, if_false]
    exact ih h.2 (by omega)

theorem Table.get_set_self {t : Table α} {b : Nat} (h : Table.above d b t = true) (n : Nat) (v : α) :
    Table.get d (Table.set d t n v) n = v := by
  induction t generalizing b with
  | nil => by_cases hv : v = d <;> simp [Table.set, Table.get, hv]
  | cons p t ih =>
    obtain ⟨k, w⟩ := p
    simp only [Table.above, Bool.and_eq_true, decide_eq_true_eq] at h
    simp only [Table.set]
    by_cases hlt : n < k
    · by_cases hv : v = d
      · have hk : k ≠ n := by omega
        simp only [hlt, hv, if_true, Table.get, hk, if_false]
        exact Table.get_of_lt_above h.2 (by omega)
      · simp [hlt, hv, Table.get]
    · by_cases he : n = k
      · by_cases hv : v = d
        · simp only [he, Nat.lt_irrefl, if_false, if_true, hv]
          exact Table.get_of_lt_above h.2 (by omega)
        · simp [he, hv, Table.get]
      · have hk : k ≠ n := fun e => he e.symm
        simp only [hlt, he, if_false, Table.get, hk]
        exact ih h.2

theorem Table.get_set_of_ne (t : Table α) {n m : Nat} (v : α) (hne : m ≠ n) :
    Table.get d (Table.set d t n v) m = Table.get d t m := by
  have hne' : n ≠ m := fun e => hne e.symm
  induction t with
  | nil => by_cases hv : v = d <;> simp [Table.set, Table.get, hv, hne']
  | cons p t ih =>
    obtain ⟨k, w⟩ := p
    simp only [Table.set]
    by_cases hlt : n < k
    · by_cases hv : v = d
      · simp [hlt, hv]
      · simp [hlt, hv, Table.get, hne']
    · by_cases he : n = k
      · subst he
        by_cases hv : v = d <;> simp [hv, Table.get, hne']
      · simp only [hlt, he, if_false, Table.get, ih]

/-! ### The canonical form -/

theorem Table.above_mono {t : Table α} {b c : Nat} (h : Table.above d b t = true) (hc : c ≤ b) :
    Table.above d c t = true := by
  cases t with
  | nil => rfl
  | cons p t =>
    obtain ⟨k, v⟩ := p
    simp only [Table.above, Bool.and_eq_true, decide_eq_true_eq] at h ⊢
    exact ⟨⟨by omega, h.1.2⟩, h.2⟩

theorem Table.above_set {t : Table α} {b : Nat} (h : Table.above d b t = true) {n : Nat} (hn : b ≤ n) (v : α) :
    Table.above d b (Table.set d t n v) = true := by
  induction t generalizing b with
  | nil => by_cases hv : v = d <;> simp [Table.set, Table.above, hv, hn]
  | cons p t ih =>
    obtain ⟨k, w⟩ := p
    have h' := h
    simp only [Table.above, Bool.and_eq_true, decide_eq_true_eq] at h'
    simp only [Table.set]
    by_cases hlt : n < k
    · by_cases hv : v = d
      · simpa [hlt, hv] using h
      · simp only [hlt, if_true, hv, if_false, Table.above, Bool.and_eq_true, decide_eq_true_eq]
        exact ⟨⟨hn, hv⟩, ⟨⟨by omega, h'.1.2⟩, h'.2⟩⟩
    · by_cases he : n = k
      · by_cases hv : v = d
        · simpa [he, hv] using Table.above_mono h'.2 (by omega)
        · simp [he, hv, Table.above, h'.1.1, h'.2]
      · simp only [hlt, he, if_false, Table.above, Bool.and_eq_true, decide_eq_true_eq]
        exact ⟨h'.1, ih h'.2 (by omega)⟩

theorem Table.wf_set {t : Table α} (h : Table.wf d t = true) (n : Nat) (v : α) :
    Table.wf d (Table.set d t n v) = true := Table.above_set h (Nat.zero_le n) v

theorem Table.wf_modify {t : Table α} (h : Table.wf d t = true) (n : Nat) (f : α → α) :
    Table.wf d (Table.modify d t n f) = true := Table.wf_set h n _

theorem Table.get_modify_self {t : Table α} (h : Table.wf d t = true) (n : Nat) (f : α → α) :
    Table.get d (Table.modify d t n f) n = f (Table.get d t n) := Table.get_set_self h n _

theorem Table.get_modify_of_ne (t : Table α) {n m : Nat} (f : α → α) (hne : m ≠ n) :
    Table.get d (Table.modify d t n f) m = Table.get d t m := Table.get_set_of_ne t _ hne

/-! ### Byte memory -/

theorem memSet_wf {m : List Host.Cell} (h : Memory.wf m = true) (a : Nat) (b : Byte) : Memory.wf (memSet m a b) = true :=
  Table.wf_set h a b

theorem memByte_memSet_self {m : List Host.Cell} (h : Memory.wf m = true) (a : Nat) (b : Byte) :
    memByte (memSet m a b) a = b := Table.get_set_self h a b

theorem memByte_memSet_of_ne (m : List Host.Cell) {a c : Nat} (b : Byte) (h : c ≠ a) :
    memByte (memSet m a b) c = memByte m c := Table.get_set_of_ne m b h

theorem memWrite_wf {m : List Host.Cell} (h : Memory.wf m = true) (a : Nat) (bs : List Byte) :
    Memory.wf (memWrite m a bs) = true := by
  induction bs generalizing m a with
  | nil => exact h
  | cons b bs ih => exact ih (memSet_wf h a b) (a + 1)

theorem memByte_memWrite_outside (m : List Host.Cell) (a : Nat) (bs : List Byte) {c : Nat}
    (h : c < a ∨ a + bs.length ≤ c) : memByte (memWrite m a bs) c = memByte m c := by
  induction bs generalizing m a with
  | nil => rfl
  | cons b bs ih =>
    simp only [List.length_cons] at h
    rw [memWrite, ih _ _ (by omega), memByte_memSet_of_ne _ _ (by omega)]

theorem Memory.canon_of_wf {m : List Host.Cell} (h : Memory.wf m = true) : Memory.canon m = m := by
  simp [Memory.canon, h]

theorem Memory.foldr_wf (m : List Host.Cell) : Memory.wf (m.foldr (fun c n => memSet n c.1 c.2) []) = true := by
  induction m with
  | nil => rfl
  | cons c m ih => exact memSet_wf ih c.1 c.2

theorem Memory.canon_wf (m : List Host.Cell) : Memory.wf (Memory.canon m) = true := by
  unfold Memory.canon
  split
  · assumption
  · exact Memory.foldr_wf m

theorem memByte_memWrite_inside {m : List Host.Cell} (h : Memory.wf m = true) (a : Nat) (bs : List Byte) {i : Nat}
    (hi : i < bs.length) : memByte (memWrite m a bs) (a + i) = bs[i] := by
  induction bs generalizing m a i with
  | nil => exact absurd hi (Nat.not_lt_zero i)
  | cons b bs ih =>
    cases i with
    | zero =>
      rw [memWrite, memByte_memWrite_outside _ _ _ (by omega)]
      exact memByte_memSet_self h a b
    | succ i =>
      have := ih (memSet_wf h a b) (a + 1) (i := i) (by simpa using hi)
      simpa [memWrite, Nat.add_assoc, Nat.add_comm, Nat.add_left_comm] using this

end Sys2Proof.Machine
end

