-- ==== Sys2Proof/Laws/Run.lean ====
section
/-! SUPPORT. The frame of every command: what `commit` and `run` do, and that each command's meaning is a run of it. -/

namespace Sys2Proof.Machine

variable (s t : State) (cold : Bool)

/-! ### The latches -/

theorem State.latched_faultN_of_warm (h : s.ras.faultN = true) : (s.latched t false).ras.faultN = true := by
  simp [State.latched, h]

theorem State.latched_straps_of_warm : (s.latched t false).power.straps = s.power.straps := rfl

/-- A device that serves as in the fatal state does so after every command but those of a cold reset. -/
theorem State.latched_isFatal_of_warm (h : s.isFatal = true) : (s.latched t false).isFatal = true := by
  simp only [State.isFatal, State.latched] at h ⊢
  split <;> simp_all

/-- A device that asserts FAULT_N serves as in the fatal state. -/
theorem State.latched_isFatal_of_faultN (h : (s.latched t cold).ras.faultN = true) : (s.latched t cold).isFatal = true := by
  simp only [State.isFatal, State.latched] at h ⊢
  split
  · assumption
  · split
    · simp_all
    · simp

/-! ### `commit` -/

@[simp] theorem commit_pending : (commit s t cold).pending = s.pending := rfl

@[simp] theorem commit_out : (commit s t cold).out = s.out ++ s.letsOut t.out := rfl

@[simp] theorem commit_chamber : (commit s t cold).queue.chamber = Memory.canon t.queue.chamber := rfl

@[simp] theorem commit_now : (commit s t cold).now = t.now := rfl
@[simp] theorem commit_canalTime : (commit s t cold).canalTime = t.canalTime := rfl
@[simp] theorem commit_regs : (commit s t cold).regs = t.regs := rfl
@[simp] theorem commit_nextId : (commit s t cold).nextId = t.nextId := rfl
@[simp] theorem commit_free : (commit s t cold).free = t.free := rfl
@[simp] theorem commit_slices : (commit s t cold).slices = t.slices := rfl
@[simp] theorem commit_cache : (commit s t cold).cache = t.cache := rfl
@[simp] theorem commit_home : (commit s t cold).home = t.home := rfl
@[simp] theorem commit_tenant : (commit s t cold).tenant = t.tenant := rfl
@[simp] theorem commit_prot : (commit s t cold).prot = t.prot := rfl
@[simp] theorem commit_search : (commit s t cold).search = t.search := rfl
@[simp] theorem commit_counter : (commit s t cold).counter = t.counter := rfl
@[simp] theorem commit_link : (commit s t cold).link = t.link := rfl
@[simp] theorem commit_canal : (commit s t cold).canal = t.canal := rfl
@[simp] theorem commit_mgmt : (commit s t cold).mgmt = t.mgmt := rfl

theorem commit_isFatal : (commit s t cold).isFatal = (s.latched t cold).isFatal := rfl
theorem commit_faultN : (commit s t cold).ras.faultN = (s.latched t cold).ras.faultN := rfl

theorem commit_chamber_wf : Memory.wf (commit s t cold).queue.chamber = true := Memory.canon_wf _

/-! ### `run` -/

variable {s} {i : Instr} {effect : State → State}

theorem run_fault (h : i.wellFormed = false) : run i s effect = .fault .noSuchItem := by simp [run, h]

theorem run_next (h : i.wellFormed = true) (hs : s.power.device ≠ .starting) :
    run i s effect = .next (s.after i effect) := by
  have : (s.power.device == DeviceState.starting) = false := by simpa using hs
  simp [run, h, this, State.after]

theorem run_inReset (h : i.wellFormed = true) (hr : inReset i = true) : run i s effect = .next (s.after i effect) := by
  simp [run, h, hr, State.after]

theorem run_deaf (h : i.wellFormed = true) (hs : s.power.device = .starting) (hr : inReset i = false) :
    run i s effect = .next s := by simp [run, h, hs, hr]

/-- A command completes with an effect that its meaning's own effect comes to on this state. -/
theorem run_completes (h : i.wellFormed = true) (ha : s.awake) {g : State → State}
    (hf : effect { s with pending := [], out := [] } = g { s with pending := [], out := [] }) :
    run i s effect = .next (s.after i g) := by
  rw [run_next h ha, State.after, State.after, hf]

/-! ### Commands that raise nothing -/

theorem State.noteRestarts_of_nil {s : State} (h : s.counter.restarted = []) : s.noteRestarts = s := by
  simp [State.noteRestarts, h]

/-- The latches leave an effect as it is that touches neither the faults nor the device's state and straps. -/
theorem State.latched_quiet {s t : State} (hs : s.ras.faultN = true → s.isFatal = true) (h1 : t.ras = s.ras)
    (h2 : t.power.device = s.power.device) (h3 : t.power.straps = s.power.straps) (cold : Bool) : s.latched t cold = t := by
  have hf : t.isFatal = s.isFatal := by simp [State.isFatal, h2]
  have key : ∀ (a : Bool) (b c : Nat) (d : BitVec 32) (e : DeviceState), a = t.ras.faultN → b = t.ras.fatalEvent →
      c = t.ras.fatalTime → d = t.power.straps → e = t.power.device →
      ({ t with ras := { t.ras with faultN := a, fatalEvent := b, fatalTime := c }
                power := { t.power with straps := d, device := e } } : State) = t := by
    intros; subst_vars; rfl
  apply key
  · simp only [h1]; cases s.ras.faultN <;> cases cold <;> rfl
  · simp only [h1]; split <;> rfl
  · simp only [h1]; split <;> rfl
  · split <;> simp [h3]
  · have hf' : ∀ r, State.isFatal { t with ras := r } = s.isFatal := fun _ => hf
    simp only [h1]
    rw [hf']
    cases hF : s.isFatal
    · have hN : s.ras.faultN = false := by
        cases h : s.ras.faultN
        · rfl
        · rw [hs h] at hF; exact absurd hF (by simp)
      simp [hN]
    · simp

/-- What a command leaves whose effect raises nothing and stores nothing in Chamber RAM. -/
theorem State.after_quiet {s : State} (hs : s.Inv) (i : Instr) {f : State → State} {t : State}
    (hf : f { s with pending := [], out := [] } = t) (h1 : t.ras = s.ras) (h2 : t.power.device = s.power.device)
    (h3 : t.power.straps = s.power.straps) (h4 : t.counter.restarted = []) (h5 : t.queue.chamber = s.queue.chamber) :
    s.after i f = { t with pending := s.pending, out := s.out ++ s.letsOut t.out } := by
  obtain ⟨w, hn, _⟩ := hs
  rw [State.after, hf, State.noteRestarts_of_nil h4, commit, State.latched_quiet hn h1 h2 h3]
  have : Memory.canon t.queue.chamber = t.queue.chamber := by rw [h5, Memory.canon_of_wf w]
  simp only [this]

/-- The next state of such a command: the device was deaf, or the effect stands with what it sent. -/
theorem run_quiet {s t u : State} (hs : s.Inv) (i : Instr) (f : State → State) (hf : f { s with pending := [], out := [] } = u)
    (h1 : u.ras = s.ras) (h2 : u.power.device = s.power.device) (h3 : u.power.straps = s.power.straps)
    (h4 : u.counter.restarted = []) (h5 : u.queue.chamber = s.queue.chamber) (h : run i s f = .next t) :
    t = s ∨ t = { u with pending := s.pending, out := s.out ++ s.letsOut u.out } := by
  by_cases hw : i.wellFormed = true
  · by_cases hst : s.power.device = .starting
    · by_cases hi : inReset i = true
      · rw [run_inReset hw hi, State.after_quiet hs i hf h1 h2 h3 h4 h5] at h
        exact .inr (by simpa using h.symm)
      · rw [run_deaf hw hst (by simpa using hi)] at h
        exact .inl (by simpa using h.symm)
    · rw [run_next hw hst, State.after_quiet hs i hf h1 h2 h3 h4 h5] at h
      exact .inr (by simpa using h.symm)
  · rw [run_fault (by simpa using hw)] at h
    exact absurd h (by simp)

/-- Everything that a command can do: answer the one fault, leave the state as it is, or commit an effect. -/
theorem exec_cases (i : Instr) (s : State) :
    exec i s = .fault .noSuchItem ∨ exec i s = .next s ∨ ∃ effect, exec i s = .next (s.after i effect) := by
  obtain ⟨effect, h⟩ := exec_eq_run i s
  rw [h]
  by_cases hw : i.wellFormed = true
  · by_cases hs : s.power.device = .starting
    · by_cases hr : inReset i = true
      · exact .inr (.inr ⟨effect, run_inReset hw hr⟩)
      · exact .inr (.inl (run_deaf hw hs (by simpa using hr)))
    · exact .inr (.inr ⟨effect, run_next hw hs⟩)
  · exact .inl (run_fault (by simpa using hw))

/-! ### Stores at peer homes (R157, R161) -/

theorem loseStores_frame (l : List PeerStore) : ∀ s : State,
    (l.foldl (fun s x => s.loseStore x.queue x.bulk) s).slices = s.slices ∧
      (l.foldl (fun s x => s.loseStore x.queue x.bulk) s).link = s.link := by
  induction l with
  | nil => intro s; exact ⟨rfl, rfl⟩
  | cons x l ih => intro s; exact ih (s.loseStore x.queue x.bulk)

/-- What settling some of the stores leaves of the rest, and that it leaves the slices. -/
theorem settleStores_frame (s : State) (p : PeerStore → Bool) (lost : Bool) :
    (s.settleStores p lost).slices = s.slices ∧ (s.settleStores p lost).link.stores = s.link.stores.filter fun x => !p x := by
  unfold State.settleStores
  cases lost
  · exact ⟨rfl, rfl⟩
  · exact ⟨(loseStores_frame _ _).1, congrArg (·.stores) (loseStores_frame _ _).2⟩

/-- No store of a queue is held back anew when those whose time has passed are given up. -/
theorem expireStores_retired {s : State} {q : Nat} (h : s.storesRetired q [] = true) : s.expireStores.storesRetired q [] = true := by
  have f := settleStores_frame s (fun x => x.since.any fun t => decide (t + (2 * (s.reg 0x5100 1 * 1000) + s.reg 0x2200 6 * 4 / 5) ≤ s.now)) true
  simp only [State.storesRetired, List.all_nil, Bool.true_and, Bool.and_eq_true, Bool.not_eq_true', List.any_eq_false] at h ⊢
  refine ⟨fun x hx => h.1 x ?_, ?_⟩
  · rw [State.expireStores, f.2] at hx
    exact (List.mem_filter.1 hx).1
  · rw [State.expireStores, f.1]
    exact h.2

end Sys2Proof.Machine
end

