-- ==== Sys2Proof/Laws/Objects.lean ====
section
/-! SUPPORT. A client's write of an object from its frame to its answer. -/

namespace Sys2Proof.Machine

theorem ofLe_leBytes (v n : Nat) : ofLe (leBytes v n) = v % 256 ^ n := by
  induction n generalizing v with
  | zero => simp [leBytes, ofLe, Nat.mod_one]
  | succ n ih =>
    have e : (BitVec.ofNat 8 v).toNat = v % 256 := rfl
    rw [leBytes, ofLe, ih, e, Nat.pow_succ', Nat.mod_mul]

@[simp] theorem leBytes_length (v n : Nat) : (leBytes v n).length = n := by
  induction n generalizing v with
  | zero => rfl
  | succ n ih => simp [leBytes, ih]

section header
variable {c : Client} {index sub len : Nat}

theorem writeHeader_toNat (hn : c.number < 2 ^ 16) (hi : index < 2 ^ 16) (hs : sub < 2 ^ 8) (hl : len < 2 ^ 16) :
    (writeHeader c index sub len).toNat =
      2 ^ 124 + 2 * 2 ^ 120 + c.number * 2 ^ 96 + index * 2 ^ 64 + sub * 2 ^ 56 + len * 2 ^ 40 := by
  simp only [writeHeader, frameHeader, BitVec.toNat_ofNat]
  omega

theorem fld_writeHeader (lo width : Nat) (hn : c.number < 2 ^ 16) (hi : index < 2 ^ 16) (hs : sub < 2 ^ 8) (hl : len < 2 ^ 16) :
    fld (writeHeader c index sub len) lo width =
      (2 ^ 124 + 2 * 2 ^ 120 + c.number * 2 ^ 96 + index * 2 ^ 64 + sub * 2 ^ 56 + len * 2 ^ 40) / 2 ^ lo % 2 ^ width := by
  rw [fld, bits, writeHeader_toNat hn hi hs hl, Nat.shiftRight_eq_div_pow]

/-- The fields of the header of a named write. -/
theorem writeHeader_fields (hn : c.number < 2 ^ 16) (hi : index < 2 ^ 16) (hs : sub < 2 ^ 8) (hl : len < 2 ^ 16) :
    fhVersion (writeHeader c index sub len) = 1 ∧ fhKind (writeHeader c index sub len) = 2 ∧
      fhFlags (writeHeader c index sub len) = 0 ∧ fhClient (writeHeader c index sub len) = c.number ∧
      fhSeq (writeHeader c index sub len) = 0 ∧ fhIndex (writeHeader c index sub len) = index ∧
      fhSub (writeHeader c index sub len) = sub ∧ fhLen (writeHeader c index sub len) = len ∧
      fhReserved (writeHeader c index sub len) = 0 := by
  simp only [fhVersion, fhKind, fhFlags, fhClient, fhSeq, fhIndex, fhSub, fhLen, fhReserved, fld_writeHeader _ _ hn hi hs hl]
  refine ⟨?_, ?_, ?_, ?_, ?_, ?_, ?_, ?_, ?_⟩ <;> omega
end header

variable {s t : State} {c : Client} {index sub : Nat} {data : List Byte} {pick : Option (Nat × Nat)}

/-- The frame of a named write. -/
def namedFrame (c : Client) (index sub : Nat) (data : List Byte) (pick : Option (Nat × Nat)) : Frame :=
  { transport := c.transport, header := writeHeader c index sub data.length, data := data, pick := pick }

theorem namedFrame_header : (namedFrame c index sub data pick).header = writeHeader c index sub data.length := rfl

theorem Client.number_lt (hc : c.ok = true) : c.number < 2 ^ 16 := by
  simp only [Client.ok, Bool.and_eq_true, fits, decide_eq_true_eq] at hc; exact hc.1

theorem frameLimit_ge (tr : Transport) : 240 ≤ frameLimit tr := by cases tr <;> simp [frameLimit]

theorem limit_lt {tr : Transport} {n : Nat} (h : n ≤ frameLimit tr) : n < 2 ^ 16 := by
  cases tr <;> simp only [frameLimit] at h <;> omega

theorem namedFrame_client (hc : c.ok = true) (hi : index < 2 ^ 16) (hs : sub < 2 ^ 8) (hl : data.length ≤ frameLimit c.transport) :
    (namedFrame c index sub data pick).client = c := by
  have e := (writeHeader_fields (len := data.length) (Client.number_lt hc) hi hs (limit_lt hl)).2.2.2.1
  simp only [Frame.client, namedFrame, e]

theorem namedFrame_whole (hc : c.ok = true) (hi : index < 2 ^ 16) (hs : sub < 2 ^ 8) (hl : data.length ≤ frameLimit c.transport) :
    (namedFrame c index sub data pick).whole = true := by
  obtain ⟨-, e2, -, -, -, -, -, e8, -⟩ := writeHeader_fields (len := data.length) (Client.number_lt hc) hi hs (limit_lt hl)
  simp [Frame.whole, namedFrame, e2, e8]

theorem namedFrame_formOk (hc : c.ok = true) (hn : c.number ≠ 0) (hi : index < 2 ^ 16) (hs : sub < 2 ^ 8) (hl : data.length ≤ frameLimit c.transport) :
    (namedFrame c index sub data pick).formOk = true := by
  obtain ⟨e1, e2, e3, e4, -, -, -, e8, e9⟩ := writeHeader_fields (len := data.length) (Client.number_lt hc) hi hs (limit_lt hl)
  simp [Frame.formOk, namedFrame, e1, e2, e3, e4, e9, e8, hn, hl]

theorem handleWrite_write {f : Frame} {sel : Selector} (h : fhKind f.header = 2) : s.handleWrite f sel = s.writeFrame f sel := by
  unfold State.handleWrite
  split
  · rfl
  · rename_i h'; rw [h] at h'; exact absurd h' (by decide)
  · rename_i h1 _; exact absurd h h1

/-- The response that a handled write sends, none while it waits. -/
def answered (tr : Transport) (h : Word128) (p : State × Option Reply) : State :=
  match p.2 with
  | none => p.1
  | some r => p.1.reply tr h r

/-- A WRITE frame without a sequence number that is heard, whole and well formed. -/
theorem frameArrives_write {f : Frame} {sel : Selector} (hear : s.hears f.transport = true) (hw : f.whole = true) (hcl : f.client = c)
    (busy : s.clientBusy c = false) (hf : f.formOk = true) (hk : fhKind f.header = 2) (hq : fhSeq f.header = 0)
    (hs : (s.touchClient c).selFor f = sel) :
    s.frameArrives f = answered f.transport f.header ((s.touchClient c).writeFrame f sel) := by
  unfold State.frameArrives
  rw [hear, hw, hcl, busy]
  simp only [Bool.not_true, Bool.not_false, Bool.false_eq_true, if_false, if_true]
  unfold State.serveFrame
  dsimp only
  rw [hf, hcl, hs, if_neg (by decide), if_neg (by omega), if_neg (by omega), if_pos hq]
  unfold State.performWrite
  dsimp only
  rw [hq]
  simp only [bne_self_eq_false, Bool.false_eq_true, if_false, handleWrite_write hk]
  unfold answered
  split
  · rename_i h; rw [h]
  · rename_i h; rw [h]

/-- A window shows the items in the range of its select object. -/
theorem windowShows_of {w n : Nat} {d : ObjDef} (hd : objDef w 1 = some d) (h : d.lo ≤ n ∧ n ≤ d.hi) :
    State.windowShows (some (w, n)) = true := by
  simp [State.windowShows, hd, h.1, h.2]

/-- A named write that is heard is handled as its frame. -/
theorem namedWrite_serves (hp : State.windowShows pick = true) (hc : c.ok = true) (hn : c.number ≠ 0) (hear : s.hears c.transport = true) (busy : s.clientBusy c = false)
    (hi : index < 2 ^ 16) (hs : sub < 2 ^ 8) (hl : data.length ≤ frameLimit c.transport) :
    s.namedWrite c index sub data pick = answered c.transport (writeHeader c index sub data.length)
      ((s.touchClient c).writeFrame (namedFrame c index sub data pick) ((s.touchClient c).picked c pick)) := by
  have e := writeHeader_fields (len := data.length) (Client.number_lt hc) hi hs (limit_lt hl)
  have e2 : fhKind (namedFrame c index sub data pick).header = 2 := by rw [namedFrame_header]; exact e.2.1
  have e5 : fhSeq (namedFrame c index sub data pick).header = 0 := by rw [namedFrame_header]; exact e.2.2.2.2.1
  have sel : ∀ x : State, x.selFor (namedFrame c index sub data pick) = x.picked c pick := by
    intro x
    cases pick with
    | none => simp only [State.selFor, State.picked, namedFrame_client hc hi hs hl]; rfl
    | some p => simp only [State.selFor, State.picked, namedFrame_client hc hi hs hl]; rfl
  rw [State.namedWrite, if_pos hp]
  exact frameArrives_write (sel := (s.touchClient c).picked c pick) hear (namedFrame_whole hc hi hs hl) (namedFrame_client hc hi hs hl) busy
    (namedFrame_formOk hc hn hi hs hl) e2 e5 (sel _)

theorem writeFrame_ok {f : Frame} {sel : Selector} (hi : fhIndex f.header = index) (hs : fhSub f.header = sub) (hcl : f.client = c)
    (h1 : ¬ (index = 0x1F00 ∧ sub = 1)) (h2 : ¬ (index = 0x2020 ∧ sub = 2)) (hw : s.checkedWrite c sel index sub f.data = .ok t) :
    s.writeFrame f sel = (t, some { kind := 0xA }) := by
  unfold State.writeFrame
  dsimp only
  rw [hi, hs, hcl, if_neg (by simpa using h1), if_neg (by simpa using h2), hw]

/-- A named write that succeeds is answered with WRITE_RSP. -/
theorem namedWrite_ok (hp : State.windowShows pick = true) (hc : c.ok = true) (h : s.mayWrite c index sub pick = true) (hi : index < 2 ^ 16) (hs : sub < 2 ^ 8)
    (hl : data.length ≤ frameLimit c.transport) (h1 : ¬ (index = 0x1F00 ∧ sub = 1)) (h2 : ¬ (index = 0x2020 ∧ sub = 2))
    (hw : (s.touchClient c).checkedWrite c ((s.touchClient c).picked c pick) index sub data = .ok t) :
    s.namedWrite c index sub data pick = t.reply c.transport (writeHeader c index sub data.length) { kind := 0xA } := by
  simp only [State.mayWrite, Bool.and_eq_true, bne_iff_ne, ne_eq, Bool.not_eq_true'] at h
  obtain ⟨⟨⟨⟨-, hear⟩, busy⟩, hn⟩, -⟩ := h
  have e := writeHeader_fields (len := data.length) (Client.number_lt hc) hi hs (limit_lt hl)
  have e6 : fhIndex (namedFrame c index sub data pick).header = index := by rw [namedFrame_header]; exact e.2.2.2.2.2.1
  have e7 : fhSub (namedFrame c index sub data pick).header = sub := by rw [namedFrame_header]; exact e.2.2.2.2.2.2.1
  rw [namedWrite_serves hp hc hn hear busy hi hs hl, writeFrame_ok e6 e7 (namedFrame_client hc hi hs hl) h1 h2 hw]
  rfl

/-- What an unbarred write of a number comes to. -/
theorem checkedWrite_num {d : ObjDef} {sel : Selector} (h0 : sub ≠ 0) (hd : objDef index sub = some d) (hb : s.writeBarred c.transport sel d = none)
    (ht : (d.type == .octets) = false) (hl : data.length = d.type.size) (hr : d.lo ≤ ofLe data ∧ ofLe data ≤ d.hi) :
    s.checkedWrite c sel index sub data = (s.writeTables sel index sub).writeNum c sel index sub (ofLe data) := by
  have h1 : (decide (ofLe data < d.lo) || decide (d.hi < ofLe data)) = false := by
    simp only [Bool.or_eq_false_iff, decide_eq_false_iff_not]; omega
  simp only [State.checkedWrite, hd, hb, ht, hl]
  simp [h0, h1]

/-! ### What a client's frame changes before it is handled -/

/-- Writing the words of a log record changes the fault state alone. -/
theorem State.writeLogWords_ras (n : Nat) : s.writeLogWords n = { s with ras := (s.writeLogWords n).ras } := by
  simp only [State.writeLogWords, List.foldl_cons, List.foldl_nil]
  split <;> split <;> rfl

theorem State.writeLogWords_blank (n : Nat) :
    State.writeLogWords { s with pending := [], out := [] } n = { s.writeLogWords n with pending := [], out := [] } := by
  have h : ∀ (x : State) (w : Nat), State.damageAt { x with pending := [], out := [] } 369 w = x.damageAt 369 w := fun _ _ => rfl
  simp only [State.writeLogWords, List.foldl_cons, List.foldl_nil, h]
  split <;> (try rw [show ∀ x : State, State.setDamage { x with pending := [], out := [] } 369 (logWord n) 0 =
    { x.setDamage 369 (logWord n) 0 with pending := [], out := [] } from fun _ => rfl]) <;> rw [h] <;> split <;> rfl

/-- An event below DEVICE-FATAL changes the fault state alone. -/
theorem State.logEvent_quiet (e : Event) (h : e.cls ≠ .deviceFatal) : s.logEvent e = { s with ras := (s.logEvent e).ras } := by
  simp only [State.logEvent]
  split
  · rfl
  · have hf : ∀ x : State, x.markFatal (s.newRecord e) (e.code == 0x7006) = x := by
      intro x
      have : ((s.newRecord e).cls == FaultClass.deviceFatal) = false := by simpa [State.newRecord] using h
      simp [State.markFatal, this]
    rw [hf, State.writeLogWords_ras]
    simp only [State.markAlert]
    split <;> rfl

/-- Nothing that an event logs depends on what waits or has left. -/
theorem State.logEvent_blank (e : Event) (h : e.cls ≠ .deviceFatal) :
    State.logEvent { s with pending := [], out := [] } e = { s.logEvent e with pending := [], out := [] } := by
  simp only [State.logEvent]
  have hq : (s.ras.log.any (State.foldsInto { s with pending := [], out := [] } e)) = s.ras.log.any (s.foldsInto e) := rfl
  rw [hq]
  split
  · rfl
  · have hf : ∀ x : State, x.markFatal (s.newRecord e) (e.code == 0x7006) = x := by
      intro x
      have : ((s.newRecord e).cls == FaultClass.deviceFatal) = false := by simpa [State.newRecord] using h
      simp [State.markFatal, this]
    have hn : State.newRecord { s with pending := [], out := [] } e = s.newRecord e := rfl
    have ha : ∀ r, State.appendRecord { s with pending := [], out := [] } r = { s.appendRecord r with pending := [], out := [] } := fun _ => rfl
    have hm : ∀ (x : State) r, State.markNotify { x with pending := [], out := [] } r = { x.markNotify r with pending := [], out := [] } :=
      fun _ _ => rfl
    rw [hn, hf, hf, ha, State.writeLogWords_blank, hm]
    simp only [State.markAlert]
    split <;> split <;> first | rfl | (exfalso; simp_all [State.reg, State.regAt])

theorem State.touchClient_blank :
    State.touchClient { s with pending := [], out := [] } c = { s.touchClient c with pending := [], out := [] } := by
  simp only [State.touchClient]
  have hc : State.clientAt { s with pending := [], out := [] } c = s.clientAt c := rfl
  rw [hc]
  split
  · rfl
  · cases hd : decide (256 ≤ s.mgmt.clients.length) <;> cases hl : s.mgmt.clients <;> simp only
    rename_i old rest
    exact State.logEvent_blank (s := { s with mgmt := { s.mgmt with
      clients := rest ++ [({ client := clientKey c } : ClientState)]
      selLost := s.mgmt.selLost.filter (· != old.client) ++ [old.client] } }) { code := 0x1003, cls := .note } (by decide)

/-- Of the management state a client's frame changes the clients and who lost a selection; beside it only an event may be logged. -/
theorem State.touchClient_eq : ∃ (clients : List ClientState) (lost : List Client) (ras : RasSt),
    s.touchClient c = { s with mgmt := { s.mgmt with clients := clients, selLost := lost }, ras := ras } := by
  simp only [State.touchClient]
  split
  · exact ⟨_, _, _, rfl⟩
  · split
    · rename_i old rest _ _
      exact ⟨_, _, _, State.logEvent_quiet (s := { s with mgmt := { s.mgmt with
        clients := rest ++ [({ client := clientKey c } : ClientState)]
        selLost := s.mgmt.selLost.filter (· != old.client) ++ [old.client] } }) { code := 0x1003, cls := .note } (by decide)⟩
    · exact ⟨_, _, _, rfl⟩

theorem State.mayWrite_blank : State.mayWrite { s with pending := [], out := [] } c index sub pick = s.mayWrite c index sub pick := by
  simp only [State.mayWrite, State.touchClient_blank]
  rfl

/-- A named write of a number that nothing bars and that its object's rule accepts. -/
theorem namedWrite_num {d : ObjDef} {f : State → State} (hp : State.windowShows pick = true) (hc : c.ok = true) (h : s.mayWrite c index sub pick = true)
    (hd : objDef index sub = some d) (hi : index < 2 ^ 16) (hs : sub < 2 ^ 8) (h0 : sub ≠ 0) (h1 : ¬ (index = 0x1F00 ∧ sub = 1))
    (h2 : ¬ (index = 0x2020 ∧ sub = 2)) (ht : (d.type == .octets) = false) (hz : d.type.size ≤ 240) (hl : data.length = d.type.size)
    (hr : d.lo ≤ ofLe data ∧ ofLe data ≤ d.hi)
    (hw : ((s.touchClient c).writeTables ((s.touchClient c).picked c pick) index sub).writeNum c ((s.touchClient c).picked c pick) index sub (ofLe data) = .ok (f (s.touchClient c))) :
    s.namedWrite c index sub data pick = State.wrote c index sub data f s := by
  have hb : (s.touchClient c).writeBarred c.transport ((s.touchClient c).picked c pick) d = none := by
    simp only [State.mayWrite, hd, Bool.and_eq_true, Option.isNone_iff_eq_none] at h
    exact h.2
  rw [namedWrite_ok hp hc h hi hs (by have := frameLimit_ge c.transport; omega) h1 h2 (by rw [checkedWrite_num h0 hd hb ht hl hr, hw])]
  rfl

end Sys2Proof.Machine
end

