-- ==== Sys2Proof/Laws/Commands.lean ====
section
/-! SUPPORT. A client's command from its submission to its start. -/

namespace Sys2Proof.Machine

/-- The header of a command record as its client writes it. -/
theorem cmdRecord_header (op ctag : Nat) (params : List Byte) (ho : op < 2 ^ 16) (hc : ctag < 2 ^ 32) (hp : params.length < 2 ^ 16) :
    ofLe ((cmdRecord op ctag false params).take 16) = op * 2 ^ 112 + params.length * 2 ^ 80 + ctag * 2 ^ 32 := by
  have : (cmdRecord op ctag false params).take 16 =
      leBytes (op * 2 ^ 112 + bit false * 2 ^ 104 + params.length * 2 ^ 80 + ctag * 2 ^ 32) 16 := by
    rw [cmdRecord, List.take_append_of_le_length (by simp)]
    exact List.take_of_length_le (by simp)
  rw [this, ofLe_leBytes]
  simp only [bit, Bool.false_eq_true, if_false]
  omega

theorem cmdRecord_params (op ctag : Nat) (params : List Byte) : (cmdRecord op ctag false params).drop 16 = params := by
  rw [cmdRecord, List.drop_append_of_le_length (by simp)]
  simp [List.drop_eq_nil_of_le]

theorem cmdRecord_length (op ctag : Nat) (params : List Byte) : (cmdRecord op ctag false params).length = 16 + params.length := by
  simp [cmdRecord]

/-- The fields of the header of a command record. -/
theorem cmdRecord_fields (op ctag : Nat) (params : List Byte) (ho : op < 2 ^ 16) (hc : ctag < 2 ^ 32) (hp : params.length < 2 ^ 16) :
    chOpcode (ofLe ((cmdRecord op ctag false params).take 16)) = op ∧ chFlags (ofLe ((cmdRecord op ctag false params).take 16)) = 0 ∧
      chPlen (ofLe ((cmdRecord op ctag false params).take 16)) = params.length ∧
      chCtag (ofLe ((cmdRecord op ctag false params).take 16)) = ctag ∧
      chReserved (ofLe ((cmdRecord op ctag false params).take 16)) = false := by
  rw [cmdRecord_header _ _ _ ho hc hp]
  simp only [chOpcode, chFlags, chPlen, chCtag, chReserved, bits, Nat.shiftRight_eq_div_pow, decide_eq_false_iff_not, Bool.or_eq_false_iff,
    ne_eq, Decidable.not_not]
  refine ⟨?_, ?_, ?_, ?_, ⟨?_, ?_⟩, ?_⟩ <;> omega

/-- The command that a submission leaves waiting. -/
def heldCommand (s : State) (client : Client) (op ctag : Nat) (params : List Byte) : Cmd :=
  { ticket := s.mgmt.nextTicket, client := clientKey client, opcode := op, ctag := ctag, notify := false
    buses := busBit client.transport, params := params }

/-- Nothing ends a submission at once that `takes` admits. -/
theorem refusedAtOnce_none {s t : State} {client : Client} {op ctag : Nat} {params : List Byte} (ho : (cmdArea op).isSome = true)
    (ho' : op < 2 ^ 16) (hc : ctag < 2 ^ 32) (hp : params.length < 2 ^ 16) (h : s.takes client op params = true)
    (ht : ∃ (m : MgmtSt) (r : RasSt), t = { s with mgmt := m, ras := r }) :
    t.refusedAtOnce (heldCommand s client op ctag params) (ofLe ((cmdRecord op ctag false params).take 16)) = none := by
  obtain ⟨m, r, rfl⟩ := ht
  simp only [State.takes, Bool.and_eq_true, bne_iff_ne, ne_eq, Bool.not_eq_true', List.isEmpty_iff, Bool.or_eq_true] at h
  obtain ⟨⟨⟨⟨⟨⟨⟨⟨⟨h1, h2⟩, h3⟩, h4⟩, h5⟩, h6⟩, h7⟩, h8⟩, h9⟩, h10⟩ := h
  obtain ⟨area, ha⟩ := Option.isSome_iff_exists.1 ho
  obtain ⟨-, e2, e3, -, e5⟩ := cmdRecord_fields op ctag params ho' hc hp
  have h4' : State.isFatal { s with mgmt := m, ras := r } = false := h4
  have h7' : State.plenOk { s with mgmt := m, ras := r } op params.length params = true := h7
  have hp' : (s.power.device == DeviceState.pfHalted) = false := by
    simp only [State.isFatal, Bool.or_eq_false_iff] at h4; exact h4.2
  simp only [State.refusedAtOnce, heldCommand, hp', h4', ha, e2, e3, e5, h7', h8]
  simp only [ha] at h10
  obtain ⟨tr, num⟩ := client
  cases tr with
  | mailbox p =>
    have f1 : State.adminPort { s with mgmt := m, ras := r } 0x4000 6 p = s.adminPort 0x4000 6 p := rfl
    have f2 : State.adminPort { s with mgmt := m, ras := r } 0x1103 1 p = s.adminPort 0x1103 1 p := rfl
    by_cases hx : area = CmdArea.protection
    · subst hx; simp at h10; simp [h5, f1, h10, clientKey]
    · simp [hx] at h10; simp [h5, f2, h10, hx, clientKey]
  | _ => simp [h5, clientKey]

/-- A command that its client may write is submitted: it holds a ticket and waits, and the client has its response. -/
theorem namedWrite_submits (s : State) (client : Client) (op ctag : Nat) (params : List Byte) (ho : (cmdArea op).isSome = true)
    (ho' : op < 2 ^ 16) (hc : ctag < 2 ^ 32) (hcl : client.ok = true) (h : s.takes client op params = true) :
    s.namedWrite client 0x1F00 1 (cmdRecord op ctag false params) none = s.submitted client op ctag params := by
  have hk := h
  simp only [State.takes, Bool.and_eq_true, bne_iff_ne, ne_eq, Bool.not_eq_true', List.isEmpty_iff, Bool.or_eq_true,
    decide_eq_true_eq] at h
  obtain ⟨⟨⟨⟨⟨⟨⟨⟨⟨h1, h2⟩, h3⟩, -⟩, -⟩, -⟩, -⟩, -⟩, -⟩, -⟩ := h
  simp only [State.mayWrite, Bool.and_eq_true, bne_iff_ne, ne_eq, Bool.not_eq_true'] at h1
  obtain ⟨⟨⟨⟨-, hear⟩, busy⟩, hn⟩, hb⟩ := h1
  have hl := cmdRecord_length op ctag params
  have lim := frameLimit_ge client.transport
  have hd : objDef 0x1F00 1 = some ⟨0x1F00, 1, .domain, .wo, 0, 0x10, 0x400⟩ := rfl
  simp only [hd, Option.isNone_iff_eq_none] at hb
  obtain ⟨e1, e2, -, e4, -⟩ := cmdRecord_fields op ctag params ho' hc (by omega)
  rw [namedWrite_serves rfl hcl hn hear busy (by decide) (by decide) (by omega)]
  have f := writeHeader_fields (c := client) (index := 0x1F00) (sub := 1) (len := (cmdRecord op ctag false params).length)
    (Client.number_lt hcl) (by decide) (by decide) (by omega)
  have i1 : fhIndex (namedFrame client 0x1F00 1 (cmdRecord op ctag false params) none).header = 0x1F00 := f.2.2.2.2.2.1
  have i2 : fhSub (namedFrame client 0x1F00 1 (cmdRecord op ctag false params) none).header = 1 := f.2.2.2.2.2.2.1
  have i3 : (namedFrame client 0x1F00 1 (cmdRecord op ctag false params) none).client = client :=
    namedFrame_client hcl (by decide) (by decide) (by omega)
  have i4 : (namedFrame client 0x1F00 1 (cmdRecord op ctag false params) none).data = cmdRecord op ctag false params := rfl
  have i5 : (namedFrame client 0x1F00 1 (cmdRecord op ctag false params) none).transport = client.transport := rfl
  simp only [State.writeFrame, i1, i2, State.submitRecord, i3, i4, i5, hb]
  rw [if_pos (by decide), if_neg (by omega), if_neg (by omega)]
  obtain ⟨clients, lost, r, ht⟩ := s.touchClient_eq (c := client)
  have hr := fun (m : MgmtSt) => refusedAtOnce_none (t := { s with mgmt := m, ras := r }) ho ho' hc (by omega) hk ⟨m, r, rfl⟩
  simp only [heldCommand] at hr
  simp only [ht, State.submitCommand, h3, List.length_nil, e1, e2, e4, cmdRecord_params, Nat.zero_testBit, hr, answered]
  rw [if_neg (by decide)]
  simp only [State.submitted, ht, h3, hl]

/-- A command that starts at once runs its own start on the state in which it alone is held. -/
theorem command_takes (s : State) (client : Client) (op ctag : Nat) (params : List Byte) (ho : (cmdArea op).isSome = true)
    (ho' : op < 2 ^ 16) (hcl : cmdOk client ctag = true) (h : s.takes client op params = true) :
    s.command client op ctag params = (s.started client op ctag params).startCommand (heldCommand s client op ctag params) := by
  simp only [cmdOk, Bool.and_eq_true, fits, decide_eq_true_eq] at hcl
  simp only [State.command, namedWrite_submits s client op ctag params ho ho' hcl.2 hcl.1 h]
  simp only [State.takes, Bool.and_eq_true, bne_iff_ne, ne_eq, Bool.not_eq_true', List.isEmpty_iff, Bool.or_eq_true] at h
  obtain ⟨⟨⟨⟨⟨⟨⟨⟨⟨-, -⟩, h3⟩, -⟩, -⟩, h6⟩, -⟩, -⟩, h9⟩, -⟩ := h
  have hw : (s.power.windowOpen && !runsInWindow op) = false := by
    rcases h6 with h6 | h6 <;> simp [h6]
  obtain ⟨clients, lost, r, ht⟩ := s.touchClient_eq (c := client)
  have hc : (s.submitted client op ctag params).mgmt.cmds = [heldCommand s client op ctag params] := by
    simp only [State.submitted, State.reply, h3, List.nil_append, heldCommand]
    split <;> rfl
  have hm : (s.submitted client op ctag params).mayStart (heldCommand s client op ctag params) = true := by
    have h9' : (cmdArea op == some CmdArea.chart && (s.submitted client op ctag params).chartWorks (param params 0 1)) = false := by
      rw [← h9]; simp only [State.submitted, State.reply, ht]; split <;> rfl
    simp only [State.mayStart, hc]
    simp only [heldCommand, h9', List.takeWhile_cons, bne_self_eq_false, Bool.false_eq_true, if_false,
      List.filter_nil, List.filter_cons, List.all_nil, List.isEmpty_nil, Bool.true_and, Bool.not_false, Bool.false_and]
    split <;> rfl
  have hp : (s.submitted client op ctag params).power = s.power := by
    simp only [State.submitted, State.reply, ht]; split <;> rfl
  have hn : (s.submitted client op ctag params).now = s.now ∧ (s.submitted client op ctag params).canalTime = s.canalTime := by
    simp only [State.submitted, State.reply, ht]; split <;> exact ⟨rfl, rfl⟩
  have hf : ([heldCommand s client op ctag params].find? fun c => c.ticket == s.mgmt.nextTicket && !c.running) =
      some (heldCommand s client op ctag params) := by
    simp [heldCommand]
  simp only [hc, hf, State.acceptCommand, hm]
  simp only [Bool.not_true, Bool.false_eq_true, if_false, hp, hn.1, hn.2, mapIf, List.map_cons, List.map_nil]
  simp only [heldCommand, hw, beq_self_eq_true, Bool.false_eq_true, if_false, if_true, State.started, hp, hn.1, hn.2]

/-! ### What a submission leaves as it is -/

section fields
variable (s : State) (c : Client) (op ctag : Nat) (params : List Byte)

/-- A submission changes the management state, logs at most that a client lost its place, and sends its response. -/
theorem started_eq : ∃ (m : MgmtSt) (r : RasSt) (o : List Out),
    s.started c op ctag params = { s with mgmt := m, ras := r, out := o } := by
  obtain ⟨clients, lost, r, ht⟩ := s.touchClient_eq (c := c)
  simp only [State.started, State.submitted, State.reply, ht]
  split <;> exact ⟨_, _, _, rfl⟩

@[simp] theorem started_now : (s.started c op ctag params).now = s.now := by
  obtain ⟨m, r, o, h⟩ := started_eq s c op ctag params; rw [h]
@[simp] theorem started_canalTime : (s.started c op ctag params).canalTime = s.canalTime := by
  obtain ⟨m, r, o, h⟩ := started_eq s c op ctag params; rw [h]
@[simp] theorem started_regs : (s.started c op ctag params).regs = s.regs := by
  obtain ⟨m, r, o, h⟩ := started_eq s c op ctag params; rw [h]
@[simp] theorem started_nextId : (s.started c op ctag params).nextId = s.nextId := by
  obtain ⟨m, r, o, h⟩ := started_eq s c op ctag params; rw [h]
@[simp] theorem started_slices : (s.started c op ctag params).slices = s.slices := by
  obtain ⟨m, r, o, h⟩ := started_eq s c op ctag params; rw [h]
@[simp] theorem started_cache : (s.started c op ctag params).cache = s.cache := by
  obtain ⟨m, r, o, h⟩ := started_eq s c op ctag params; rw [h]
@[simp] theorem started_home : (s.started c op ctag params).home = s.home := by
  obtain ⟨m, r, o, h⟩ := started_eq s c op ctag params; rw [h]
@[simp] theorem started_tenant : (s.started c op ctag params).tenant = s.tenant := by
  obtain ⟨m, r, o, h⟩ := started_eq s c op ctag params; rw [h]
@[simp] theorem started_prot : (s.started c op ctag params).prot = s.prot := by
  obtain ⟨m, r, o, h⟩ := started_eq s c op ctag params; rw [h]
@[simp] theorem started_queue : (s.started c op ctag params).queue = s.queue := by
  obtain ⟨m, r, o, h⟩ := started_eq s c op ctag params; rw [h]
@[simp] theorem started_search : (s.started c op ctag params).search = s.search := by
  obtain ⟨m, r, o, h⟩ := started_eq s c op ctag params; rw [h]
@[simp] theorem started_counter : (s.started c op ctag params).counter = s.counter := by
  obtain ⟨m, r, o, h⟩ := started_eq s c op ctag params; rw [h]
@[simp] theorem started_link : (s.started c op ctag params).link = s.link := by
  obtain ⟨m, r, o, h⟩ := started_eq s c op ctag params; rw [h]
@[simp] theorem started_canal : (s.started c op ctag params).canal = s.canal := by
  obtain ⟨m, r, o, h⟩ := started_eq s c op ctag params; rw [h]
@[simp] theorem started_power : (s.started c op ctag params).power = s.power := by
  obtain ⟨m, r, o, h⟩ := started_eq s c op ctag params; rw [h]

/-- Whether a command starts depends on nothing that waits or has left. -/
theorem takes_blank : State.takes { s with pending := [], out := [] } c op params = s.takes c op params := by
  simp only [State.takes, State.mayWrite_blank]
  rfl
end fields

/-- A value that fits its field is written in the field's bytes. -/
theorem fieldBytes_of_lt {v n : Nat} (h : v < 256 ^ n) : fieldBytes v n = leBytes v n := by simp [fieldBytes, h]

end Sys2Proof.Machine
end

