-- ==== Sys2Proof/Tests/Slice0.lean ====
section
/-! SUPPORT. Tests of the model: ill-formed commands, worked examples of the manual, single steps, and states that meet the hypotheses of the statements. -/

open Sys2Proof Sys2Proof.Machine

namespace Sys2Proof.Tests

set_option Elab.async false

/-! ### Small states -/

/-- A running device after reset with nothing listed. -/
def live : State := { power := { device := .running, windowOpen := false } }
/-- A client of the I3C transport. -/
def me : Client := ⟨.i3c, 1⟩
/-- A host port that is UP and whose range starts at 0. -/
def upPort : Port := { cfg := 0x00000100, st := .up, hdmBase := some 0 }

/-- A live device whose port 0 is an UP host port. -/
def hosted : State := { live with link := { quads := [(0, 1)], ports := [(0, upPort)] } }
/-- A live device that has seen time pass. -/
def later : State := { live with now := 10 ^ 10 }
def reqA : Req := { id := 9, cls := .rdNc, dpa := 2 ^ 45 - 64 }
def txnA : Txn := { req := { id := 9 }, unit := .quad 127, access := .read, port := 0, marker := 0, offset := 0 }
def missA : MissReg := { id := 5, dpa := 2 ^ 45 - 64 }
def fullWb : WbEntry := { dpa := 2 ^ 45 - 64, w := ⟨0, BitVec.allOnes 64, false⟩ }
def rdOf : Word128 := BitVec.ofNat 128 (2 ^ 127 + 2 ^ 124)
def rdOf0 : Word128 := BitVec.ofNat 128 (2 ^ 23 * 2 ^ 54)
def cdOf : Word128 := 2 ^ 127 + 4 * 2 ^ 115 + 2 ^ 107 + 2 ^ 102
/-- Device 3 as an active member of the canal with device 5. -/
def member : State := { later with power := { device := .running, windowOpen := false, straps := 3 }, canal := { member := .active, active := [3, 5], epoch := 2, leader := 3 } }
/-- A device whose start-up window is open. -/
def window : State := {}
def pdOf : Word128 := 2 ^ 127
def pdMetaOf : Word128 := BitVec.ofNat 128 (2 ^ 16 * 2 ^ 76)
def ptOf : Word128 := BitVec.ofNat 128 (2 ^ 127 + 2 ^ 64)
def qcOf : Word128 := BitVec.ofNat 128 (2 ^ 126 + 2 ^ 76)
def dcOf : Word128 := BitVec.ofNat 128 (2 ^ 119 + 2 ^ 78 + 2 ^ 55)
def generator : List Byte := 4 :: (leBytes 0xaa87ca22be8b05378eb1c71ef320ad746e1d3b628ba79b9859f741e082542a385502f25dbf55296c3a545e3872760ab7 48).reverse ++ (leBytes 0x3617de4a96262c6f5d9e98bf9292dc29f8f41dbd289a147ce9da3113b5f0b8c00a60b1ce1d7e819d7a431d7c90ea0e5f 48).reverse
def kekOf : BitVec 256 := 0x000102030405060708090A0B0C0D0E0F101112131415161718191A1B1C1D1E1F
def keyOf : BitVec 256 := 0x00112233445566778899AABBCCDDEEFF000102030405060708090A0B0C0D0E0F
def wrappedOf : List Byte := (leBytes 0x28C9F404C4B810F4CBCCB35CFB87F8263F5786E2D80ED326CBC7F0E71A99F43BFB988B9B7A02DD21 40).reverse
def cmdA : Cmd := { ticket := 1, client := me, opcode := 0x1001, ctag := 0, notify := false, params := [] }
def generatorPoint : Nat × Nat := (0xaa87ca22be8b05378eb1c71ef320ad746e1d3b628ba79b9859f741e082542a385502f25dbf55296c3a545e3872760ab7, 0x3617de4a96262c6f5d9e98bf9292dc29f8f41dbd289a147ce9da3113b5f0b8c00a60b1ce1d7e819d7a431d7c90ea0e5f)
def bytesOut : Transfer := { index := 0x4600, sub := 3, write := false, bytes := [1, 2, 3], touched := 0, lastSent := some 0 }
def reading : State := { later with mgmt := { clients := [{ client := ⟨.i3c, 65535⟩, transfers := [bytesOut] }] } }
def upLast : State := { later with link := { quads := [(127, 1)], ports := [(127, { cfg := BitVec.ofNat 32 (127 * 2 ^ 22), st := .up })] } }
def busy : State := { later with regs := [(0x110101 * 65536, 3)], mgmt := { fbState := 3 } }
def intervalA : RevInterval := ⟨32767, 0, 0, 0, 2 ^ 24, 0, 0, 0, 0, 0, false, 0, false, false⟩
def bisnpA : BiSnp := { port := 127, hpa := 2 ^ 64 - 64, kind := .inv, home := 5, dpa := 2 ^ 45 - 64, marker := 63 }
def ppKey : Nat := dirKey 32 (dirSet (2 ^ 45 - 64)) 0
def rkOp : PoolOp := { rk := true, write := true, root := some 4095 }
def runA : SearchRun := ⟨5, .queue 4095 3 2, 0, 0, [], 1, 1, 0⟩
def tableCmd (op : Nat) : TableCmd := ⟨6, .ticket 6, 255, BitVec.ofNat 256 (op * 2 ^ 248), 0, 0, .queued, 0, [], 0, false, [], false, []⟩
def jobOf (coord instant : Nat) : SpanJob := { coordinator := coord, generation := 2 ^ 16 - 1, word1 := cdOf, word0 := 0, dmap := [], members := [3, 5], drop := false, instant := instant }
def launchA : Launch := { id := 5, source := .queue 0 0 0, chart := 255, key := 0, launch := 4095 * 4, started := 10 ^ 10 - 10, waiting := [1023] }
def partA : Part := { id := 5, link := none, chart := 255, key := 0, arrived := 0, launch := 0, relay := true }
def matchRow (p : Nat) : Row := { valid := true, chart := 255, priority := p, datum := 1 }
def matching : State := { live with search := { charts := [(255, { desc1 := cdOf, st := .valid })], rows := [(65536, matchRow 2), (65537, matchRow 9)] } }
def noteRec (code : Nat) : LogRecord := ⟨0, 1, code, .note, .access, false, none, 0, 1, .none, 0, false⟩
/-- Port 0 has a snoop out, and its quad holds a request for a 33rd lookaside miss. -/
def waitingHost : State := { hosted with
  tenant := { look := [(0, { held := [1] })] }
  home := { bisnps := [{ port := 0, hpa := 0, kind := .inv, home := 0, dpa := 0, marker := 0 }] } }
/-- Device 3 of a flight of 32 in a canal with devices 5 and 35: its flight link 8 leads to device 5, its reach link 62 to flight 1. -/
def detouring : State := { later with
  power := { device := .running, windowOpen := false, straps := BitVec.ofNat 32 (3 + 5 * 2 ^ 25) }
  canal := { member := .active, active := [3, 5, 35], epoch := 2, leader := 3 }
  link := { links := [(8, { st := .active, peerDevice := 5 }), (62, { st := .active, peerDevice := 35 })], vectors := [(5, 2 ^ 6)] } }
/-- A CANAL chart that has just been committed on devices 3, 5 and 35. -/
def spanChart : Chart := { desc1 := cdOf + 3 * 2 ^ 122, st := .valid, changedAt := 10 ^ 10, members := [3, 5, 35] }

/-! ### Ill-formed commands -/

/-- Each check of well-formedness refuses a term: an item past the last one, a field too wide, a list of the wrong length. -/
theorem test_illformed_refused :
    [Instr.rdS 128 0 0, .rdS 0 (2 ^ 64) 0, .lookasideMissResult (.quad 128), .admissionRequest (.qp 32), .fill 64 0,
      .crossBlockPrefetch (2 ^ 45) 0 0, .crossBlockPrefetch 0 32768 0, .crossBlockPrefetch 0 0 8, .pageReencryptReadsDone 0 [],
      .cacheEnable ⟨.i3c, 65536⟩ 0, .cacheEnable ⟨.mailbox 128, 1⟩ 0, .cacheEnable me (2 ^ 32), .cacheMoor ⟨.i3c, 65536⟩ 0 1,
      .requesterAck (2 ^ 45), .reverseWalkDone 0 0 64, .birspi (.peer 32 0 0 0) false, .birspi (.port 128 0) false,
      .setRecallSweepStep 0 32768, .forwardedSnoop 1024 .inv (.all none) 0, .forwardedSnoop 0 .inv (.one 0 64) 0,
      .forwardedSnoop 0 .inv (.portAll 128 0) 0, .forwardedSnoop 0 .inv (.all (some (0, 64))) 0,
      .forwardedResponse 0 65536 none false 0, .forwardedResponse 0 0 none false 4, .forwardedResponse 0 0 none false 12,
      .queueEnable ⟨.i3c, 65536⟩ 0, .chamberWindowAccess 128 0 1 none, .chamberWindowAccess 0 (2 ^ 64) 1 none,
      .read 0 (2 ^ 32), .table 4096 0 [], .queueResponse 32, .insert 256,
      .tableExec me (2 ^ 32) 0 [], .tableSubOperation 0 0 ⟨65536, .apply⟩ 0 0 0 0 0, .tableSubOperation 0 0 ⟨0, .pending 1024 true⟩ 0 0 0 0 0, .prepare 0 0 0 0 0 (List.replicate 257 0) [] false 0,
      .prepare 0 0 0 0 0 [] [1024] false 0].all (fun i => !i.wellFormed) = true := by decide +kernel

theorem test_illformed_refused_more :
    [Instr.kekEstablish me (2 ^ 32) [], .keyLoad me (2 ^ 32) 0 [], .scrubRead 384, .bucketLeak 15, .transportNotify (.mailbox 128),
      .alertAck ⟨.i3c, 65536⟩ 0, .ctxEntry ⟨.mailbox 128, 1⟩ 0 0, .targetDesc ⟨.i3c, 65536⟩ 0 0, .portLinkUp 0 3 0, .portLinkUp 0 0 17,
      .flitReceive 0 0 31, .timeFlit 0 (2 ^ 72) 0 0 0 0, .epochAnnounce (2 ^ 32) 0 [] 0, .cmdSubmit ⟨.mailbox 128, 1⟩ [],
      .objectFrame 128 [], .resetNRelease 0 [(64, 0)] [] [] true,
      .resetNRelease 0 [] [] [689] true, .coldSensorChange 16 0, .keySlotRestore 2 0, .regulatorWordRestore 40960,
      .membershipRecord ⟨0, 5, 0, 0, 0, 0, 0, 0, 0, 0, false, false, false, 0⟩].all (fun i => !i.wellFormed) = true := by
  decide +kernel

theorem test_illformed_faults : exec (.fill 64 0) live = .fault .noSuchItem := rfl

/-! ### Worked examples of the manual -/

/-- Chapter "The slice cache", Table: Home of DPA 0x73_9C5A_4D80. -/
theorem test_home_of_example :
    homeSlice 0x739C5A4D80 = 29 ∧ sectorInBlock 0x739C5A4D80 = 6 ∧ bits 0x739C5A4D80 16 12 = 0xC5A ∧ bits 0x739C5A4D80 28 17 = 0x739 ∧
      blockDpa 29 0xC5A 0x739 = 0x739C5A4C00 ∧ homeSlice 0x739C5A5000 = 26 := by decide +kernel

/-- The moored sector of R75's example: slice 3, set 0x345, sector 14. -/
theorem test_moored_home : homeSlice 0x100023456780 = 3 ∧ sectorInBlock 0x100023456780 = 14 := by decide +kernel

/-- R58's example: ways 15 and 14 are moored, way 5 drydocked, way 9 has a sector FILLING, every other way holds a block; the LFSR at 0xB7D3 chooses way 8 and then holds 0x6FA6. -/
theorem test_victim_of_example :
    ({ live with
      cache := { st := .enabled, moored := 2
                 modes := [(29 * 16 + 5, .drydocked), (29 * 16 + 14, .moored), (29 * 16 + 15, .moored)]
                 tags := (List.range 14).map fun w => (tagKey 29 0xC5A w, { bv := true, tag := w, sf := if w = 9 then 1 else 0 }) }
      slices := [(29, { lfsr := 0xB7D3 })] } : State).chooseVictim 29 0xC5A = some 8 ∧ lfsrStep 0xB7D3 = 0x6FA6 := by decide +kernel

/-- The two-bit error of "one bad moored word": D5 and D9 lie at positions 10 and 14, and the syndrome is 4. -/
theorem test_code_example : eccCheck (BitVec.ofNat 138 (2 ^ 10 + 2 ^ 14)) = .uncorrectable 4 0 := by decide +kernel

/-- R344's example: link 17 of device (2, 5) joins (2, 9) at that device's link 11. -/
theorem test_flight_link_example : flightPeer 5 17 = 9 ∧ Machine.flightLink 9 5 1 = 11 := by decide +kernel

/-- The descriptor of Corvenna's region 102. -/
def region102 : Word128 :=
  BitVec.ofNat 128 (2 ^ 127 + 2 * 2 ^ 122 + 7 * 2 ^ 117 + 9 * 2 ^ 56 + 127 * 2 ^ 49 + 2 * 2 ^ 43 + 63 * 2 ^ 37)
def region102Base : Word128 := BitVec.ofNat 128 (0x20000 * 2 ^ 103 + (0xC000 - 1) * 2 ^ 78 + 0xA0000 * 2 ^ 54)

/-- "One tenant, three markers": region 102 takes two rows, of priorities 23 and 24, and Birch's read decodes to DPA 0x150_0000_1040 in quad 18. -/
theorem test_decode_example :
    (sysRows region102 region102Base).map (·.priority) = [23, 24] ∧
      hpaMarker (0x0030805000001040 - 0x0030000000000000) = 2 ∧
      (decoded { txnA with offset := hpaOffset 0x805000001040 } (sysDatum 102 region102 region102Base)).dpa = 0x15000001040 ∧
      ({ live with link := { ports := [(9, { cfg := BitVec.ofNat 32 (18 * 2 ^ 22 + 2 ^ 19) })] } } : State).decodeQuad 9
        0x0030805000001040 = 18 := by decide +kernel

/-- "A classification chart": 48 banks from 16 in 12 groups, the select value from TENANT[3:0], and the top four values folded; TENANT 0x0A3D fires the banks of group 1, and a kind B rule of TENANT[3:2] = 11 goes to groups 0 to 3. -/
def chart7 : Word128 :=
  BitVec.ofNat 128 (2 ^ 127 + 16 * 2 ^ 115 + 48 * 2 ^ 107 + 12 * 2 ^ 102 + 4 * 2 ^ 98 + 112 * 2 ^ 26 + 113 * 2 ^ 35 + 114 * 2 ^ 44 + 115 * 2 ^ 53)
def chart7Map : Table Nat := (List.range 16).map fun v => (v, v % 12)

theorem test_chart_example :
    firedBanks chart7 chart7Map (BitVec.ofNat 512 (0x0A3D * 2 ^ 112)) = [20, 21, 22, 23] ∧
      State.groupsOf chart7 chart7Map (BitVec.ofNat 512 (0xC * 2 ^ 112)) (BitVec.ofNat 512 (0xC * 2 ^ 112)) = [0, 1, 2, 3] := by
  decide +kernel

/-- "Three tenants": guarantees of 26,200 leave 6,568 shared slots, and a ring of 2,048 counters has records of 16,448 B. -/
theorem test_tenants_example :
    ({ live with tenant := { ctx := [25000, 800, 400].zipIdx.map fun (g, i) => (i, BitVec.ofNat 128 (2 ^ 127 + g * 2 ^ 108)) } } : State).sharedPool =
      6568 ∧ drRecordBytes (BitVec.ofNat 128 (2048 * 2 ^ 55)) = 16448 := by decide +kernel

/-! ### Single steps -/

/-- What a command leaves of a state. -/
def left (i : Instr) (s : State) : State :=
  match exec i s with
  | .next t => t
  | _ => s

/-- R48: a request of a context that is not VALID faults with event 8104, and its read answers poisoned. -/
theorem test_stray_alias :
    (left (.rdS 0 (3 * 2 ^ 46) 7) hosted).ras.log.map (·.event) = [0x8104] ∧
      (left (.rdS 0 (3 * 2 ^ 46) 7) hosted).out.map (fun o => match o with | .s2m p tag _ poison _ _ _ => (p, tag, poison) | _ => (0, 0, false)) =
        [(0, 7, true)] := by decide +kernel

/-- R105: SPEC is dropped without a response. -/
theorem test_spec_dropped : (left (.spec 0 0 7) hosted).out = [] ∧ (left (.spec 0 0 7) hosted).tenant.txns = [] := by decide +kernel

/-- R139: bytes written through a port's window are in Chamber RAM, the first at the lowest address. -/
theorem test_window_write :
    (left (.chamberWindowAccess 127 8190 2 (some [0x11, 0x22])) { live with queue := { queues := [(4095, {
      cfg := BitVec.ofNat 128 (127 * 2 ^ 108), st := .active, dataBase := 4096, dataSize := 4096 })] } }).queue.chamber =
      [(8190, 0x11), (8191, 0x22)] := by decide +kernel

/-- R145: a store waits in its queue's buffer and reaches no home. -/
theorem test_store_buffers :
    ((left (.write 5 7) { live with queue := { queues := [(5, { st := .active, entries := [{ pos := 7, opcode := 2, length := 2, addr0 := 64, data := 0x2211 }] })] } }).queueAt
      5).stores = [⟨7, 64, 2, 0x2211, false⟩] := by decide +kernel

/-- R80: CACHE_ENABLE from CLEAN enables the cache and ends with result 0. -/
theorem test_cache_enable :
    (left (.cacheEnable me 3) later).cache.st = .enabled ∧
      (left (.cacheEnable me 3) later).mgmt.results.map (fun r => (r.opcode, r.ctag, r.code)) = [(0x2201, 3, 0)] := by decide +kernel

/-- R391: a read frame of STEPPING (object 1000:06) is answered with its one byte. -/
theorem test_frame_read :
    (left (.frameRead .i3c (frameHeader 1 0 1 9 0x1000 6 0 0)) later).out.map (fun o => match o with | .frame _ h d => (fhSeq h, d) | _ => (0, [])) =
      [(9, [0x42])] := by decide +kernel

/-- R382: a write outside a range answers INVALID_VALUE and changes nothing. -/
theorem test_range_refused :
    (left (.scrubEnable me 2) later).regs = later.regs ∧ (left (.scrubEnable me 0) later).reg 0x4200 2 = 0 := by decide +kernel

/-- R297: a second DEVICE-FATAL event leaves the latch of the first. -/
theorem test_first_fatal_latched :
    ((live.logEvent { code := 0xB002, cls := .deviceFatal }).logEvent { code := 0xB003, cls := .deviceFatal }).ras.fatalEvent = 0xB002 := by
  decide +kernel

/-- R448: PFAIL low for less than 200 ns is no power failure; for 200 ns it is. -/
theorem test_pfail_pulse :
    (left (.pfailNAssert 199 0) later).power.device = .running ∧ (left (.pfailNAssert 200 0) later).power.device = .pfDraining := by decide +kernel

/-- R409: the straps are sampled at the release of RESET_N. -/
theorem test_straps_latched :
    (left (.resetNRelease 0x1234 [] [] [] true) { power := { device := .starting } }).power.straps = 0x1234 := by decide +kernel

/-- R344: with every strap low the flight has one device, so flight links are DISABLED and reach links are DOWN. -/
theorem test_reset_links : (State.reset.linkAt 0).st = .disabled ∧ (State.reset.linkAt 62).st = .down ∧ (State.reset.linkAt 124).st = .disabled := by
  decide +kernel

/-! ### States that meet the hypotheses of the statements -/

/-- What `Obligations.HostRequestsEnter` assumes is met, clause by clause. -/
theorem witness_HostRequestsEnter :
    (∃ (s : State) (port : Nat) (hpa : Nat) (tag : Nat), s.awake ∧ port < 128 ∧ hpa < 2 ^ 64 ∧ s.isFatal = false ∧ s.portServes port hpa false = true ∧
      tag < 65536 ∧ s.quadTakes (.quad (s.decodeQuad port hpa)) port .rdS false = true) ∧
    (∃ (s : State) (port : Nat) (hpa : Nat) (tag : Nat), s.awake ∧ port < 128 ∧ hpa < 2 ^ 64 ∧ s.isFatal = false ∧ s.portServes port hpa false = true ∧
      tag < 65536 ∧ s.quadTakes (.quad (s.decodeQuad port hpa)) port .rdAny false = true) ∧
    (∃ (s : State) (port : Nat) (hpa : Nat) (tag : Nat), s.awake ∧ port < 128 ∧ hpa < 2 ^ 64 ∧ s.isFatal = false ∧ s.portServes port hpa false = true ∧
      tag < 65536 ∧ s.quadTakes (.quad (s.decodeQuad port hpa)) port .rdOwn false = true) ∧
    (∃ (s : State) (port : Nat) (hpa : Nat) (tag : Nat), s.awake ∧ port < 128 ∧ hpa < 2 ^ 64 ∧ s.isFatal = false ∧ s.portServes port hpa false = true ∧
      tag < 65536 ∧ s.quadTakes (.quad (s.decodeQuad port hpa)) port .upg false = true) ∧
    (∃ (s : State) (port : Nat) (hpa : Nat) (tag : Nat), s.awake ∧ port < 128 ∧ hpa < 2 ^ 64 ∧ s.isFatal = false ∧ s.portServes port hpa false = true ∧
      tag < 65536 ∧ s.quadTakes (.quad (s.decodeQuad port hpa)) port .rdNc false = true) ∧
    (∃ (s : State) (port : Nat) (hpa : Nat) (tag : Nat), s.awake ∧ port < 128 ∧ hpa < 2 ^ 64 ∧ s.isFatal = false ∧ s.portServes port hpa false = true ∧
      tag < 65536 ∧ s.quadTakes (.quad (s.decodeQuad port hpa)) port .invNc false = true) ∧
    (∃ (s : State) (port : Nat) (hpa : Nat) (tag : Nat), s.awake ∧ port < 128 ∧ hpa < 2 ^ 64 ∧ s.isFatal = false ∧ s.portServes port hpa false = true ∧
      tag < 65536 ∧ s.quadTakes (.quad (s.decodeQuad port hpa)) port .wrNc false = true) ∧
    (∃ (s : State) (port : Nat) (hpa : Nat) (tag : Nat), s.awake ∧ port < 128 ∧ hpa < 2 ^ 64 ∧ s.isFatal = false ∧ s.portServes port hpa false = true ∧
      tag < 65536 ∧ s.quadTakes (.quad (s.decodeQuad port hpa)) port .wbI false = true) ∧
    (∃ (s : State) (port : Nat) (hpa : Nat) (tag : Nat), s.awake ∧ port < 128 ∧ hpa < 2 ^ 64 ∧ s.isFatal = false ∧ s.portServes port hpa false = true ∧
      tag < 65536 ∧ s.quadTakes (.quad (s.decodeQuad port hpa)) port .wbS false = true) ∧
    (∃ (s : State) (port : Nat) (hpa : Nat) (tag : Nat), s.awake ∧ port < 128 ∧ hpa < 2 ^ 64 ∧ s.isFatal = false ∧ s.portServes port hpa false = true ∧
      tag < 65536 ∧ s.quadTakes (.quad (s.decodeQuad port hpa)) port .wbE false = true) ∧
    (∃ (s : State) (port : Nat) (hpa : Nat) (tag : Nat), s.awake ∧ port < 128 ∧ hpa < 2 ^ 64 ∧ s.isFatal = false ∧ s.portServes port hpa false = true ∧
      tag < 65536 ∧ s.quadTakes (.quad (s.decodeQuad port hpa)) port .clnEvict false = true) ∧
    (∃ (s : State) (port : Nat) (hpa : Nat) (tag : Nat), s.awake ∧ port < 128 ∧ hpa < 2 ^ 64 ∧ s.isFatal = false ∧ s.portServes port hpa false = true ∧
      tag < 65536 ∧ s.quadTakes (.quad (s.decodeQuad port hpa)) port .rdOwn false = false ∧ s.ingressRoom (.quad (s.decodeQuad port hpa)) port = true) ∧
    (∃ (s : State) (port : Nat) (hpa : Nat), s.awake ∧ port < 128 ∧ hpa < 2 ^ 64 ∧ s.isFatal = false ∧ s.portServes port hpa true = true ∧
      s.quadTakes (.quad (s.decodeQuad port hpa)) port .rdNc true = true) ∧
    (∃ (s : State) (port : Nat) (hpa : Nat), s.awake ∧ port < 128 ∧ hpa < 2 ^ 64 ∧ s.isFatal = false ∧ s.portServes port hpa true = true ∧
      s.quadTakes (.quad (s.decodeQuad port hpa)) port .wrNc true = true) ∧
    (∃ (s : State) (port : Nat) (hpa : Nat) (tag : Nat), s.awake ∧ port < 128 ∧ hpa < 2 ^ 64 ∧ s.isFatal = false ∧ s.portServes port hpa false = true ∧
      tag < 65536) ∧
    (∃ (s : State) (port : Nat) (hpa : Nat) (tag : Nat), s.awake ∧ port < 128 ∧ hpa < 2 ^ 64 ∧ s.isFatal = false ∧ s.portServes port hpa false = true ∧
      65536 ≤ tag) := by
  refine ⟨⟨hosted, 0, 2 ^ 52 - 1, 65535, ?_⟩,
    ⟨hosted, 0, 2 ^ 52 - 1, 65535, ?_⟩,
    ⟨hosted, 0, 2 ^ 52 - 1, 65535, ?_⟩,
    ⟨hosted, 0, 2 ^ 52 - 1, 65535, ?_⟩,
    ⟨hosted, 0, 2 ^ 52 - 1, 65535, ?_⟩,
    ⟨hosted, 0, 2 ^ 52 - 1, 65535, ?_⟩,
    ⟨hosted, 0, 2 ^ 52 - 1, 65535, ?_⟩,
    ⟨hosted, 0, 2 ^ 52 - 1, 65535, ?_⟩,
    ⟨hosted, 0, 2 ^ 52 - 1, 65535, ?_⟩,
    ⟨hosted, 0, 2 ^ 52 - 1, 65535, ?_⟩,
    ⟨hosted, 0, 2 ^ 52 - 1, 65535, ?_⟩,
    ⟨waitingHost, 0, 2 ^ 52 - 1, 65535, ?_⟩,
    ⟨hosted, 0, 2 ^ 52 - 1, ?_⟩,
    ⟨hosted, 0, 2 ^ 52 - 1, ?_⟩,
    ⟨hosted, 0, 2 ^ 52 - 1, 65535, ?_⟩,
    ⟨hosted, 0, 2 ^ 52 - 1, 65536, ?_⟩⟩ <;> decide +kernel

/-- What `Obligations.AdmissionSteps` assumes is met, clause by clause. -/
theorem witness_AdmissionSteps :
    (∃ (s : State) (u : LookUnit) (m : LaMiss), s.awake ∧ u.ok = true ∧ (s.look u).misses.find? (·.result.isSome) = some m) ∧
    (∃ (s : State) (q : Nat) (id : Nat) (rest : List Nat) (t : Txn), s.awake ∧ q < 128 ∧ (s.look (.quad q)).toRegulator = id :: rest ∧ s.txn id = some t ∧
      s.cycleFull = false ∧ (∀ w ∈ [State.occWord t.req.ctx, State.slotWord s.freeSlotNo], s.damageAt 369 w = 0 ∧ s.damageAt 369 (w + 20480) = 0) ∧
      s.regWaits t.req.ctx s.freeSlotNo = false) ∧
    (∃ (s : State) (t : Txn) (aged : Bool), s.awake ∧ s.cycleFull = false ∧
      (s.offerOrder.find? (fun p => s.slotFree p.1.cls 0 && !s.regWaits p.1.req.ctx s.freeSlotNo) = some (t, aged)) ∧
      (∀ w ∈ [State.occWord t.req.ctx, State.slotWord s.freeSlotNo], s.damageAt 369 w = 0 ∧ s.damageAt 369 (w + 20480) = 0)) ∧
    (∃ (s : State) (id : Nat) (t : Txn), s.awake ∧ s.txn id = some t ∧ t.deadline ≠ 0 ∧ t.deadline ≤ s.now ∧ t.missed = false ∧ t.req.answered = false) := by
  refine ⟨⟨{ live with tenant := { look := [(127, { misses := [⟨7, 0, 0, 0, 0, [], some 0⟩] })] } }, .quad 127, ⟨7, 0, 0, 0, 0, [], some 0⟩, ?_⟩,
    ⟨{ live with tenant := { look := [(127, { toRegulator := [9, 8] })], txns := [txnA] } }, 127, 9, [8], txnA, ?_⟩,
    ⟨{ later with tenant := { waiting := [9], txns := [txnA] } }, txnA, true, ?_⟩,
    ⟨{ later with tenant := { txns := [{ txnA with deadline := 10 ^ 10 }] } }, 9, { txnA with deadline := 10 ^ 10 }, ?_⟩⟩ <;> decide +kernel

/-- What `Obligations.SliceSteps` assumes is met, clause by clause. -/
theorem witness_SliceSteps :
    (∃ (s : State) (k : Nat) (dpa : Nat) (id : Nat) (m : MissReg), s.awake ∧ k < 64 ∧ dpa < 2 ^ 45 ∧ (s.slice k).missRegs.find? (·.id == id) = some m) ∧
    (∃ (s : State) (k : Nat) (dpa : Nat) (r : Req) (rest : List Req), s.awake ∧ k < 64 ∧ dpa < 2 ^ 45 ∧ (s.slice k).missWait = r :: rest ∧
      s.mergeable k r.dpa = none ∧ (s.slice k).missRegs.length < 64) ∧
    (∃ (s : State) (k : Nat) (dpa : Nat) (id : Nat) (m : MissReg), s.awake ∧ k < 64 ∧ dpa < 2 ^ 45 ∧
      ((s.slice k).missRegs.find? (fun m => m.id == id && m.stage == .waitWriteBuffer) = some m) ∧ s.wbHolds k m.dpa = false ∧ s.cacheOn = false) ∧
    (∃ (s : State) (k : Nat) (dpa : Nat) (region : Nat) (svc : Nat), s.awake ∧ k < 64 ∧ dpa < 2 ^ 45 ∧ region < 32768 ∧ svc < 8 ∧
      s.cache.handoffs.contains (dpa, region, svc) = true) ∧
    (∃ (s : State) (k : Nat) (dpa : Nat) (t : Tracker), s.awake ∧ k < 64 ∧ dpa < 2 ^ 45 ∧ s.wbRoom k = true ∧
      ((s.slice k).trackers.find? (fun t => t.stage == .writeBuffer) = some t)) ∧
    (∃ (s : State) (k : Nat) (dpa : Nat) (e : MergeEntry), s.awake ∧ k < 64 ∧ dpa < 2 ^ 45 ∧ e ∈ (s.slice k).mergeBuf ∧ e.dpa = sectorOf dpa ∧
      e.closed = false ∧ s.mergeExpired e = true) ∧
    (∃ (s : State) (k : Nat) (dpa : Nat) (e : WbEntry), s.awake ∧ k < 64 ∧ dpa < 2 ^ 45 ∧ s.writeInFlight dpa = false ∧ s.waitingFull k dpa = some e ∧
      s.mergeOf k dpa = none) := by
  refine ⟨⟨{ live with slices := [(63, { missRegs := [missA] })] }, 63, 2 ^ 45 - 1, 5, missA, ?_⟩,
    ⟨{ live with slices := [(63, { missWait := [reqA] })] }, 63, 2 ^ 45 - 1, reqA, [], ?_⟩,
    ⟨{ live with slices := [(63, { missRegs := [{ missA with stage := .waitWriteBuffer }] })] }, 63, 2 ^ 45 - 1, 5, { missA with stage := .waitWriteBuffer }, ?_⟩,
    ⟨{ live with cache := { handoffs := [(2 ^ 45 - 1, 32767, 7)] } }, 63, 2 ^ 45 - 1, 32767, 7, ?_⟩,
    ⟨{ live with slices := [(63, { trackers := [{ req := reqA, stage := .writeBuffer }] })] }, 63, 2 ^ 45 - 1, { req := reqA, stage := .writeBuffer }, ?_⟩,
    ⟨{ live with slices := [(63, { mergeBuf := [{ dpa := 2 ^ 45 - 64 }] })], now := 10 ^ 9 }, 63, 2 ^ 45 - 1, { dpa := 2 ^ 45 - 64 }, ?_⟩,
    ⟨{ live with slices := [(63, { writeBuf := [fullWb] })] }, 63, 2 ^ 45 - 1, fullWb, ?_⟩⟩ <;> decide +kernel

/-- What `Obligations.PoolSteps` assumes is met, clause by clause. -/
theorem witness_PoolSteps :
    (∃ (s : State) (id : Nat) (o : PoolOp), s.awake ∧ s.opAt id = some o ∧ o.write = true ∧ o.rk = false ∧ o.stage = .toPound) ∧
    (∃ (s : State) (id : Nat) (o : PoolOp), s.awake ∧ s.opAt id = some o ∧ o.write = true ∧ o.stage = .out ∧ s.metaWaits (.op id) = false) ∧
    (∃ (s : State) (id : Nat) (o : PoolOp), s.awake ∧ s.opAt id = some o ∧ o.write = false ∧ o.stage = .out ∧ s.metaWaits (.op id) = false) ∧
    (∃ (s : State) (id : Nat) (o : PoolOp), s.awake ∧ s.opAt id = some o ∧ s.sentAt id + s.reg 0x5100 1 * 1000 ≤ s.now ∧ o.stage = .out ∧ o.answer = none ∧
      o.write = true) ∧
    (∃ (s : State) (id : Nat) (o : PoolOp), s.awake ∧ s.opAt id = some o ∧ s.sentAt id + s.reg 0x5100 1 * 1000 ≤ s.now ∧ o.stage = .out ∧ o.answer = none ∧
      o.write = false) ∧
    (∃ (s : State) (id : Nat) (o : PoolOp) (j : PageJob) (answers : List PoolAnswer), s.awake ∧ s.opAt id = some o ∧ answers.length = 64 ∧
      (s.prot.pages.find? (fun j => j.id == id && j.started) = some j) ∧ s.metaWaits (.page id) = false) := by
  refine ⟨⟨{ later with prot := { ops := [{ id := 5, write := true }] } }, 5, { id := 5, write := true }, ?_⟩,
    ⟨{ later with prot := { ops := [{ id := 5, write := true, stage := .out }] } }, 5, { id := 5, write := true, stage := .out }, ?_⟩,
    ⟨{ later with prot := { ops := [{ id := 5, stage := .out }] } }, 5, { id := 5, stage := .out }, ?_⟩,
    ⟨{ later with prot := { ops := [{ id := 5, write := true, stage := .out }] } }, 5, { id := 5, write := true, stage := .out }, ?_⟩,
    ⟨{ later with prot := { ops := [{ id := 5, stage := .out }] } }, 5, { id := 5, stage := .out }, ?_⟩,
    ⟨{ live with prot := { ops := [{ id := 5 }], pages := [{ id := 5, started := true }] } }, 5, { id := 5 }, { id := 5, started := true }, List.replicate 64 ⟨.poisoned, 0, 0⟩, ?_⟩⟩ <;> decide +kernel

/-- What `Obligations.CachePasses` assumes is met, clause by clause. -/
theorem witness_CachePasses :
    (∃ (s : State), s.awake ∧ s.cache.st = .draining ∧ s.cache.pendingInvalidate = false ∧ s.cache.deferredEnable = false ∧
      (((s.slices.map fun (p : Nat × Slice) => p.2.writeBuf.map (·.id)).flatten.any fun i => s.cache.drainIds.contains i) = false) ∧
      ((s.slices.any fun (p : Nat × Slice) => p.2.missRegs.any fun m => m.way.isSome) = false)) ∧
    (∃ (s : State), s.awake ∧ s.cache.st = .invalidating) ∧
    (∃ (s : State) (t : Nat), s.awake ∧ (s.cache.st = .clean ∨ s.cache.st = .stale) ∧ s.cache.invalidate = some t) ∧
    (∃ (s : State) (t : Nat) (w : Nat), s.awake ∧ s.cache.mooring = some (t, w) ∧ s.cache.zeroing = false ∧
      ((s.cache.tags.any fun t => (State.changingWays s.cache.moored w).contains (t.1 % 16) && t.2.sf != 0) = false)) ∧
    (∃ (s : State) (t : Nat) (w : Nat), s.awake ∧ s.cache.mooring = some (t, w) ∧ s.cache.zeroing = true) ∧
    (∃ (s : State) (t : Nat) (k : Nat) (w : Nat), s.awake ∧ s.cache.mooring = none ∧ s.cache.undrydock = some (t, k, w)) ∧
    (∃ (s : State), s.awake ∧ s.leakDue 15 (s.reg 0x2230 2) = true) := by
  refine ⟨⟨{ later with cache := { st := .draining } }, ?_⟩,
    ⟨{ later with cache := { st := .invalidating } }, ?_⟩,
    ⟨{ later with cache := { st := .clean, invalidate := some 1 } }, 1, ?_⟩,
    ⟨{ later with cache := { mooring := some (1, 14) } }, 1, 14, ?_⟩,
    ⟨{ later with cache := { mooring := some (1, 14), zeroing := true } }, 1, 14, ?_⟩,
    ⟨{ later with cache := { undrydock := some (1, 63, 15) } }, 1, 63, 15, ?_⟩,
    ⟨later, ?_⟩⟩ <;> decide +kernel

/-- What `Obligations.CacheCommandsByState` assumes is met, clause by clause. -/
theorem witness_CacheCommandsByState :
    (∃ (s : State) (c : Client) (g : Nat), cmdOk c g = true ∧ s.takes c 0x2201 [] = true ∧ s.cache.st = .enabled) ∧
    (∃ (s : State) (c : Client) (g : Nat), cmdOk c g = true ∧ s.takes c 0x2201 [] = true ∧ (s.cache.st = .draining ∨ s.cache.st = .invalidating) ∧
      s.cache.deferredEnable = false) ∧
    (∃ (s : State) (c : Client) (g : Nat), cmdOk c g = true ∧ s.takes c 0x2201 [] = true ∧ (s.cache.st = .draining ∨ s.cache.st = .invalidating) ∧
      s.cache.deferredEnable = true) ∧
    (∃ (s : State) (c : Client) (g : Nat), cmdOk c g = true ∧ s.takes c 0x2201 [] = true ∧ s.cache.st = .stale) ∧
    (∃ (s : State) (c : Client) (g : Nat), cmdOk c g = true ∧ s.takes c 0x2201 [] = true ∧ s.cache.st = .clean) ∧
    (∃ (s : State) (c : Client) (g : Nat), cmdOk c g = true ∧ s.takes c 0x2202 [] = true ∧ s.cache.st = .enabled) ∧
    (∃ (s : State) (c : Client) (g : Nat), cmdOk c g = true ∧ s.takes c 0x2202 [] = true ∧ (s.cache.st = .draining ∨ s.cache.st = .invalidating)) ∧
    (∃ (s : State) (c : Client) (g : Nat), cmdOk c g = true ∧ s.takes c 0x2202 [] = true ∧ (s.cache.st = .stale ∨ s.cache.st = .clean)) ∧
    (∃ (s : State) (c : Client) (g : Nat), cmdOk c g = true ∧ s.takes c 0x2203 [] = true ∧ s.cache.st = .enabled) ∧
    (∃ (s : State) (c : Client) (g : Nat), cmdOk c g = true ∧ s.takes c 0x2203 [] = true ∧ s.cache.st = .draining) ∧
    (∃ (s : State) (c : Client) (g : Nat), cmdOk c g = true ∧ s.takes c 0x2203 [] = true ∧ s.cache.st = .invalidating) ∧
    (∃ (s : State) (c : Client) (g : Nat), cmdOk c g = true ∧ s.takes c 0x2203 [] = true ∧ (s.cache.st = .stale ∨ s.cache.st = .clean)) ∧
    (∃ (s : State) (c : Client) (g : Nat) (w : Nat) (k : Nat), cmdOk c g = true ∧ w < 256 ∧ k < 64 ∧ s.takes c 0x2204 (leBytes w 1) = true ∧ w ≤ 14 ∧
      w ≠ s.cache.moored ∧ s.cache.st ≠ .draining ∧ s.cache.st ≠ .invalidating ∧
      (s.cache.moored < w → ((List.range 64).any fun k => ((State.changingWays s.cache.moored w).any fun x => s.wayMode k x == .drydocked) || decide (((List.range (16 - w)).filter fun x => s.wayMode k x == .cache).length < 2)) = false) ∧
      (w < s.cache.moored → s.mooredInUse w = false)) ∧
    (∃ (s : State) (c : Client) (g : Nat) (w : Nat) (k : Nat), cmdOk c g = true ∧ w < 256 ∧ k < 64 ∧ s.takes c 0x2205 (leBytes k 1 ++ leBytes w 1) = true ∧
      w < 16 ∧ s.wayMode k w = .drydocked ∧ s.cache.st ≠ .draining ∧ s.cache.st ≠ .invalidating) := by
  refine ⟨⟨{ later with cache := { st := .enabled } }, me, 2 ^ 16 - 1, ?_⟩,
    ⟨{ later with cache := { st := .draining } }, me, 2 ^ 16 - 1, ?_⟩,
    ⟨{ later with cache := { st := .draining, deferredEnable := true } }, me, 2 ^ 16 - 1, ?_⟩,
    ⟨{ later with cache := { st := .stale } }, me, 2 ^ 16 - 1, ?_⟩,
    ⟨{ later with cache := { st := .clean } }, me, 2 ^ 16 - 1, ?_⟩,
    ⟨{ later with cache := { st := .enabled } }, me, 2 ^ 16 - 1, ?_⟩,
    ⟨{ later with cache := { st := .invalidating } }, me, 2 ^ 16 - 1, ?_⟩,
    ⟨{ later with cache := { st := .stale } }, me, 2 ^ 16 - 1, ?_⟩,
    ⟨{ later with cache := { st := .enabled } }, me, 2 ^ 16 - 1, ?_⟩,
    ⟨{ later with cache := { st := .draining } }, me, 2 ^ 16 - 1, ?_⟩,
    ⟨{ later with cache := { st := .invalidating } }, me, 2 ^ 16 - 1, ?_⟩,
    ⟨{ later with cache := { st := .clean } }, me, 2 ^ 16 - 1, ?_⟩,
    ⟨{ later with cache := { st := .clean } }, me, 2 ^ 16 - 1, 14, 63, ?_⟩,
    ⟨{ later with cache := { st := .clean, modes := [(63 * 16 + 15, .drydocked)] } }, me, 2 ^ 16 - 1, 15, 63, ?_⟩⟩ <;> decide +kernel

/-- What `Obligations.RegionCommands` assumes is met, clause by clause. -/
theorem witness_RegionCommands :
    (∃ (s : State) (c : Client) (g : Nat) (r : Nat), cmdOk c g = true ∧ r < 32768 ∧ s.takes c 0x2001 (leBytes r 2) = true ∧ (s.region r).lost = false ∧
      (s.region r).st ≠ .active ∧ rdValid (s.stagedRegion r).1 = true ∧ s.regionCheck r (s.stagedRegion r).1 (s.stagedRegion r).2 = none) ∧
    (∃ (s : State) (c : Client) (g : Nat) (r : Nat), cmdOk c g = true ∧ r < 32768 ∧ s.takes c 0x2002 (leBytes r 2) = true ∧ (s.region r).st = .active ∧
      s.retiredCount < 32768) ∧
    (∃ (s : State) (c : Client) (g : Nat) (r : Nat), cmdOk c g = true ∧ r < 32768 ∧ s.takes c 0x2003 (leBytes r 2) = true ∧ (s.region r).lost = false ∧
      (s.region r).st = .active) ∧
    (∃ (s : State) (c : Client) (g : Nat) (r : Nat), cmdOk c g = true ∧ r < 32768 ∧ s.takes c 0x2004 (leBytes r 2) = true ∧ (s.region r).lost = false ∧
      (s.region r).st = .active) := by
  refine ⟨⟨{ later with cache := { st := .clean, moored := 1 }, tenant := { regions := [(32767, { staged1 := rdOf, staged0 := rdOf0, st := .staged })] } }, me, 2 ^ 16 - 1, 32767, ?_⟩,
    ⟨{ later with cache := { st := .clean, moored := 1 }, tenant := { regions := [(32767, { st := .active })] } }, me, 2 ^ 16 - 1, 32767, ?_⟩,
    ⟨{ later with cache := { st := .clean, moored := 1 }, tenant := { regions := [(32767, { st := .active })] } }, me, 2 ^ 16 - 1, 32767, ?_⟩,
    ⟨{ later with cache := { st := .clean, moored := 1 }, tenant := { regions := [(32767, { st := .active })] } }, me, 2 ^ 16 - 1, 32767, ?_⟩⟩ <;> decide +kernel

/-- What `Obligations.ChartCommands` assumes is met, clause by clause. -/
theorem witness_ChartCommands :
    (∃ (s : State) (c : Client) (g : Nat) (n : Nat), cmdOk c g = true ∧ n < 256 ∧ s.takes c 0x3001 (leBytes n 1) = true ∧ n ≠ 0 ∧ s.chartBusy n = false ∧
      s.chartEmpty n = true ∧ cdValid (s.chart n).openStage.staged1 = true ∧
      s.descriptorCheck (s.chart n).openStage.staged1 (s.chart n).openStage.staged0 (s.chart n).openStage.stagedGmap = none ∧
      cdSpan (s.chart n).openStage.staged1 = 0 ∧ cdValid (s.chart n).desc1 = false) ∧
    (∃ (s : State) (c : Client) (g : Nat) (n : Nat), cmdOk c g = true ∧ n < 256 ∧ s.takes c 0x3002 (leBytes n 1) = true ∧ n ≠ 0 ∧ s.chartBusy n = false ∧
      (cdValid (s.chart n).desc1 = false ∨ cdSpan (s.chart n).desc1 = 0)) ∧
    (∃ (s : State) (c : Client) (g : Nat) (n : Nat) (w1 : Word128) (places : List (Nat × List Nat)), cmdOk c g = true ∧ n < 256 ∧
      s.takes c 0x3003 (leBytes n 1) = true ∧ n ≠ 0 ∧ s.chartBusy n = false ∧ (s.chart n).openStage.staged1 = w1 ∧ (s.chart n).st = .valid ∧
      State.moveBits w1 = State.moveBits (s.chart n).desc1 ∧ setFld (s.chart n).openStage.staged0 44 12 0 = setFld (s.chart n).desc0 44 12 0 ∧
      (s.chart n).openStage.stagedDmap = (s.chart n).dmap ∧ s.descriptorCheck w1 (s.chart n).openStage.staged0 (s.chart n).openStage.stagedGmap = none ∧
      (((List.range (cdBankCount w1)).map (cdBankFirst w1 + ·)).any ((List.range (cdBankCount (s.chart n).desc1)).map (cdBankFirst (s.chart n).desc1 + ·)).contains) = false ∧
      (s.placeAll w1 (s.chart n).openStage.stagedGmap (s.search.entries.filter fun (p : Nat × EntryRec) => p.2.chart == n && !p.2.rows.isEmpty) s.usedRows = some places)) ∧
    (∃ (s : State) (c : Client) (g : Nat) (n : Nat) (d : Nat), cmdOk c g = true ∧ n < 256 ∧ d < 1024 ∧ s.takes c 0x3004 (leBytes n 2 ++ leBytes d 2) = true ∧
      s.chartBusy n = false ∧ (s.chart n).st = .valid ∧ cdSpan (s.chart n).desc1 ≠ 0 ∧ s.spanReady = true ∧ s.goodMember d = true ∧
      (cdSpan (s.chart n).desc1 = 2 → d / 32 = s.flight)) ∧
    (∃ (s : State) (c : Client) (g : Nat) (n : Nat) (d : Nat), cmdOk c g = true ∧ n < 256 ∧ d < 1024 ∧ s.takes c 0x3005 (leBytes n 2 ++ leBytes d 2) = true ∧
      s.chartBusy n = false ∧ (s.chart n).st = .valid ∧ cdSpan (s.chart n).desc1 ≠ 0 ∧ s.spanReady = true ∧ d ≠ s.deviceNumber ∧ s.goodMember d = true ∧
      (s.chart n).members.contains d = true ∧ (State.usedDevices (s.chart n).desc1 (s.chart n).dmap).contains d = false) ∧
    (∃ (s : State) (c : Client) (g : Nat) (n : Nat) (b : List Byte), cmdOk c g = true ∧ n < 256 ∧ s.takes c 0x3101 (leBytes n 16 ++ b) = true) := by
  refine ⟨⟨{ later with search := { charts := [(255, { staged1 := cdOf, hasStaged := true, st := .staged })] } }, me, 2 ^ 16 - 1, 255, ?_⟩,
    ⟨later, me, 2 ^ 16 - 1, 255, ?_⟩,
    ⟨{ later with search := { charts := [(255, { staged1 := cdOf + 2 ^ 115, hasStaged := true, desc1 := cdOf, st := .valid })] } }, me, 2 ^ 16 - 1, 255, cdOf + 2 ^ 115, [], ?_⟩,
    ⟨{ member with search := { charts := [(255, { desc1 := cdOf + 2 * 2 ^ 122, st := .valid })] } }, me, 2 ^ 16 - 1, 255, 5, ?_⟩,
    ⟨{ member with search := { charts := [(255, { desc1 := cdOf + 2 * 2 ^ 122, st := .valid, members := [3, 5] })] } }, me, 2 ^ 16 - 1, 255, 5, ?_⟩,
    ⟨later, me, 2 ^ 16 - 1, 255, List.replicate 32 0, ?_⟩⟩ <;> decide +kernel

/-- What `Obligations.ProtectionCommands` assumes is met, clause by clause. -/
theorem witness_ProtectionCommands :
    (∃ (s : State) (c : Client) (g : Nat) (r : Nat) (k : Nat), cmdOk c g = true ∧ r < 4096 ∧ k < 4096 ∧ s.takes c 0x4001 (leBytes r 2) = true ∧
      s.protInitCheck r = 0) ∧
    (∃ (s : State) (c : Client) (g : Nat) (r : Nat) (k : Nat), cmdOk c g = true ∧ r < 4096 ∧ k < 4096 ∧ s.takes c 0x4002 (leBytes r 2) = true ∧
      (s.protRegion r).st = .empty) ∧
    (∃ (s : State) (c : Client) (g : Nat) (r : Nat) (k : Nat), cmdOk c g = true ∧ r < 4096 ∧ k < 4096 ∧ s.takes c 0x4002 (leBytes r 2) = true ∧
      (s.protRegion r).st = .staged) ∧
    (∃ (s : State) (c : Client) (g : Nat) (r : Nat) (k : Nat), cmdOk c g = true ∧ r < 4096 ∧ k < 4096 ∧ s.takes c 0x4002 (leBytes r 2) = true ∧
      (s.protRegion r).st = .active ∧ s.prot.st = .enabled ∧ (s.protRegion r).reknitting = false ∧ s.rootBound r = false ∧
      s.retiredOver (pdBase (s.protRegion r).desc1) (pdSize (s.protRegion r).desc1) = false) ∧
    (∃ (s : State) (c : Client) (g : Nat) (r : Nat) (k : Nat), cmdOk c g = true ∧ r < 4096 ∧ k < 4096 ∧
      s.takes c 0x4003 (leBytes r 2 ++ leBytes k 2) = true ∧ (s.protRegion r).st = .active ∧ s.prot.reknitRoot = none ∧ (s.keySlot k).st = .fresh) ∧
    (∃ (s : State) (c : Client) (g : Nat) (r : Nat) (k : Nat), cmdOk c g = true ∧ r < 4096 ∧ k < 4096 ∧ s.takes c 0x4004 [] = true ∧ s.prot.st = .enabled) ∧
    (∃ (s : State) (c : Client) (g : Nat) (r : Nat) (k : Nat), cmdOk c g = true ∧ r < 4096 ∧ k < 4096 ∧ s.takes c 0x4004 [] = true ∧ s.prot.st = .flushing ∧
      s.prot.deferredEnable = false) ∧
    (∃ (s : State) (c : Client) (g : Nat) (r : Nat) (k : Nat), cmdOk c g = true ∧ r < 4096 ∧ k < 4096 ∧ s.takes c 0x4004 [] = true ∧ s.prot.st = .flushing ∧
      s.prot.deferredEnable = true) ∧
    (∃ (s : State) (c : Client) (g : Nat) (r : Nat) (k : Nat), cmdOk c g = true ∧ r < 4096 ∧ k < 4096 ∧ s.takes c 0x4004 [] = true ∧ s.prot.st = .disabled) ∧
    (∃ (s : State) (c : Client) (g : Nat) (r : Nat) (k : Nat), cmdOk c g = true ∧ r < 4096 ∧ k < 4096 ∧ s.takes c 0x4005 [] = true ∧ s.prot.st = .enabled ∧
      ((s.tenant.regions.any fun (g : Nat × Region) => g.2.st == .active && rdProtect g.2.desc1) = false) ∧ s.prot.reknitRoot = none) ∧
    (∃ (s : State) (c : Client) (g : Nat) (r : Nat) (k : Nat), cmdOk c g = true ∧ r < 4096 ∧ k < 4096 ∧ s.takes c 0x4005 [] = true ∧ s.prot.st = .flushing) ∧
    (∃ (s : State) (c : Client) (g : Nat) (r : Nat) (k : Nat), cmdOk c g = true ∧ r < 4096 ∧ k < 4096 ∧ s.takes c 0x4005 [] = true ∧ s.prot.st = .disabled) ∧
    (∃ (s : State) (c : Client) (g : Nat) (r : Nat) (k : Nat) (key : List Byte) (p : Nat × Nat), cmdOk c g = true ∧ r < 4096 ∧ k < 4096 ∧ key.length = 97 ∧
      s.takes c 0x4006 key = true ∧ parsePoint key = some p) ∧
    (∃ (s : State) (c : Client) (g : Nat) (r : Nat) (k : Nat) (key : List Byte), cmdOk c g = true ∧ r < 4096 ∧ k < 4096 ∧ key.length = 97 ∧
      s.takes c 0x4006 key = true ∧ parsePoint key = none) ∧
    (∃ (s : State) (c : Client) (g : Nat) (r : Nat) (k : Nat), cmdOk c g = true ∧ r < 4096 ∧ k < 4096 ∧ s.takes c 0x4007 [] = true) ∧
    (∃ (s : State) (c : Client) (g : Nat) (r : Nat) (k : Nat) (wrapped : List Byte), cmdOk c g = true ∧ r < 4096 ∧ k < 4096 ∧ wrapped.length = 40 ∧
      s.takes c 0x4008 (leBytes k 2 ++ wrapped) = true ∧ (s.keySlot k).st ≠ .empty) ∧
    (∃ (s : State) (c : Client) (g : Nat) (r : Nat) (k : Nat) (wrapped : List Byte), cmdOk c g = true ∧ r < 4096 ∧ k < 4096 ∧ wrapped.length = 40 ∧
      s.takes c 0x4008 (leBytes k 2 ++ wrapped) = true ∧ (s.keySlot k).st = .empty ∧ s.prot.kek = none) ∧
    (∃ (s : State) (c : Client) (g : Nat) (r : Nat) (k : Nat) (wrapped : List Byte) (kek : BitVec 256), cmdOk c g = true ∧ r < 4096 ∧ k < 4096 ∧
      wrapped.length = 40 ∧ s.takes c 0x4008 (leBytes k 2 ++ wrapped) = true ∧ (s.keySlot k).st = .empty ∧ s.prot.kek = some kek ∧
      keyUnwrap kek wrapped = none) ∧
    (∃ (s : State) (c : Client) (g : Nat) (r : Nat) (k : Nat) (wrapped : List Byte) (kek : BitVec 256) (key : BitVec 256), cmdOk c g = true ∧ r < 4096 ∧
      k < 4096 ∧ wrapped.length = 40 ∧ s.takes c 0x4008 (leBytes k 2 ++ wrapped) = true ∧ (s.keySlot k).st = .empty ∧ s.prot.kek = some kek ∧
      keyUnwrap kek wrapped = some key) ∧
    (∃ (s : State) (c : Client) (g : Nat) (r : Nat) (k : Nat), cmdOk c g = true ∧ r < 4096 ∧ k < 4096 ∧ s.takes c 0x4009 (leBytes k 2) = true ∧
      (s.keySlot k).st = .bound) ∧
    (∃ (s : State) (c : Client) (g : Nat) (r : Nat) (k : Nat), cmdOk c g = true ∧ r < 4096 ∧ k < 4096 ∧ s.takes c 0x4009 (leBytes k 2) = true ∧
      (s.keySlot k).st ≠ .bound) := by
  refine ⟨⟨{ later with prot := { regions := [(4095, { staged1 := pdOf, staged0 := pdMetaOf, st := .staged })], st := .enabled, slots := [(0, { st := .fresh })] }, link := { targets := [(0, ptOf)] } }, me, 2 ^ 16 - 1, 4095, 4095, ?_⟩,
    ⟨{ later with prot := {  } }, me, 2 ^ 16 - 1, 4095, 4095, ?_⟩,
    ⟨{ later with prot := { regions := [(4095, { st := .staged })] } }, me, 2 ^ 16 - 1, 4095, 4095, ?_⟩,
    ⟨{ later with prot := { regions := [(4095, { st := .active })], st := .enabled } }, me, 2 ^ 16 - 1, 4095, 4095, ?_⟩,
    ⟨{ later with prot := { regions := [(4095, { st := .active })], slots := [(4095, { st := .fresh })] } }, me, 2 ^ 16 - 1, 4095, 4095, ?_⟩,
    ⟨{ later with prot := { st := .enabled } }, me, 2 ^ 16 - 1, 4095, 4095, ?_⟩,
    ⟨{ later with prot := { st := .flushing } }, me, 2 ^ 16 - 1, 4095, 4095, ?_⟩,
    ⟨{ later with prot := { st := .flushing, deferredEnable := true } }, me, 2 ^ 16 - 1, 4095, 4095, ?_⟩,
    ⟨{ later with prot := {  } }, me, 2 ^ 16 - 1, 4095, 4095, ?_⟩,
    ⟨{ later with prot := { st := .enabled } }, me, 2 ^ 16 - 1, 4095, 4095, ?_⟩,
    ⟨{ later with prot := { st := .flushing } }, me, 2 ^ 16 - 1, 4095, 4095, ?_⟩,
    ⟨{ later with prot := {  } }, me, 2 ^ 16 - 1, 4095, 4095, ?_⟩,
    ⟨{ later with prot := {  } }, me, 2 ^ 16 - 1, 4095, 4095, generator, generatorPoint, ?_⟩,
    ⟨{ later with prot := {  } }, me, 2 ^ 16 - 1, 4095, 4095, List.replicate 97 0, ?_⟩,
    ⟨{ later with prot := {  } }, me, 2 ^ 16 - 1, 4095, 4095, ?_⟩,
    ⟨{ later with prot := { slots := [(4095, { st := .retired })] } }, me, 2 ^ 16 - 1, 4095, 4095, List.replicate 40 0, ?_⟩,
    ⟨{ later with prot := {  } }, me, 2 ^ 16 - 1, 4095, 4095, List.replicate 40 0, ?_⟩,
    ⟨{ later with prot := { kek := some 0 } }, me, 2 ^ 16 - 1, 4095, 4095, List.replicate 40 0, 0, ?_⟩,
    ⟨{ later with prot := { kek := some kekOf } }, me, 2 ^ 16 - 1, 4095, 4095, wrappedOf, kekOf, keyOf, ?_⟩,
    ⟨{ later with prot := { slots := [(4095, { st := .bound })] } }, me, 2 ^ 16 - 1, 4095, 4095, ?_⟩,
    ⟨{ later with prot := {  } }, me, 2 ^ 16 - 1, 4095, 4095, ?_⟩⟩ <;> decide +kernel

/-- What `Obligations.ManagementCommands` assumes is met, clause by clause. -/
theorem witness_ManagementCommands :
    (∃ (s : State) (c : Client) (g : Nat), cmdOk c g = true ∧ s.takes c 0x1001 [] = true) ∧
    (∃ (s : State) (c : Client) (g : Nat) (index : Nat) (sub : Nat) (v : BitVec 64), cmdOk c g = true ∧ index < 2 ^ 16 ∧ sub < 2 ^ 8 ∧
      s.takes c 0x1201 (leBytes index 2 ++ leBytes sub 2 ++ leBytes v.toNat 8) = true ∧ s.canal.pending = none ∧ sharedObjects.contains (index, sub) = true ∧
      (∃ d, objDef index sub = some d ∧ d.lo ≤ v.toNat ∧ v.toNat ≤ d.hi)) ∧
    (∃ (s : State) (c : Client) (g : Nat), cmdOk c g = true ∧ s.takes c 0x1202 [] = true ∧ s.canal.pending = none) ∧
    (∃ (s : State) (c : Client) (g : Nat), cmdOk c g = true ∧ s.takes c 0x1203 [] = true ∧ s.canal.pending = none) ∧
    (∃ (s : State) (c : Client) (g : Nat) (l : Nat), cmdOk c g = true ∧ l < 128 ∧ s.takes c 0x5201 (leBytes l 1) = true) ∧
    (∃ (s : State) (c : Client) (g : Nat), cmdOk c g = true ∧ s.takes c 0x6002 [] = true ∧ s.power.windowOpen = true) ∧
    (∃ (s : State) (c : Client) (g : Nat), cmdOk c g = true ∧ s.takes c 0x6002 [] = true ∧ s.power.windowOpen = false) ∧
    (∃ (s : State) (c : Client) (g : Nat), cmdOk c g = true ∧ s.takes c 0x6001 [] = true) := by
  refine ⟨⟨later, me, 2 ^ 16 - 1, ?_⟩,
    ⟨member, me, 2 ^ 16 - 1, 0x5201, 3, 64, ?_⟩,
    ⟨later, me, 2 ^ 16 - 1, ?_⟩,
    ⟨later, me, 2 ^ 16 - 1, ?_⟩,
    ⟨later, me, 2 ^ 16 - 1, 127, ?_⟩,
    ⟨window, me, 2 ^ 16 - 1, ?_⟩,
    ⟨later, me, 2 ^ 16 - 1, ?_⟩,
    ⟨later, me, 2 ^ 16 - 1, ?_⟩⟩
  · decide +kernel
  · exact ⟨by decide +kernel, by decide, by decide, by decide +kernel, by decide +kernel, by decide +kernel, _, rfl, by decide, by decide⟩
  · decide +kernel
  · decide +kernel
  · decide +kernel
  · decide +kernel
  · decide +kernel
  · decide +kernel

/-- What `Obligations.CommandEntry` assumes is met, clause by clause. -/
theorem witness_CommandEntry :
    (∃ (s : State) (c : Client) (record : List Byte), s.awake ∧ c.ok = true ∧ 16 ≤ record.length ∧ record.length ≤ 1024 ∧
      record.length ≤ frameLimit c.transport ∧ s.mayWrite c 0x1F00 1 none = true) ∧
    (∃ (s : State) (c : Cmd), s.awake ∧ s.mgmt.cmds.find? s.mayStart = some c ∧ (s.power.windowOpen = true → runsInWindow c.opcode = true)) := by
  refine ⟨⟨later, me, List.replicate 16 0, ?_⟩,
    ⟨{ later with mgmt := { cmds := [cmdA] } }, cmdA, ?_⟩⟩ <;> decide +kernel

/-- What `Obligations.TenancyWrites` assumes is met, clause by clause. -/
theorem witness_TenancyWrites :
    (∃ (s : State) (c : Client) (n : Nat) (w : Word128), c.ok = true ∧ n < 16384 ∧ s.mayWrite c 0x2000 2 (some (0x2000, n)) = true ∧
      ctxBudget (ctxNormal n w) ≤ 32768 ∧ (ctxValid (ctxNormal n w) = true → ctxGuarantee (ctxNormal n w) ≤ ctxBudget (ctxNormal n w)) ∧
      ((s.touchClient c).tenant.ctx.foldl (fun m (p : Nat × Word128) => if p.1 != n && ctxValid p.2 then m + ctxGuarantee p.2 else m) 0 + (if ctxValid (ctxNormal n w) then ctxGuarantee (ctxNormal n w) else 0) ≤ 32768 - (s.touchClient c).inEffect 0x4400 5)) ∧
    (∃ (s : State) (c : Client) (n : Nat), c.ok = true ∧ n < 16384 ∧ s.mayWrite c 0x4410 4 (some (0x4410, n)) = true) ∧
    (∃ (s : State) (c : Client) (k : Nat), c.ok = true ∧ k < 64 ∧ s.mayWrite c 0x2210 5 (some (0x2210, k)) = true) ∧
    (∃ (s : State) (c : Client) (p : Nat), c.ok = true ∧ p < 128 ∧ s.mayWrite c 0x2420 4 (some (0x2420, p)) = true) ∧
    (∃ (s : State) (c : Client), c.ok = true ∧ s.mayWrite c 0x2020 2 none = true) ∧
    (∃ (s : State) (c : Client) (v : Nat), c.ok = true ∧ 1 ≤ v ∧ v ≤ 32 ∧ s.mayWrite c 0x3000 4 none = true ∧
      (((s.touchClient c).search.charts.any fun (p : Nat × Chart) => p.1 != 0 && (p.2.st == .valid || p.2.st == .moving) && decide (v < banksPerGroup p.2.desc1)) = false)) ∧
    (∃ (s : State) (c : Client) (v : Nat), c.ok = true ∧ v ≤ 0x1FFFFF ∧ s.mayWrite c 0x3030 1 none = true) ∧
    (∃ (s : State) (c : Client) (v : Nat), c.ok = true ∧ v ≤ 1 ∧ s.mayWrite c 0x3030 2 none = true) ∧
    (∃ (s : State) (c : Client) (n : Nat) (v : Nat), c.ok = true ∧ n < 15 ∧ 1 ≤ v ∧ v ≤ 0x36EE80 ∧ s.mayWrite c 0x4211 3 (some (0x4211, n)) = true) ∧
    (∃ (s : State) (c : Client) (v : Nat), c.ok = true ∧ 1 ≤ v ∧ v ≤ 0x186A0 ∧ s.mayWrite c 0x2230 2 none = true) := by
  refine ⟨⟨later, me, 16383, 0, ?_⟩,
    ⟨later, me, 16383, ?_⟩,
    ⟨later, me, 63, ?_⟩,
    ⟨later, me, 127, ?_⟩,
    ⟨later, me, ?_⟩,
    ⟨window, me, 32, ?_⟩,
    ⟨later, me, 0x1FFFFF, ?_⟩,
    ⟨later, me, 1, ?_⟩,
    ⟨later, me, 14, 0x36EE80, ?_⟩,
    ⟨later, me, 0x186A0, ?_⟩⟩ <;> decide +kernel

/-- What `Obligations.FaultWrites` assumes is met, clause by clause. -/
theorem witness_FaultWrites :
    (∃ (s : State) (c : Client) (v : Nat), c.ok = true ∧ v < 2 ^ 32 ∧ s.mayWrite c 0x7030 3 none = true) ∧
    (∃ (s : State) (c : Client), c.ok = true ∧ s.mayWrite c 0x7000 2 none = true) ∧
    (∃ (s : State) (c : Client), c.ok = true ∧ s.mayWrite c 0x7002 4 none = true) ∧
    (∃ (s : State) (c : Client), c.ok = true ∧ s.mayWrite c 0x4230 4 none = true ∧ (s.touchClient c).inEffect 0x4230 1 ≠ 0 ∧
      kindFits ((s.touchClient c).reg 0x4230 2) ((s.touchClient c).reg 0x4230 3) = true) ∧
    (∃ (s : State) (c : Client) (b : Nat), c.ok = true ∧ b ≤ 0x176 ∧ injectable b = true ∧ s.mayWrite c 0x4230 2 none = true) ∧
    (∃ (s : State) (c : Client) (v : Nat), c.ok = true ∧ v ≤ 1 ∧ s.mayWrite c 0x4200 2 none = true) := by
  refine ⟨⟨later, me, 2 ^ 32 - 1, ?_⟩,
    ⟨later, me, ?_⟩,
    ⟨later, me, ?_⟩,
    ⟨{ later with regs := [(0x423001 * 65536, 1), (0x423003 * 65536, 1)] }, me, ?_⟩,
    ⟨later, me, 0x170, ?_⟩,
    ⟨later, me, 1, ?_⟩⟩ <;> decide +kernel

/-- What `Obligations.QueueAndRingWrites` assumes is met, clause by clause. -/
theorem witness_QueueAndRingWrites :
    (∃ (s : State) (c : Client) (q : Nat) (r : Nat), c.ok = true ∧ q < 4096 ∧ r < 16 ∧ s.mayWrite c 0x2600 4 (some (0x2600, q)) = true ∧
      ((s.touchClient c).queueAt q).st = .disabled ∧ (s.touchClient c).enableOk q = true) ∧
    (∃ (s : State) (c : Client) (q : Nat) (r : Nat), c.ok = true ∧ q < 4096 ∧ r < 16 ∧ s.mayWrite c 0x2600 4 (some (0x2600, q)) = true ∧
      (((s.touchClient c).queueAt q).st = .active ∨ ((s.touchClient c).queueAt q).st = .recovery)) ∧
    (∃ (s : State) (c : Client) (q : Nat) (r : Nat), c.ok = true ∧ q < 4096 ∧ r < 16 ∧ s.mayWrite c 0x2600 4 (some (0x2600, q)) = true ∧
      (((s.touchClient c).queueAt q).st = .disabled ∨ ((s.touchClient c).queueAt q).st = .halted)) ∧
    (∃ (s : State) (c : Client) (q : Nat) (r : Nat), c.ok = true ∧ q < 4096 ∧ r < 16 ∧ s.mayWrite c 0x2600 4 (some (0x2600, q)) = true ∧
      ((s.touchClient c).queueAt q).st = .disabled) ∧
    (∃ (s : State) (c : Client) (q : Nat) (r : Nat), c.ok = true ∧ q < 4096 ∧ r < 16 ∧ s.mayWrite c 0x2600 4 (some (0x2600, q)) = true ∧
      ((s.touchClient c).queueAt q).st = .halted ∧ ((s.touchClient c).queueAt q).entries = []) ∧
    (∃ (s : State) (c : Client) (q : Nat) (r : Nat), c.ok = true ∧ q < 4096 ∧ r < 16 ∧ s.mayWrite c 0x4621 3 (some (0x4621, r)) = true ∧
      s.power.windowOpen = false ∧ ((s.touchClient c).ringEnable r).isSome = true) ∧
    (∃ (s : State) (c : Client) (q : Nat) (r : Nat), c.ok = true ∧ q < 4096 ∧ r < 16 ∧ s.mayWrite c 0x4621 3 (some (0x4621, r)) = true ∧
      s.power.windowOpen = false) ∧
    (∃ (s : State) (c : Client) (q : Nat) (r : Nat), c.ok = true ∧ q < 4096 ∧ r < 16 ∧ s.mayWrite c 0x4621 5 (some (0x4621, r)) = true) := by
  refine ⟨⟨{ later with link := { quads := [(0, 1)] }, queue := { queues := [(4095, { cfg := qcOf })] } }, me, 4095, 15, ?_⟩,
    ⟨{ later with queue := { queues := [(4095, { st := .active })] } }, me, 4095, 15, ?_⟩,
    ⟨{ later with queue := { queues := [(4095, {  })] } }, me, 4095, 15, ?_⟩,
    ⟨{ later with queue := { queues := [(4095, {  })] } }, me, 4095, 15, ?_⟩,
    ⟨{ later with queue := { queues := [(4095, { st := .halted })] } }, me, 4095, 15, ?_⟩,
    ⟨{ later with counter := { rings := [(15, { cfg := dcOf })] } }, me, 4095, 15, ?_⟩,
    ⟨{ later with queue := { queues := [(4095, {  })] } }, me, 4095, 15, ?_⟩,
    ⟨{ later with queue := { queues := [(4095, {  })] } }, me, 4095, 15, ?_⟩⟩ <;> decide +kernel

/-- What `Obligations.LinkWrites` assumes is met, clause by clause. -/
theorem witness_LinkWrites :
    (∃ (s : State) (c : Client) (p : Nat), c.ok = true ∧ p < 128 ∧ s.mayWrite c 0x5001 7 (some (0x5001, p)) = true ∧
      pcEnable ((s.touchClient c).port p).cfg = true ∧ ((s.touchClient c).port p).st ≠ .resetting) ∧
    (∃ (s : State) (c : Client) (p : Nat), c.ok = true ∧ p < 128 ∧ s.mayWrite c 0x5001 7 (some (0x5001, p)) = true ∧
      pcEnable ((s.touchClient c).port p).cfg = true ∧ ((s.touchClient c).port p).st = .resetting) ∧
    (∃ (s : State) (c : Client) (p : Nat) (w : BitVec 32), c.ok = true ∧ p < 128 ∧ s.mayWrite c 0x5001 2 (some (0x5001, p)) = true ∧
      pcEnable ((s.touchClient c).port p).cfg = false ∧ pcWidth (setFld w 0 18 0) ≠ 3 ∧ pcMaxSpeed (setFld w 0 18 0) ≠ 3 ∧
      (pcEnable (setFld w 0 18 0) = true → (s.touchClient c).portConfigOk p (setFld w 0 18 0) = true)) ∧
    (∃ (s : State) (c : Client) (q : Nat) (v : Nat), c.ok = true ∧ q < 128 ∧ v ≤ 2 ∧ s.mayWrite c 0x5000 2 (some (0x5000, q)) = true ∧
      (s.touchClient c).quadUser q = none) ∧
    (∃ (s : State) (c : Client) (t : Nat) (w : Word128), c.ok = true ∧ t < 256 ∧ s.mayWrite c 0x5101 2 (some (0x5101, t)) = true ∧
      (ptValid (Table.get 0 (s.touchClient c).link.targets t) = true → (s.touchClient c).targetUsed t = false) ∧ ptReserved w = false ∧
      (ptValid w = true → (s.touchClient c).targetOk t w = true)) ∧
    (∃ (s : State) (c : Client) (l : Nat), c.ok = true ∧ l < 128 ∧ s.mayWrite c 0x5200 8 (some (0x5200, l)) = true) ∧
    (∃ (s : State) (c : Client) (index : Nat) (sub : Nat) (data : List Byte) (t : State), c.ok = true ∧ index < 2 ^ 16 ∧ sub < 2 ^ 8 ∧ data.length ≤ 240 ∧
      s.mayWrite c index sub none = true ∧ (¬ (index = 0x1F00 ∧ sub = 1)) ∧ (¬ (index = 0x2020 ∧ sub = 2)) ∧
      (({ s with pending := [], out := [] } : State).touchClient c).checkedWrite c ((({ s with pending := [], out := [] } : State).touchClient c).selOf c) index sub data = .ok t) := by
  refine ⟨⟨{ later with link := { ports := [(127, { cfg := 2 ^ 31, st := .up })] } }, me, 127, ?_⟩,
    ⟨{ later with link := { ports := [(127, { cfg := 2 ^ 31, st := .resetting })] } }, me, 127, ?_⟩,
    ⟨window, me, 127, 0, ?_⟩,
    ⟨window, me, 127, 2, ?_⟩,
    ⟨window, me, 255, 0, ?_⟩,
    ⟨later, me, 127, ?_⟩,
    ⟨later, me, 0x4200, 2, [1], ((({ later with pending := [], out := [] } : State).touchClient me).checkedWrite me ((({ later with pending := [], out := [] } : State).touchClient me).selOf me) 0x4200 2 [1]).toOption.getD later, ?_⟩⟩ <;> decide +kernel

/-- What `Obligations.FrameRows` assumes is met, clause by clause. -/
theorem witness_FrameRows :
    (∃ (s : State) (tr : Transport) (h : Word128) (t : State) (b : List Byte), tr.ok = true ∧ s.mayServe { transport := tr, header := h } = true ∧
      fhKind h = 1 ∧ b.length ≤ frameLimit tr ∧
      (s.found ⟨tr, fhClient h⟩).checkedRead ⟨tr, fhClient h⟩ ((s.found ⟨tr, fhClient h⟩).selOf ⟨tr, fhClient h⟩) (fhIndex h) (fhSub h) = (t, .ok b)) ∧
    (∃ (s : State) (tr : Transport) (h : Word128) (data : List Byte) (t : State), tr.ok = true ∧
      s.mayServe { transport := tr, header := h, data := data } = true ∧ fhKind h = 2 ∧ fhSeq h = 0 ∧ (¬ (fhIndex h = 0x1F00 ∧ fhSub h = 1)) ∧
      (¬ (fhIndex h = 0x2020 ∧ fhSub h = 2)) ∧
      (s.found ⟨tr, fhClient h⟩).checkedWrite ⟨tr, fhClient h⟩ ((s.found ⟨tr, fhClient h⟩).selOf ⟨tr, fhClient h⟩) (fhIndex h) (fhSub h) data = .ok t) ∧
    (∃ (s : State) (tr : Transport) (h : Word128) (x : Transfer), tr.ok = true ∧ s.mayServe { transport := tr, header := h } = true ∧ fhKind h = 3 ∧
      (s.found ⟨tr, fhClient h⟩).segmentBarred { transport := tr, header := h } ((s.found ⟨tr, fhClient h⟩).selOf ⟨tr, fhClient h⟩) false = none ∧
      (s.found ⟨tr, fhClient h⟩).transferOf ⟨tr, fhClient h⟩ (fhIndex h) (fhSub h) = some x) ∧
    (∃ (s : State) (tr : Transport) (h : Word128) (data : List Byte), tr.ok = true ∧ s.mayServe { transport := tr, header := h, data := data } = true ∧
      fhKind h = 4 ∧ fhSeq h = 0 ∧ fhFlags h = 0 ∧ fhArg h = 0 ∧ data.length ≤ 1024 ∧
      (s.found ⟨tr, fhClient h⟩).segmentBarred { transport := tr, header := h, data := data } ((s.found ⟨tr, fhClient h⟩).selOf ⟨tr, fhClient h⟩) true = none ∧
      (s.found ⟨tr, fhClient h⟩).transferOf ⟨tr, fhClient h⟩ (fhIndex h) (fhSub h) = none ∧ (s.found ⟨tr, fhClient h⟩).transferRoom ⟨tr, fhClient h⟩ = true) ∧
    (∃ (s : State) (tr : Transport) (h : Word128) (x : Transfer), tr.ok = true ∧ s.mayServe { transport := tr, header := h } = true ∧ fhKind h = 5 ∧
      fhSeq h = 0 ∧
      (s.found ⟨tr, fhClient h⟩).segmentBarred { transport := tr, header := h } ((s.found ⟨tr, fhClient h⟩).selOf ⟨tr, fhClient h⟩) (fhIndex h == 0x1F00) = none ∧
      (s.found ⟨tr, fhClient h⟩).transferOf ⟨tr, fhClient h⟩ (fhIndex h) (fhSub h) = some x) ∧
    (∃ (s : State) (tr : Transport) (c : Client) (i : Nat) (j : Nat) (x : Transfer), tr.ok = true ∧ c.ok = true ∧ i < 2 ^ 16 ∧ j < 2 ^ 8 ∧ s.awake ∧
      s.transferOf c i j = some x ∧ x.touched + s.reg 0x1100 3 * 1000000 ≤ s.now) ∧
    (∃ (s : State) (tr : Transport) (c : Client) (i : Nat) (j : Nat) (x : Transfer) (at_ : Nat), tr.ok = true ∧ c.ok = true ∧ i < 2 ^ 16 ∧ j < 2 ^ 8 ∧
      s.awake ∧ s.transferOf c i j = some x ∧ x.lastSent = some at_ ∧ at_ + 1000000000 ≤ s.now) ∧
    (∃ (s : State) (tr : Transport) (c : Client) (q : Nat), tr.ok = true ∧ c.ok = true ∧ q < 2 ^ 16 ∧ s.awake) := by
  refine ⟨⟨later, .i3c, frameHeader 1 0 65535 0 0x1000 6 0 0, (later.found ⟨.i3c, 65535⟩), [0x42], ?_⟩,
    ⟨later, .i3c, frameHeader 2 0 65535 0 0x4200 2 1 0, [1], (((later.found ⟨.i3c, 65535⟩).checkedWrite ⟨.i3c, 65535⟩ ((later.found ⟨.i3c, 65535⟩).selOf ⟨.i3c, 65535⟩) 0x4200 2 [1]).toOption.getD later), ?_⟩,
    ⟨reading, .i3c, frameHeader 3 0 65535 0 0x4600 3 0 0, bytesOut, ?_⟩,
    ⟨later, .i3c, frameHeader 4 0 65535 0 0x1F00 1 240 0, List.replicate 240 0, ?_⟩,
    ⟨reading, .i3c, frameHeader 5 0 65535 0 0x4600 3 0 0, bytesOut, ?_⟩,
    ⟨reading, .i3c, ⟨.i3c, 65535⟩, 0x4600, 3, bytesOut, ?_⟩,
    ⟨reading, .i3c, ⟨.i3c, 65535⟩, 0x4600, 3, bytesOut, 0, ?_⟩,
    ⟨later, .i3c, ⟨.i3c, 65535⟩, 65535, ?_⟩⟩ <;> decide +kernel

/-- What `Obligations.MailboxCommands` assumes is met, clause by clause. -/
theorem witness_MailboxCommands :
    (∃ (s : State) (p : Nat) (b : List Byte), p < 128 ∧ s.awake ∧ s.hears (.mailbox p) = true ∧ b.length < 16) ∧
    (∃ (s : State) (p : Nat) (b : List Byte), p < 128 ∧ s.awake ∧ s.hears (.mailbox p) = true ∧ 16 ≤ b.length ∧
      Frame.whole { transport := .mailbox p, header := BitVec.ofNat 128 (ofLe (b.take 16)), data := b.drop 16 } = true) ∧
    (∃ (s : State) (p : Nat), p < 128 ∧ s.awake ∧ s.hears (.mailbox p) = true) ∧
    (∃ (s : State) (p : Nat), p < 128 ∧ s.awake ∧ s.hears (.mailbox p) = true) ∧
    (∃ (s : State) (p : Nat), p < 128 ∧ s.awake ∧ s.hears (.mailbox p) = true) := by
  refine ⟨⟨upLast, 127, List.replicate 15 0, ?_⟩,
    ⟨upLast, 127, leBytes (frameHeader 1 0 1 0 0x1000 6 0 0).toNat 16, ?_⟩,
    ⟨upLast, 127, ?_⟩,
    ⟨upLast, 127, ?_⟩,
    ⟨upLast, 127, ?_⟩⟩ <;> decide +kernel

/-- What `Obligations.ManagementTransports` assumes is met, clause by clause. -/
theorem witness_ManagementTransports :
    (∃ (s : State) (e : BitVec 8), s.awake ∧ s.hears .i3c = true ∧ e ≠ 0 ∧ e ≠ 0xFF) ∧
    (∃ (s : State), s.awake ∧ s.hears .i3c = true) ∧
    (∃ (s : State), s.awake) ∧
    (∃ (s : State) (bus : Bool), s.awake ∧ s.hears (busOf bus) = true) ∧
    (∃ (s : State) (bus : Bool), s.awake ∧ s.hears (busOf bus) = true) ∧
    (∃ (s : State) (bus : Bool), s.awake ∧ s.mgmt.fbState.getLsbD (bit bus) = true) ∧
    (∃ (s : State) (bus : Bool), s.awake ∧ (s.reg 0x1101 1).testBit (bit bus) = true) := by
  refine ⟨⟨later, 0xFE, ?_⟩,
    ⟨later, ?_⟩,
    ⟨later, ?_⟩,
    ⟨busy, true, ?_⟩,
    ⟨busy, true, ?_⟩,
    ⟨busy, true, ?_⟩,
    ⟨busy, true, ?_⟩⟩ <;> decide +kernel

/-- What `Obligations.HomeSteps` assumes is met, clause by clause. -/
theorem witness_HomeSteps :
    (∃ (s : State) (k : Nat) (dpa : Nat) (port : Nat) (marker : Nat) (t : Tracker), s.awake ∧ k < 64 ∧ dpa < 2 ^ 45 ∧ port < 128 ∧ marker < 64 ∧
      s.trackerOf dpa = some t ∧ t.stage = .ack) ∧
    (∃ (s : State) (k : Nat) (dpa : Nat) (port : Nat) (marker : Nat) (r : Req), s.awake ∧ k < 64 ∧ dpa < 2 ^ 45 ∧ port < 128 ∧ marker < 64 ∧
      (s.slice k).trackers.find? (s.wayReady k) = none ∧ s.home.poisonWait = [] ∧
      ((s.slice k).blocked.find? (fun r => (s.trackerOf r.dpa).isNone && !s.readsStopped k r && decide ((s.slice k).trackers.length < 128)) = some r)) ∧
    (∃ (s : State) (k : Nat) (dpa : Nat) (port : Nat) (marker : Nat) (t : Tracker), s.awake ∧ k < 64 ∧ dpa < 2 ^ 45 ∧ port < 128 ∧ marker < 64 ∧
      (s.slice k).trackers.find? (s.wayReady k) = some t) ∧
    (∃ (s : State) (k : Nat) (dpa : Nat) (port : Nat) (marker : Nat) (t : Tracker) (cause : SnoopCause), s.awake ∧ k < 64 ∧ dpa < 2 ^ 45 ∧ port < 128 ∧
      marker < 64 ∧ s.trackerOf dpa = some t ∧ t.stage = .dwell cause ∧ s.dwellOver (s.dirEntryOf dpa) = true) ∧
    (∃ (s : State) (k : Nat) (dpa : Nat) (port : Nat) (marker : Nat) (w : SnoopWalk), s.awake ∧ k < 64 ∧ dpa < 2 ^ 45 ∧ port < 128 ∧ marker < 64 ∧
      (s.home.walks.find? (fun w => w.port == port && w.dpa == sectorOf dpa && w.marker == marker) = some w)) ∧
    (∃ (s : State) (k : Nat) (dpa : Nat) (port : Nat) (marker : Nat) (t : Tracker) (cause : SnoopCause), s.awake ∧ k < 64 ∧ dpa < 2 ^ 45 ∧ port < 128 ∧
      marker < 64 ∧ s.trackerOf dpa = some t ∧ t.stage = .snoop cause ∧ s.snoopsDone t = false ∧ t.since + s.reg 0x2400 3 * 1000 ≤ s.now) ∧
    (∃ (s : State) (k : Nat) (dpa : Nat) (port : Nat) (marker : Nat) (d : Nat), s.awake ∧ k < 64 ∧ dpa < 2 ^ 45 ∧ port < 128 ∧ marker < 64 ∧
      s.home.poisonDone.find? (·.1 == sectorOf dpa) = some (d, true) ∧ (s.dirEntryOf d).st = .pp) ∧
    (∃ (s : State) (k : Nat) (dpa : Nat) (port : Nat) (marker : Nat) (d : Nat) (at_ : Nat), s.awake ∧ k < 64 ∧ dpa < 2 ^ 45 ∧ port < 128 ∧ marker < 64 ∧
      s.home.poisonRetry.find? (·.1 == sectorOf dpa) = some (d, at_) ∧ (s.dirEntryOf d).st = .pp ∧ at_ + s.reg 0x2400 6 * 1000 ≤ s.now ∧
      s.trackerOf d = none ∧ s.wbRoom (homeSlice d) = true) ∧
    (∃ (s : State) (k : Nat) (dpa : Nat) (port : Nat) (marker : Nat) (set : Nat) (v : Nat) (c : Nat), s.awake ∧ k < 64 ∧ dpa < 2 ^ 45 ∧ port < 128 ∧
      marker < 64 ∧ set < 32768 ∧ Table.get 0 s.home.setRecall (k * 32768 + set) = v + 1 ∧ s.home.lastSetSnoop + 100 ≤ s.now ∧
      ((s.home.revMap.filter fun i => s.homeOf i == s.deviceNumber).foldl (fun m i => minOpt m (candidateIn k set v i)) none = some c) ∧
      s.trackerOf (dirSector k set c) = none ∧ (s.slice k).trackers.length < 128) ∧
    (∃ (s : State) (k : Nat) (dpa : Nat) (port : Nat) (marker : Nat), s.awake ∧ k < 64 ∧ dpa < 2 ^ 45 ∧ port < 128 ∧ marker < 64 ∧
      s.home.retireWalk = false ∧ s.home.revMap.any (·.retired) = true) ∧
    (∃ (s : State) (k : Nat) (dpa : Nat) (port : Nat) (marker : Nat), s.awake ∧ k < 64 ∧ dpa < 2 ^ 45 ∧ port < 128 ∧ marker < 64 ∧ s.home.retireWalk = true ∧
      s.home.sweepSectors = [] ∧
      ((s.slices.any fun (p : Nat × Slice) => p.2.trackers.any fun t => t.stage == .snoop .sweep && t.req.origin == .poison) = false)) := by
  refine ⟨⟨{ later with slices := [(32, { trackers := [{ dpa := 2 ^ 45 - 64, stage := .ack }] })] }, 32, 2 ^ 45 - 1, 127, 63, { dpa := 2 ^ 45 - 64, stage := .ack }, ?_⟩,
    ⟨{ later with slices := [(32, { blocked := [reqA] })] }, 32, 2 ^ 45 - 1, 127, 63, reqA, ?_⟩,
    ⟨{ later with slices := [(32, { trackers := [{ dpa := 2 ^ 45 - 64, stage := .way }] })] }, 32, 2 ^ 45 - 1, 127, 63, { dpa := 2 ^ 45 - 64, stage := .way }, ?_⟩,
    ⟨{ later with regs := [(0x240002 * 65536, 0)], slices := [(32, { trackers := [{ dpa := 2 ^ 45 - 64, stage := .dwell .serve }] })] }, 32, 2 ^ 45 - 1, 127, 63, { dpa := 2 ^ 45 - 64, stage := .dwell .serve }, .serve, ?_⟩,
    ⟨{ later with home := { walks := [⟨127, 2 ^ 45 - 64, 63, 5, .inv, 0⟩] } }, 32, 2 ^ 45 - 1, 127, 63, ⟨127, 2 ^ 45 - 64, 63, 5, .inv, 0⟩, ?_⟩,
    ⟨{ later with slices := [(32, { trackers := [{ dpa := 2 ^ 45 - 64, stage := .snoop .serve, snoops := [{ target := .holder { pos := 31 }, kind := .inv }] }] })] }, 32, 2 ^ 45 - 1, 127, 63, { dpa := 2 ^ 45 - 64, stage := .snoop .serve, snoops := [{ target := .holder { pos := 31 }, kind := .inv }] }, .serve, ?_⟩,
    ⟨{ later with home := { dir := [(ppKey, { tag := dirTag (2 ^ 45 - 64), st := .pp })], poisonDone := [(2 ^ 45 - 64, true)] } }, 32, 2 ^ 45 - 1, 127, 63, 2 ^ 45 - 64, ?_⟩,
    ⟨{ later with home := { dir := [(ppKey, { tag := dirTag (2 ^ 45 - 64), st := .pp })], poisonRetry := [(2 ^ 45 - 64, 0)] } }, 32, 2 ^ 45 - 1, 127, 63, 2 ^ 45 - 64, 0, ?_⟩,
    ⟨{ later with home := { setRecall := [(32 * 32768 + 32767, 1)], revMap := [intervalA] } }, 32, 2 ^ 45 - 1, 127, 63, 32767, 0, 0, ?_⟩,
    ⟨{ later with home := { revMap := [{ intervalA with retired := true }] } }, 32, 2 ^ 45 - 1, 127, 63, ?_⟩,
    ⟨{ later with home := { retireWalk := true } }, 32, 2 ^ 45 - 1, 127, 63, ?_⟩⟩ <;> decide +kernel

/-- What `Obligations.SnoopAnswers` assumes is met, clause by clause. -/
theorem witness_SnoopAnswers :
    (∃ (s : State) (port : Nat) (hpa : Nat) (b : BiSnp), s.awake ∧ port < 128 ∧ hpa < 2 ^ 64 ∧ b.group = 0 ∧
      (s.home.bisnps.find? (fun b => b.port == port && b.hpa == sectorOf hpa && b.answer == 9) = some b)) ∧
    (∃ (s : State) (port : Nat) (hpa : Nat) (b : BiSnp), s.awake ∧ port < 128 ∧ hpa < 2 ^ 64 ∧ b.group = 0 ∧
      (s.home.bisnps.find? (fun b => b.port == port && b.hpa == sectorOf hpa && b.answer == 9) = some b)) ∧
    (∃ (s : State) (home : Nat) (dpa : Nat) (port : Nat) (marker : Nat), s.awake ∧ home < 1024 ∧ dpa < 2 ^ 45 ∧ port < 128 ∧ marker < 64) ∧
    (∃ (s : State) (home : Nat) (dpa : Nat), s.awake ∧ home < 1024 ∧ dpa < 2 ^ 45) ∧
    (∃ (s : State) (home : Nat) (dpa : Nat) (tag : Nat) (cmp : Nat) (f : Forwarded), s.awake ∧ home < 1024 ∧ dpa < 2 ^ 45 ∧ tag < 2 ^ 16 ∧
      (cmp < 4 ∨ 8 ≤ cmp ∧ cmp < 12 ∨ cmp = 0x8101) ∧ (s.link.forwarded.find? (fun f => f.peer == home && f.tag == tag) = some f)) := by
  refine ⟨⟨{ later with home := { bisnps := [bisnpA] } }, 127, 2 ^ 64 - 1, bisnpA, ?_⟩,
    ⟨{ later with home := { bisnps := [bisnpA] } }, 127, 2 ^ 64 - 1, bisnpA, ?_⟩,
    ⟨later, 1023, 2 ^ 45 - 1, 127, 63, ?_⟩,
    ⟨later, 1023, 2 ^ 45 - 1, ?_⟩,
    ⟨{ later with link := { forwarded := [⟨1023, 65535, reqA⟩] } }, 1023, 2 ^ 45 - 1, 65535, 3, ⟨1023, 65535, reqA⟩, ?_⟩⟩ <;> decide +kernel

/-- What `Obligations.NodeSteps` assumes is met, clause by clause. -/
theorem witness_NodeSteps :
    (∃ (s : State) (id : Nat) (w : Walk), s.awake ∧ s.prot.walks.find? (·.id == id) = some w ∧ s.metaWaits (.walk id) = false ∧
      s.power.device ≠ .pfDraining ∧ w.overflow = none ∧ s.walkBlocked w = false) ∧
    (∃ (s : State) (id : Nat) (w : Walk) (level : Nat) (index : Nat), s.awake ∧ s.prot.walks.find? (·.id == id) = some w ∧ s.metaWaits (.walk id) = false ∧
      s.power.device ≠ .pfDraining ∧ w.overflow = some (level, index)) ∧
    (∃ (s : State) (r : Nat) (l : Nat) (i : Nat) (b : CcBlock), s.awake ∧ s.childWriter r l i = none ∧ s.ccAt r l i = some b ∧ b.writing = true ∧
      s.metaWaits (.node r l i) = false) ∧
    (∃ (s : State) (r : Nat) (l : Nat) (i : Nat) (b : CcBlock), s.awake ∧ s.childWriter r l i = none ∧ s.ccAt r l i = some b ∧ b.writing = true ∧
      b.failed = none) ∧
    (∃ (s : State) (r : Nat) (l : Nat) (i : Nat) (b : CcBlock) (t : Nat), s.awake ∧ s.childWriter r l i = none ∧ s.ccAt r l i = some b ∧ b.failed = some t ∧
      b.writing = false ∧ t + s.reg 0x4040 1 * 1000 ≤ s.now) ∧
    (∃ (s : State), s.awake ∧ s.prot.st = .flushing ∧ s.prot.cc = [] ∧ s.prot.deferredEnable = false) ∧
    (∃ (s : State) (pound : Nat) (slot : Nat), s.awake ∧ pound < 2 ∧ slot < 4096 ∧ (s.keySlot slot).restoring = some pound) := by
  refine ⟨⟨{ later with prot := { walks := [{ id := 5 }] } }, 5, { id := 5 }, ?_⟩,
    ⟨{ later with prot := { walks := [{ id := 5, overflow := some (2, 7) }] } }, 5, { id := 5, overflow := some (2, 7) }, 2, 7, ?_⟩,
    ⟨{ later with prot := { cc := [(ccKey 4095 2 7, { writing := true })] } }, 4095, 2, 7, { writing := true }, ?_⟩,
    ⟨{ later with prot := { cc := [(ccKey 4095 2 7, { writing := true })] } }, 4095, 2, 7, { writing := true }, ?_⟩,
    ⟨{ later with prot := { cc := [(ccKey 4095 2 7, { failed := some 0 })] } }, 4095, 2, 7, { failed := some 0 }, 0, ?_⟩,
    ⟨{ later with prot := { st := .flushing } }, ?_⟩,
    ⟨{ later with prot := { slots := [(4095, { restoring := some 1 })] } }, 1, 4095, ?_⟩⟩ <;> decide +kernel

/-- What `Obligations.ReknitSteps` assumes is met, clause by clause. -/
theorem witness_ReknitSteps :
    (∃ (s : State) (r : Nat) (w : WatchEntry), s.awake ∧ s.prot.reknitRoot = some r ∧ s.engineRoot = some r ∧
      (s.prot.watch.find? (fun w => !w.reading && w.value.isNone) = some w)) ∧
    (∃ (s : State) (r : Nat) (next : Nat), s.awake ∧ s.prot.reknitRoot = some r ∧ s.engineRoot = some r ∧
      (s.prot.watch.find? (fun w => !w.reading && w.value.isNone) = none) ∧ next = s.prot.rkNext ∧ (s.protRegion r).needle < next ∧ next < s.regEnd r ∧
      ((s.prot.pages.any fun j => j.root == r && j.convert) = false)) ∧
    (∃ (s : State) (r : Nat) (dpa : Nat), s.awake ∧ s.prot.reknitRoot = some r ∧ dpa < 2 ^ 45) ∧
    (∃ (s : State) (r : Nat) (dpa : Nat) (w : WatchEntry), s.awake ∧ s.prot.reknitRoot = some r ∧ dpa < 2 ^ 45 ∧
      (s.prot.watch.find? (fun w => w.dpa == sectorOf dpa && w.sent && !w.ordered) = some w) ∧ s.wbHolds (homeSlice (sectorOf dpa)) (sectorOf dpa) = false ∧
      (s.slice (homeSlice (sectorOf dpa))).mergeBuf = [] ∧ s.trackerOf (sectorOf dpa) = none ∧ s.wbRoom (homeSlice (sectorOf dpa)) = true) ∧
    (∃ (s : State) (r : Nat) (o : PoolOp) (b : CcBlock), s.awake ∧ s.prot.reknitRoot = some r ∧ s.engineRoot = some r ∧
      (s.prot.ops.find? (fun o => o.rk && !o.encrypted && o.root == some r && decide (o.dpa ≤ (s.protRegion r).needle) && (o.stage == .toPound || o.stage == .held)) = some o) ∧
      s.prot.rkPace ≤ s.now * 100 ∧ s.pageHeld r (s.regSector r o.dpa) = false ∧ s.underDamage r (s.regSector r o.dpa) = false ∧
      s.nodeReady r 1 (s.regSector r o.dpa / 64) b = true ∧ s.keyReady (r % 2) (s.protRegion r).newSlot = true ∧ (s.protRegion r).st = .active ∧
      (¬(cbMinor b.bits (s.regSector r o.dpa % 64) = 127 ∧ cbMajor b.bits = 2 ^ 64 - 1))) ∧
    (∃ (s : State) (r : Nat), s.awake ∧ s.prot.reknitRoot = some r ∧ s.reg 0x4030 1 ≠ 0 ∧ s.prot.stallLogged = false ∧
      s.prot.needleAt + s.reg 0x4030 2 * 1000000 ≤ s.now) := by
  refine ⟨⟨{ later with prot := { regions := [(4095, { desc1 := pdOf, st := .active, reknitting := true })], reknitRoot := some 4095, watch := [{ dpa := 64 }] } }, 4095, { dpa := 64 }, ?_⟩,
    ⟨{ later with prot := { regions := [(4095, { desc1 := pdOf, st := .active, reknitting := true })], reknitRoot := some 4095, rkNext := 64 } }, 4095, 64, ?_⟩,
    ⟨{ later with prot := { regions := [(4095, { desc1 := pdOf, st := .active, reknitting := true })], reknitRoot := some 4095, rkNext := 64 } }, 4095, 2 ^ 45 - 1, ?_⟩,
    ⟨{ later with prot := { regions := [(4095, { desc1 := pdOf, st := .active, reknitting := true })], reknitRoot := some 4095, watch := [⟨2 ^ 45 - 64, false, false, false, none, true, false⟩] } }, 4095, 2 ^ 45 - 1, ⟨2 ^ 45 - 64, false, false, false, none, true, false⟩, ?_⟩,
    ⟨{ later with prot := { regions := [(4095, { desc1 := pdOf, st := .active, reknitting := true })], reknitRoot := some 4095, ops := [rkOp], cc := [(ccKey 4095 1 0, {})] } }, 4095, rkOp, {}, ?_⟩,
    ⟨{ later with prot := { regions := [(4095, { desc1 := pdOf, st := .active, reknitting := true })], reknitRoot := some 4095, rkNext := 64 } }, 4095, ?_⟩⟩ <;> decide +kernel

/-- What `Obligations.SearchSteps` assumes is met, clause by clause. -/
theorem witness_SearchSteps :
    (∃ (s : State), s.awake) ∧
    (∃ (s : State) (id : Nat) (q : Nat) (pos : Nat) (part : Nat) (r : SearchRun), s.awake ∧
      (s.search.runs.find? (fun r => r.id == id && r.source != SearchFor.cascade 0) = some r) ∧ r.source = .queue q pos part ∧ s.now = r.issued + 28) ∧
    (∃ (s : State) (id : Nat) (q : Nat) (pos : Nat) (part : Nat) (r : SearchRun), s.awake ∧
      (s.search.runs.find? (fun r => r.id == id && r.source != SearchFor.cascade 0) = some r) ∧ r.source = .queue q pos part ∧ r.issued + 28 < s.now) ∧
    (∃ (s : State) (g : ApplyGroup) (rest : List ApplyGroup), s.awake ∧ s.search.groups = g :: rest ∧ s.groupReady g = true ∧ g.applies ≠ [] ∧
      g.after ≠ .region) ∧
    (∃ (s : State) (c : Nat) (ticket : Nat), s.awake ∧ (s.chart c).st = .committing ∧ s.search.groups = [{ applies := [], after := .commit c ticket }]) ∧
    (∃ (s : State), s.awake ∧ s.fits 1 ((List.range 8).map (8 * (s.search.sweepPos / 16384) + ·)) = true) ∧
    (∃ (s : State), s.awake ∧ s.search.sweepLate = false ∧ s.search.sweepBegan + s.reg 0x3001 1 * 1000000 ≤ s.now) ∧
    (∃ (s : State) (chart : Nat), s.awake ∧ chart < 256) := by
  refine ⟨⟨later, ?_⟩,
    ⟨{ later with now := 28, search := { runs := [runA] } }, 5, 4095, 3, 2, runA, ?_⟩,
    ⟨{ later with now := 29, search := { runs := [runA] } }, 5, 4095, 3, 2, runA, ?_⟩,
    ⟨{ later with search := { groups := [{ applies := [⟨0, {}⟩] }] } }, { applies := [⟨0, {}⟩] }, [], ?_⟩,
    ⟨{ later with search := { charts := [(255, { st := .committing })], groups := [{ applies := [], after := .commit 255 7 }] } }, 255, 7, ?_⟩,
    ⟨later, ?_⟩,
    ⟨later, ?_⟩,
    ⟨later, 255, ?_⟩⟩ <;> decide +kernel

/-- What `Obligations.TableCommands` assumes is met, clause by clause. -/
theorem witness_TableCommands :
    (∃ (s : State) (chart : Nat) (c : TableCmd), s.awake ∧ chart < 256 ∧ (s.search.cmds.find? (fun c => c.chart == chart && c.phase == .queued) = some c) ∧
      s.tableRuns chart = false ∧ State.spanPending (s.chart chart) = false ∧ s.runningCharts.length < 4 ∧ (s.chart chart).st = .valid ∧ thOp c.header = 1) ∧
    (∃ (s : State) (chart : Nat) (c : TableCmd), s.awake ∧ chart < 256 ∧ (s.search.cmds.find? (fun c => c.chart == chart && c.phase == .queued) = some c) ∧
      s.tableRuns chart = false ∧ State.spanPending (s.chart chart) = false ∧ s.runningCharts.length < 4 ∧ (s.chart chart).st = .valid ∧ thOp c.header = 2) ∧
    (∃ (s : State) (chart : Nat) (c : TableCmd), s.awake ∧ chart < 256 ∧ (s.search.cmds.find? (fun c => c.chart == chart && c.phase == .queued) = some c) ∧
      s.tableRuns chart = false ∧ State.spanPending (s.chart chart) = false ∧ s.runningCharts.length < 4 ∧ (s.chart chart).st = .valid ∧ thOp c.header = 3) ∧
    (∃ (s : State) (chart : Nat) (c : TableCmd), s.awake ∧ chart < 256 ∧ (s.search.cmds.find? (fun c => c.chart == chart && c.phase == .queued) = some c) ∧
      s.tableRuns chart = false ∧ State.spanPending (s.chart chart) = false ∧ s.runningCharts.length < 4 ∧ (s.chart chart).st = .valid ∧ thOp c.header = 4) := by
  refine ⟨⟨{ later with search := { charts := [(255, { desc1 := cdOf, st := .valid })], cmds := [tableCmd 1] } }, 255, tableCmd 1, ?_⟩,
    ⟨{ later with search := { charts := [(255, { desc1 := cdOf, st := .valid })], cmds := [tableCmd 2] } }, 255, tableCmd 2, ?_⟩,
    ⟨{ later with search := { charts := [(255, { desc1 := cdOf, st := .valid })], cmds := [tableCmd 3] } }, 255, tableCmd 3, ?_⟩,
    ⟨{ later with search := { charts := [(255, { desc1 := cdOf, st := .valid })], cmds := [tableCmd 4] } }, 255, tableCmd 4, ?_⟩⟩ <;> decide +kernel

/-- What `Obligations.TableMessages` assumes is met, clause by clause. -/
theorem witness_TableMessages :
    (∃ (s : State) (chart : Nat) (owner : Nat) (tag : Nat) (id : Nat) (prio : Nat), s.awake ∧ chart < 256 ∧ owner < 1024 ∧ tag < 2 ^ 16 ∧ id < 2 ^ 32 ∧
      prio < 2 ^ 20 ∧
      ((s.search.subsDone.find? fun r => (r.owner == owner && r.tag == tag) && (r.answer.isNone || decide (s.now < r.ended + 64000))) = none) ∧
      (s.chart chart).st = .valid ∧ id / 2 ^ 22 ≠ s.deviceNumber) ∧
    (∃ (s : State) (chart : Nat) (owner : Nat) (tag : Nat) (id : Nat) (prio : Nat), s.awake ∧ chart < 256 ∧ owner < 1024 ∧ tag < 2 ^ 16 ∧ id < 2 ^ 32 ∧
      prio < 2 ^ 20 ∧
      ((s.search.subsDone.find? fun r => (r.owner == owner && r.tag == tag) && (r.answer.isNone || decide (s.now < r.ended + 64000))) = none)) ∧
    (∃ (s : State) (chart : Nat) (owner : Nat) (tag : Nat) (id : Nat) (prio : Nat) (r : SubRec) (words : List Nat), s.awake ∧ chart < 256 ∧ owner < 1024 ∧
      tag < 2 ^ 16 ∧ id < 2 ^ 32 ∧ prio < 2 ^ 20 ∧
      ((s.search.subsDone.find? fun r => (r.owner == owner && r.tag == tag) && (r.answer.isNone || decide (s.now < r.ended + 64000))) = some r) ∧
      r.answer = some words) ∧
    (∃ (s : State) (chart : Nat) (owner : Nat) (tag : Nat) (id : Nat) (prio : Nat) (index : Nat) (rows : Nat) (c : TableCmd), s.awake ∧ chart < 256 ∧
      owner < 1024 ∧ tag < 2 ^ 16 ∧ id < 2 ^ 32 ∧ prio < 2 ^ 20 ∧ index < 2 ^ 21 ∧ rows < 2 ^ 15 ∧
      (s.search.updates.find? (fun u => u.device == owner && u.tag == tag) = none) ∧
      (s.search.cmds.find? (fun c => c.unconfirmed.any fun a => a.device == owner && a.tag == tag) = some c) ∧ c.forwarded = false ∧ c.phase = .confirming) ∧
    (∃ (s : State) (chart : Nat) (owner : Nat) (tag : Nat) (id : Nat) (prio : Nat), s.awake ∧ chart < 256 ∧ owner < 1024 ∧ tag < 2 ^ 16 ∧ id < 2 ^ 32 ∧
      prio < 2 ^ 20 ∧ s.search.cmds = []) ∧
    (∃ (s : State) (chart : Nat) (owner : Nat) (tag : Nat) (id : Nat) (prio : Nat) (c : TableCmd), s.awake ∧ chart < 256 ∧ owner < 1024 ∧ tag < 2 ^ 16 ∧
      id < 2 ^ 32 ∧ prio < 2 ^ 20 ∧
      (s.search.cmds.find? (fun c => c.entry == id && c.phase != .queued && !c.unconfirmed.isEmpty && decide (c.asked + 1000000 ≤ s.now)) = some c) ∧
      c.forwarded = false ∧ c.phase = .reserving) ∧
    (∃ (s : State) (chart : Nat) (owner : Nat) (tag : Nat) (id : Nat) (prio : Nat) (c : TableCmd), s.awake ∧ chart < 256 ∧ owner < 1024 ∧ tag < 2 ^ 16 ∧
      id < 2 ^ 32 ∧ prio < 2 ^ 20 ∧
      (s.search.cmds.find? (fun c => c.entry == id && c.phase != .queued && !c.unconfirmed.isEmpty && decide (c.asked + 1000000 ≤ s.now)) = some c) ∧
      c.forwarded = false ∧ c.phase = .confirming ∧ thOp c.header = 2) ∧
    (∃ (s : State) (chart : Nat) (owner : Nat) (tag : Nat) (id : Nat) (prio : Nat) (u : PendingUpdate), s.awake ∧ chart < 256 ∧ owner < 1024 ∧ tag < 2 ^ 16 ∧
      id < 2 ^ 32 ∧ prio < 2 ^ 20 ∧ s.search.updates = [u] ∧ u.sent + 1000000 ≤ s.now) ∧
    (∃ (s : State) (chart : Nat) (owner : Nat) (tag : Nat) (id : Nat) (prio : Nat), s.awake ∧ chart < 256 ∧ owner < 1024 ∧ tag < 2 ^ 16 ∧ id < 2 ^ 32 ∧
      prio < 2 ^ 20) := by
  refine ⟨⟨{ later with search := { charts := [(255, { desc1 := cdOf, st := .valid })] } }, 255, 1023, 65535, 2 ^ 32 - 1, 2 ^ 20 - 1, ?_⟩,
    ⟨later, 255, 1023, 65535, 2 ^ 32 - 1, 2 ^ 20 - 1, ?_⟩,
    ⟨{ later with search := { subsDone := [⟨1023, 65535, 0, some [7], 10 ^ 10⟩] } }, 255, 1023, 65535, 2 ^ 32 - 1, 2 ^ 20 - 1, ⟨1023, 65535, 0, some [7], 10 ^ 10⟩, [7], ?_⟩,
    ⟨{ later with search := { charts := [(255, { desc1 := cdOf, st := .valid })], cmds := [{ tableCmd 2 with phase := .confirming, entry := 2 ^ 32 - 1, unconfirmed := [⟨1023, 65535, .apply⟩] }] } }, 255, 1023, 65535, 2 ^ 32 - 1, 2 ^ 20 - 1, 2 ^ 21 - 1, 2 ^ 15 - 1, { tableCmd 2 with phase := .confirming, entry := 2 ^ 32 - 1, unconfirmed := [⟨1023, 65535, .apply⟩] }, ?_⟩,
    ⟨later, 255, 1023, 65535, 2 ^ 32 - 1, 2 ^ 20 - 1, ?_⟩,
    ⟨{ later with search := { charts := [(255, { desc1 := cdOf, st := .valid })], cmds := [{ tableCmd 1 with phase := .reserving, entry := 2 ^ 32 - 1, unconfirmed := [⟨1023, 65535, .apply⟩] }] } }, 255, 1023, 65535, 2 ^ 32 - 1, 2 ^ 20 - 1, { tableCmd 1 with phase := .reserving, entry := 2 ^ 32 - 1, unconfirmed := [⟨1023, 65535, .apply⟩] }, ?_⟩,
    ⟨{ later with search := { charts := [(255, { desc1 := cdOf, st := .valid })], cmds := [{ tableCmd 2 with phase := .confirming, entry := 2 ^ 32 - 1, unconfirmed := [⟨1023, 65535, .apply⟩] }] } }, 255, 1023, 65535, 2 ^ 32 - 1, 2 ^ 20 - 1, { tableCmd 2 with phase := .confirming, entry := 2 ^ 32 - 1, unconfirmed := [⟨1023, 65535, .apply⟩] }, ?_⟩,
    ⟨{ later with search := { updates := [⟨255, 7, 1023, .remove, 65535, 0⟩] } }, 255, 1023, 65535, 2 ^ 32 - 1, 2 ^ 20 - 1, ⟨255, 7, 1023, .remove, 65535, 0⟩, ?_⟩,
    ⟨later, 255, 1023, 65535, 2 ^ 32 - 1, 2 ^ 20 - 1, ?_⟩⟩ <;> decide +kernel

/-- What `Obligations.SpanSteps` assumes is met, clause by clause. -/
theorem witness_SpanSteps :
    (∃ (s : State) (c : Nat) (coord : Nat) (g : Nat) (dmap : List Nat) (members : List Nat), s.awake ∧ c < 256 ∧ coord < 1024 ∧ g < 2 ^ 16 ∧
      dmap.length ≤ 256 ∧ members.all deviceOk = true ∧ s.chartWorks c = true ∧ s.chartBusy c = false) ∧
    (∃ (s : State) (c : Nat) (j : SpanJob) (m : Nat), s.awake ∧ c < 256 ∧ (s.chart c).span = some j ∧ j.coordinator = s.deviceNumber ∧ m < 1024 ∧
      s.canalTime + 20000 ≤ j.instant) ∧
    (∃ (s : State) (c : Nat) (j : SpanJob) (m : Nat), s.awake ∧ c < 256 ∧ (s.chart c).span = some j ∧ j.coordinator = s.deviceNumber ∧ m < 1024) ∧
    (∃ (s : State) (c : Nat) (j : SpanJob), s.awake ∧ c < 256 ∧ (s.chart c).span = some j ∧ j.coordinator = s.deviceNumber ∧
      j.instant ≤ s.canalTime + 20000 ∧ State.allReady j = false) ∧
    (∃ (s : State) (c : Nat) (j : SpanJob), s.awake ∧ c < 256 ∧ (s.chart c).span = some j ∧ j.coordinator ≠ s.deviceNumber ∧ j.generation < 2 ^ 16 ∧
      (s.chart c).prepare = none) ∧
    (∃ (s : State) (c : Nat) (j : SpanJob), s.awake ∧ c < 256 ∧ (s.chart c).span = some j ∧ j.instant ≤ s.canalTime ∧ j.done = false ∧
      (j.coordinator = s.deviceNumber → State.allReady j = true)) ∧
    (∃ (s : State) (c : Nat) (j : SpanJob), s.awake ∧ c < 256 ∧ (s.chart c).span = some j ∧ j.coordinator = s.deviceNumber ∧ j.done = true ∧
      j.started + 45000 ≤ s.now) ∧
    (∃ (code : Nat) (s : State) (c : Nat) (coord g : Nat) (w1 w0 : Word128) (dmap members : List Nat) (drop : Bool) (t : Nat), s.chartWorks c = false ∧
      s.awake ∧ c < 256 ∧ coord < 1024 ∧ g < 2 ^ 16 ∧ dmap.length ≤ 256 ∧ members.all deviceOk = true ∧
      s.memberCheck c { coordinator := coord, generation := g, word1 := w1, word0 := w0, dmap := dmap, members := members, drop := drop, instant := t, started := s.now } = some code) ∧
    (∃ (s : State) (c : Nat) (coord g : Nat) (w1 w0 : Word128) (dmap members : List Nat) (drop : Bool) (t : Nat), s.chartWorks c = false ∧ s.awake ∧
      c < 256 ∧ coord < 1024 ∧ g < 2 ^ 16 ∧ dmap.length ≤ 256 ∧ members.all deviceOk = true ∧
      s.memberCheck c { coordinator := coord, generation := g, word1 := w1, word0 := w0, dmap := dmap, members := members, drop := drop, instant := t, started := s.now } = none) := by
  refine ⟨⟨{ member with search := { charts := [(255, { desc1 := cdOf, st := .valid })], cmds := [{ tableCmd 1 with phase := .applying }] } }, 255, 1023, 2 ^ 16 - 1, List.replicate 256 0, [1023], ?_⟩,
    ⟨{ member with search := { charts := [(255, { desc1 := cdOf, st := .valid, span := some (jobOf 3 20000) })] } }, 255, (jobOf 3 20000), 1023, ?_⟩,
    ⟨{ member with search := { charts := [(255, { desc1 := cdOf, st := .valid, span := some (jobOf 3 20000) })] } }, 255, (jobOf 3 20000), 1023, ?_⟩,
    ⟨{ member with search := { charts := [(255, { desc1 := cdOf, st := .valid, span := some (jobOf 3 0) })] } }, 255, (jobOf 3 0), ?_⟩,
    ⟨{ member with search := { charts := [(255, { desc1 := cdOf, st := .valid, span := some (jobOf 5 0) })] } }, 255, (jobOf 5 0), ?_⟩,
    ⟨{ member with search := { charts := [(255, { desc1 := cdOf, st := .valid, span := some (jobOf 5 0) })] } }, 255, (jobOf 5 0), ?_⟩,
    ⟨{ member with search := { charts := [(255, { desc1 := cdOf, st := .valid, span := some { jobOf 3 0 with done := true } })] } }, 255, { jobOf 3 0 with done := true }, ?_⟩,
    ⟨0x3013, member, 255, 1023, 2 ^ 16 - 1, 2 ^ 127 + 3 * 2 ^ 125, 0, List.replicate 256 0, [1023], false, 7, ?_⟩,
    ⟨member, 255, 1023, 2 ^ 16 - 1, cdOf, 0, List.replicate 256 0, [1023], false, 7, ?_⟩⟩ <;> decide +kernel

/-- What `Obligations.CascadeSteps` assumes is met, clause by clause. -/
theorem witness_CascadeSteps :
    (∃ (s : State) (id : Nat) (r : SearchReq), s.awake ∧ (s.search.waiting.find? (fun r => r.id == id && s.isSpan r) = some r)) ∧
    (∃ (s : State) (link : Nat) (chart : Nat) (gen : Nat) (launch : Nat) (stamp : BitVec 32), s.awake ∧ link < 62 ∧ chart < 256 ∧ gen < 2 ^ 16 ∧
      launch < 4096 ∧ s.power.device ≠ .warmResetting ∧ s.partAccepted chart gen stamp = true ∧ cdSpan (s.chart chart).desc1 = 3 ∧
      (s.noteFlightPart (s.flightPeer link) chart launch).2 = 0) ∧
    (∃ (s : State) (link : Nat) (chart : Nat) (gen : Nat) (launch : Nat) (stamp : BitVec 32) (n : Nat) (f : Nat), s.awake ∧ link < 62 ∧ chart < 256 ∧
      gen < 2 ^ 16 ∧ launch < 4096 ∧ s.power.device ≠ .warmResetting ∧ s.partAccepted chart gen stamp = true ∧ cdSpan (s.chart chart).desc1 = 3 ∧
      (s.noteFlightPart (s.flightPeer link) chart launch).2 = n + 1 ∧
      ((s.noteFlightPart (s.flightPeer link) chart launch).1.detoursFor (s.flightPeer link) (s.chart chart))[n]? = some f) ∧
    (∃ (s : State) (id : Nat) (r : SearchReq), s.awake ∧ (s.search.waiting.find? (fun r => r.id == id && r.cls == .cascade) = some r) ∧
      r.arrived + 8 ≤ s.now) ∧
    (∃ (s : State) (link : Nat) (member : Nat) (launch : Nat) (l : Launch), s.awake ∧ link < 128 ∧ member < 1024 ∧ launch < 2 ^ 64 ∧ s.search.parts = [] ∧
      (s.search.launches.find? (fun l => launchField l.launch == launch % 4096 && l.waiting.contains member) = some l) ∧ s.inTime l = true) ∧
    (∃ (s : State) (id : Nat) (p : Part), s.awake ∧ (s.search.parts.find? (fun p => p.id == id && p.relay && p.answer.isNone) = some p) ∧
      State.relayLimit (s.chart p.chart) p ≤ (s.canalTime + 16384 - p.launch * 4) % 16384 ∧ (s.canalTime + 16384 - p.launch * 4) % 16384 < 8192) ∧
    (∃ (s : State) (id : Nat) (l : Launch), s.awake ∧ s.search.launches.find? (·.id == id) = some l ∧ s.releaseAt l ≤ s.canalTime) := by
  refine ⟨⟨{ later with search := { charts := [(255, { desc1 := cdOf + 2 ^ 122, st := .valid })], waiting := [⟨5, 255, 0, .localSearch, .queue 0 0 0, 0, true⟩] } }, 5, ⟨5, 255, 0, .localSearch, .queue 0 0 0, 0, true⟩, ?_⟩,
    ⟨{ detouring with search := { charts := [(255, spanChart)] } }, 8, 255, 2 ^ 16 - 1, 4095, 0, ?_⟩,
    ⟨{ detouring with search := { charts := [(255, spanChart)], lastParts := [(5, 255, 4095, 1)] } }, 8, 255, 2 ^ 16 - 1, 4095, 0, 0, 1, ?_⟩,
    ⟨{ later with search := { waiting := [⟨5, 255, 0, .cascade, .cascade 0, 0, true⟩] } }, 5, ⟨5, 255, 0, .cascade, .cascade 0, 0, true⟩, ?_⟩,
    ⟨{ later with search := { charts := [(255, { desc1 := cdOf + 3 * 2 ^ 122, desc0 := 4095 * 2 ^ 44, st := .valid })], launches := [launchA] } }, 127, 1023, 2 ^ 64 - 1, launchA, ?_⟩,
    ⟨{ later with canalTime := 1182, search := { parts := [partA] } }, 5, partA, ?_⟩,
    ⟨{ later with canalTime := 4095 * 4, search := { launches := [launchA] } }, 5, launchA, ?_⟩⟩ <;> decide +kernel

/-- What `Obligations.QueueSteps` assumes is met, clause by clause. -/
theorem witness_QueueSteps :
    (∃ (s : State) (q : Nat) (port : Nat), s.awake ∧ q < 4096 ∧ port < 128 ∧ (s.queueAt q).entries = [] ∧ (s.queueAt q).st = .draining ∧
      (s.queueAt q).deferredEnable = false) ∧
    (∃ (s : State) (q : Nat) (port : Nat) (v : BitVec 32), s.awake ∧ q < 4096 ∧ port < 128 ∧ qcPort (s.queueAt q).cfg = port ∧ (s.queueAt q).fetches = true ∧
      (fld v 0 17 % (2 * (s.queueAt q).sqSize)) ≠ (s.queueAt q).sqTail % (2 * (s.queueAt q).sqSize) ∧
      ahead (fld v 0 17 % (2 * (s.queueAt q).sqSize)) (s.queueAt q).sqTail (s.queueAt q).sqSize ≤ (s.queueAt q).sqSize - ahead (s.queueAt q).sqTail (s.queueAt q).sqHead (s.queueAt q).sqSize) ∧
    (∃ (s : State) (q : Nat) (port : Nat) (v : BitVec 32), s.awake ∧ q < 4096 ∧ port < 128 ∧ qcPort (s.queueAt q).cfg = port ∧ (s.queueAt q).fetches = true ∧
      (fld v 0 17 % (2 * (s.queueAt q).cqSize)) ≠ (s.queueAt q).cqHead % (2 * (s.queueAt q).cqSize) ∧
      ahead (fld v 0 17 % (2 * (s.queueAt q).cqSize)) (s.queueAt q).cqHead (s.queueAt q).cqSize ≤ ahead (s.queueAt q).cqTail (s.queueAt q).cqHead (s.queueAt q).cqSize) ∧
    (∃ (s : State) (q : Nat) (port : Nat) (off : Nat) (b : List Byte), s.awake ∧ q < 4096 ∧ port < 128 ∧ s.damageAt 374 controlWord = 0 ∧ off < 2 ^ 64 ∧
      0 < b.length ∧ b.length ≤ 4096 ∧ (∀ i < b.length, ∃ a ∈ s.portAreas port false, a.1 ≤ off + i ∧ off + i < a.1 + a.2)) ∧
    (∃ (s : State) (q : Nat) (port : Nat) (off : Nat) (len : Nat), s.awake ∧ q < 4096 ∧ port < 128 ∧ s.damageAt 374 controlWord = 0 ∧ off < 2 ^ 64 ∧
      0 < len ∧ len ≤ 4096 ∧ (∀ i < len, ∃ a ∈ s.portAreas port true, a.1 ≤ off + i ∧ off + i < a.1 + a.2)) ∧
    (∃ (s : State) (q : Nat) (port : Nat), s.awake ∧ q < 4096 ∧ port < 128 ∧ s.queuesRun = true ∧ s.nextServed (q % 32) = some q ∧
      qcHost (s.queueAt q).cfg = true) ∧
    (∃ (s : State) (q : Nat) (port : Nat) (t : QStore) (rest : List QStore), s.awake ∧ q < 4096 ∧ port < 128 ∧ (s.queueAt q).stores = t :: rest ∧
      s.queuesRun = true ∧ t.issued = false ∧ ((s.earlier q t.pos).any (fun b => b.isLoad && !b.ended) = false) ∧ s.processorTakes q = true) ∧
    (∃ (s : State) (q : Nat) (port : Nat) (p : Nat) (r : QResponse), s.awake ∧ q < 4096 ∧ port < 128 ∧ p < 32 ∧
      s.queue.responses.find? (·.queue % 32 == p) = some r) := by
  refine ⟨⟨{ later with queue := { queues := [(4095, { st := .draining })] } }, 4095, 127, ?_⟩,
    ⟨{ later with queue := { queues := [(4095, { cfg := BitVec.ofNat 128 (0 + 127 * 2 ^ 108 + 4 * 2 ^ 120 + 4 * 2 ^ 115 + 128 * 2 ^ 76), st := .active })] } }, 4095, 127, 16, ?_⟩,
    ⟨{ later with queue := { queues := [(4095, { cfg := BitVec.ofNat 128 (0 + 127 * 2 ^ 108 + 4 * 2 ^ 120 + 4 * 2 ^ 115 + 128 * 2 ^ 76), st := .active, cqTail := 16 })] } }, 4095, 127, 16, ?_⟩,
    ⟨{ later with queue := { queues := [(4095, { cfg := BitVec.ofNat 128 (0 + 127 * 2 ^ 108 + 4 * 2 ^ 120 + 4 * 2 ^ 115 + 128 * 2 ^ 76), st := .active, dataBase := 4096, dataSize := 4096 })] } }, 4095, 127, 8128, List.replicate 64 1, ?_⟩,
    ⟨{ later with queue := { queues := [(4095, { cfg := BitVec.ofNat 128 (0 + 127 * 2 ^ 108 + 4 * 2 ^ 120 + 4 * 2 ^ 115 + 128 * 2 ^ 76), st := .active, dataBase := 4096, dataSize := 4096 })] } }, 4095, 127, 8128, 64, ?_⟩,
    ⟨{ later with queue := { queues := [(4095, { cfg := BitVec.ofNat 128 (2 ^ 126 + 127 * 2 ^ 108 + 4 * 2 ^ 120 + 4 * 2 ^ 115 + 128 * 2 ^ 76), st := .active, sqTail := 1 })] } }, 4095, 127, ?_⟩,
    ⟨{ later with queue := { queues := [(4095, { st := .active, stores := [⟨3, 0, 32, 0, false⟩] })] } }, 4095, 127, ⟨3, 0, 32, 0, false⟩, [], ?_⟩,
    ⟨{ later with queue := { responses := [⟨4095, 3, 2, {}, false, 0, false, false, none, none⟩] } }, 4095, 127, 31, ⟨4095, 3, 2, {}, false, 0, false, false, none, none⟩, ?_⟩⟩ <;> decide +kernel

/-- What `Obligations.QueueCommands` assumes is met, clause by clause. -/
theorem witness_QueueCommands :
    (∃ (s : State) (q : Nat) (pos : Nat) (e : QEntry), s.awake ∧ q < 4096 ∧ pos < 2 ^ 32 ∧ s.mayIssue q pos 1 true = some e ∧
      ((s.earlier q pos).any (fun b => b.isLoad && !b.ended) = false) ∧ (s.queueAt q).stores = [] ∧ s.processorTakes q = true) ∧
    (∃ (s : State) (q : Nat) (pos : Nat) (e : QEntry) (f : Nat → Byte), s.awake ∧ q < 4096 ∧ pos < 2 ^ 32 ∧ s.mayIssue q pos 1 true = some e ∧
      ((s.earlier q pos).any (fun b => b.isLoad && !b.ended) = false) ∧ ((s.queueAt q).stores.any (fun t => t.meets e.addr0 e.length) = true) ∧
      s.strictService q = false ∧ e.pair = false ∧ (∀ i < e.length, State.bufferedByte (s.queueAt q).stores (e.addr0 + i) = some (f i))) ∧
    (∃ (s : State) (q : Nat) (pos : Nat) (e : QEntry), s.awake ∧ q < 4096 ∧ pos < 2 ^ 32 ∧ s.mayIssue q pos 2 true = some e ∧
      (s.queueAt q).stores.length < 16 ∧ s.issuedBefore q e = false) ∧
    (∃ (s : State) (q : Nat) (pos : Nat) (e : QEntry), s.awake ∧ q < 4096 ∧ pos < 2 ^ 32 ∧ (s.queueAt q).stores = [] ∧
      ((s.earlier q pos).any (fun b => b.isLoad && !b.ended) = false) ∧ s.processorTakes q = true ∧ s.mayIssue q pos 0x10 true = some e) ∧
    (∃ (s : State) (q : Nat) (pos : Nat) (e : QEntry), s.awake ∧ q < 4096 ∧ pos < 2 ^ 32 ∧ (s.queueAt q).stores = [] ∧
      ((s.earlier q pos).any (fun b => b.isLoad && !b.ended) = false) ∧ s.processorTakes q = true ∧ s.mayIssue q pos 0x11 true = some e) ∧
    (∃ (s : State) (q : Nat) (pos : Nat) (e : QEntry), s.awake ∧ q < 4096 ∧ pos < 2 ^ 32 ∧ (s.queueAt q).stores = [] ∧
      ((s.earlier q pos).any (fun b => b.isLoad && !b.ended) = false) ∧ s.processorTakes q = true ∧ s.mayIssue q pos 0x12 true = some e) ∧
    (∃ (s : State) (q : Nat) (pos : Nat) (e : QEntry), s.awake ∧ q < 4096 ∧ pos < 2 ^ 32 ∧ s.mayIssue q pos 0x20 false = some e) ∧
    (∃ (s : State) (q : Nat) (pos : Nat) (e : QEntry), s.awake ∧ q < 4096 ∧ pos < 2 ^ 32 ∧ s.mayIssue q pos 0x21 false = some e) ∧
    (∃ (s : State) (q : Nat) (pos : Nat) (e : QEntry), s.awake ∧ q < 4096 ∧ pos < 2 ^ 32 ∧ s.mayIssue q pos 0x30 false = some e ∧
      s.chartAllowed q e.chart false = true ∧ cdValid (s.chart e.chart).desc1 = true ∧ cdWidth (s.chart e.chart).desc1 = 0) ∧
    (∃ (s : State) (q : Nat) (pos : Nat) (e : QEntry), s.awake ∧ q < 4096 ∧ pos < 2 ^ 32 ∧ s.mayIssue q pos 0x30 false = some e ∧
      s.chartAllowed q e.chart false = true ∧ cdValid (s.chart e.chart).desc1 = true ∧ cdWidth (s.chart e.chart).desc1 = 1 ∧ e.length = 1) ∧
    (∃ (s : State) (q : Nat) (pos : Nat) (e : QEntry) (keys : List Byte), s.awake ∧ q < 4096 ∧ pos < 2 ^ 32 ∧ s.mayIssue q pos 0x31 false = some e ∧
      s.chartAllowed q e.chart false = true ∧ cdValid (s.chart e.chart).desc1 = true ∧ qcHost (s.queueAt q).cfg = true ∧ keys.length ≤ 4096) ∧
    (∃ (s : State) (q : Nat) (pos : Nat) (e : QEntry) (block : List Byte), s.awake ∧ q < 4096 ∧ pos < 2 ^ 32 ∧ s.mayIssue q pos 0x32 false = some e ∧
      s.chartAllowed q e.chart true = true ∧ qcHost (s.queueAt q).cfg = true ∧ block.length = e.length ∧ block.length ≤ 176 ∧
      s.tableLengthOk e.chart block = true) ∧
    (∃ (s : State) (q : Nat) (pos : Nat) (e : QEntry), s.awake ∧ q < 4096 ∧ pos < 2 ^ 32 ∧ s.entryIn q pos = some e ∧ s.earlier q pos = [] ∧
      s.queuesRun = true ∧ (s.queueAt q).st ≠ .disabled ∧ e.ended = false ∧ e.opcode = 0x40) ∧
    (∃ (s : State) (q : Nat) (pos : Nat) (e : QEntry), s.awake ∧ q < 4096 ∧ pos < 2 ^ 32 ∧ s.entryIn q pos = some e ∧ s.earlier q pos = [] ∧
      s.queuesRun = true ∧ (s.queueAt q).st ≠ .disabled ∧ e.ended = false ∧ e.opcode = 0x41 ∧ s.storesRetired q [] = true) ∧
    (∃ (s : State) (q : Nat) (pos : Nat) (e : QEntry), s.awake ∧ q < 4096 ∧ pos < 2 ^ 32 ∧ s.entryIn q pos = some e ∧ s.earlier q pos = [] ∧
      s.queuesRun = true ∧ (s.queueAt q).st ≠ .disabled ∧ e.ended = false ∧ e.opcode = 0x42 ∧ s.storesRetired q [] = true) := by
  refine ⟨⟨{ later with queue := { queues := [(4095, { cfg := BitVec.ofNat 128 (0 + 127 * 2 ^ 108 + 4 * 2 ^ 120 + 4 * 2 ^ 115 + 128 * 2 ^ 76), st := .active, entries := [{ pos := 2 ^ 32 - 1, opcode := 0x1 }] })] } }, 4095, 2 ^ 32 - 1, { pos := 2 ^ 32 - 1, opcode := 0x1 }, ?_⟩,
    ⟨{ later with queue := { queues := [(4095, { cfg := BitVec.ofNat 128 (0 + 127 * 2 ^ 108 + 4 * 2 ^ 120 + 4 * 2 ^ 115 + 128 * 2 ^ 76), st := .active, stores := [⟨7, 0, 32, 0, false⟩], entries := [{ pos := 2 ^ 32 - 1, opcode := 0x1, length := 32 }] })] } }, 4095, 2 ^ 32 - 1, { pos := 2 ^ 32 - 1, opcode := 0x1, length := 32 }, fun _ => 0, ?_⟩,
    ⟨{ later with queue := { queues := [(4095, { cfg := BitVec.ofNat 128 (0 + 127 * 2 ^ 108 + 4 * 2 ^ 120 + 4 * 2 ^ 115 + 128 * 2 ^ 76), st := .active, entries := [{ pos := 2 ^ 32 - 1, opcode := 0x2 }] })] } }, 4095, 2 ^ 32 - 1, { pos := 2 ^ 32 - 1, opcode := 0x2 }, ?_⟩,
    ⟨{ later with queue := { queues := [(4095, { cfg := BitVec.ofNat 128 (0 + 127 * 2 ^ 108 + 4 * 2 ^ 120 + 4 * 2 ^ 115 + 128 * 2 ^ 76), st := .active, entries := [{ pos := 2 ^ 32 - 1, opcode := 0x10 }] })] } }, 4095, 2 ^ 32 - 1, { pos := 2 ^ 32 - 1, opcode := 0x10 }, ?_⟩,
    ⟨{ later with queue := { queues := [(4095, { cfg := BitVec.ofNat 128 (0 + 127 * 2 ^ 108 + 4 * 2 ^ 120 + 4 * 2 ^ 115 + 128 * 2 ^ 76), st := .active, entries := [{ pos := 2 ^ 32 - 1, opcode := 0x11 }] })] } }, 4095, 2 ^ 32 - 1, { pos := 2 ^ 32 - 1, opcode := 0x11 }, ?_⟩,
    ⟨{ later with queue := { queues := [(4095, { cfg := BitVec.ofNat 128 (0 + 127 * 2 ^ 108 + 4 * 2 ^ 120 + 4 * 2 ^ 115 + 128 * 2 ^ 76), st := .active, entries := [{ pos := 2 ^ 32 - 1, opcode := 0x12 }] })] } }, 4095, 2 ^ 32 - 1, { pos := 2 ^ 32 - 1, opcode := 0x12 }, ?_⟩,
    ⟨{ later with queue := { queues := [(4095, { cfg := BitVec.ofNat 128 (0 + 127 * 2 ^ 108 + 4 * 2 ^ 120 + 4 * 2 ^ 115 + 128 * 2 ^ 76), st := .active, entries := [{ pos := 2 ^ 32 - 1, opcode := 0x20 }] })] } }, 4095, 2 ^ 32 - 1, { pos := 2 ^ 32 - 1, opcode := 0x20 }, ?_⟩,
    ⟨{ later with queue := { queues := [(4095, { cfg := BitVec.ofNat 128 (0 + 127 * 2 ^ 108 + 4 * 2 ^ 120 + 4 * 2 ^ 115 + 128 * 2 ^ 76), st := .active, entries := [{ pos := 2 ^ 32 - 1, opcode := 0x21 }] })] } }, 4095, 2 ^ 32 - 1, { pos := 2 ^ 32 - 1, opcode := 0x21 }, ?_⟩,
    ⟨{ later with queue := { queues := [(4095, { cfg := BitVec.ofNat 128 (0 + 127 * 2 ^ 108 + 4 * 2 ^ 120 + 4 * 2 ^ 115 + 128 * 2 ^ 76), st := .active, entries := [{ pos := 2 ^ 32 - 1, opcode := 0x30, chart := 255 }] })] }, tenant := { psets := [(1, BitVec.allOnes 128), (3, BitVec.allOnes 128)] }, search := { charts := [(255, { desc1 := cdOf + 0, st := .valid })] } }, 4095, 2 ^ 32 - 1, { pos := 2 ^ 32 - 1, opcode := 0x30, chart := 255 }, ?_⟩,
    ⟨{ later with queue := { queues := [(4095, { cfg := BitVec.ofNat 128 (0 + 127 * 2 ^ 108 + 4 * 2 ^ 120 + 4 * 2 ^ 115 + 128 * 2 ^ 76), st := .active, entries := [{ pos := 2 ^ 32 - 1, opcode := 0x30, chart := 255, length := 1 }] })] }, tenant := { psets := [(1, BitVec.allOnes 128), (3, BitVec.allOnes 128)] }, search := { charts := [(255, { desc1 := cdOf + 2 ^ 125, st := .valid })] } }, 4095, 2 ^ 32 - 1, { pos := 2 ^ 32 - 1, opcode := 0x30, chart := 255, length := 1 }, ?_⟩,
    ⟨{ later with queue := { queues := [(4095, { cfg := BitVec.ofNat 128 (2 ^ 126 + 127 * 2 ^ 108 + 4 * 2 ^ 120 + 4 * 2 ^ 115 + 128 * 2 ^ 76), st := .active, entries := [{ pos := 2 ^ 32 - 1, opcode := 0x31, chart := 255 }] })] }, tenant := { psets := [(1, BitVec.allOnes 128), (3, BitVec.allOnes 128)] }, search := { charts := [(255, { desc1 := cdOf + 0, st := .valid })] } }, 4095, 2 ^ 32 - 1, { pos := 2 ^ 32 - 1, opcode := 0x31, chart := 255 }, List.replicate 4096 0, ?_⟩,
    ⟨{ later with queue := { queues := [(4095, { cfg := BitVec.ofNat 128 (2 ^ 126 + 127 * 2 ^ 108 + 4 * 2 ^ 120 + 4 * 2 ^ 115 + 128 * 2 ^ 76), st := .active, entries := [{ pos := 2 ^ 32 - 1, opcode := 0x32, chart := 255, length := 32 }] })] }, tenant := { psets := [(1, BitVec.allOnes 128), (3, BitVec.allOnes 128)] }, search := { charts := [(255, { desc1 := cdOf + 0, st := .valid })] } }, 4095, 2 ^ 32 - 1, { pos := 2 ^ 32 - 1, opcode := 0x32, chart := 255, length := 32 }, List.replicate 32 0, ?_⟩,
    ⟨{ later with queue := { queues := [(4095, { cfg := BitVec.ofNat 128 (0 + 127 * 2 ^ 108 + 4 * 2 ^ 120 + 4 * 2 ^ 115 + 128 * 2 ^ 76), st := .active, entries := [{ pos := 2 ^ 32 - 1, opcode := 0x40 }] })] } }, 4095, 2 ^ 32 - 1, { pos := 2 ^ 32 - 1, opcode := 0x40 }, ?_⟩,
    ⟨{ later with queue := { queues := [(4095, { cfg := BitVec.ofNat 128 (0 + 127 * 2 ^ 108 + 4 * 2 ^ 120 + 4 * 2 ^ 115 + 128 * 2 ^ 76), st := .active, entries := [{ pos := 2 ^ 32 - 1, opcode := 0x41 }] })] } }, 4095, 2 ^ 32 - 1, { pos := 2 ^ 32 - 1, opcode := 0x41 }, ?_⟩,
    ⟨{ later with queue := { queues := [(4095, { cfg := BitVec.ofNat 128 (0 + 127 * 2 ^ 108 + 4 * 2 ^ 120 + 4 * 2 ^ 115 + 128 * 2 ^ 76), st := .active, entries := [{ pos := 2 ^ 32 - 1, opcode := 0x42 }] })] } }, 4095, 2 ^ 32 - 1, { pos := 2 ^ 32 - 1, opcode := 0x42 }, ?_⟩⟩ <;> decide +kernel

/-- What `Obligations.FaultSteps` assumes is met, clause by clause. -/
theorem witness_FaultSteps :
    (∃ (s : State) (n : Nat), s.awake ∧ n < 384 ∧ s.reg 0x4200 2 ≠ 0 ∧ (s.scrubOf n).word < scrubReads n ∧ s.scrubHeld n (s.scrubOf n).word = false) ∧
    (∃ (s : State) (n : Nat), s.awake ∧ (scrubStores.find? (fun b => !(s.scrubOf b).late && decide ((s.scrubOf b).began + s.scrubPeriod ≤ s.now)) = some n)) ∧
    (∃ (s : State) (n : Nat), s.awake ∧ n < 15 ∧ s.leakDue n (s.regAt 0x4211 3 n) = true) ∧
    (∃ (s : State) (port : Nat), s.awake ∧ port < 128 ∧ s.mgmt.dead = false ∧ Table.get 0 s.ras.hostPending port ≠ 0 ∧ s.portRole port = 1 ∧
      (s.port port).st = .up ∧ Table.get 0 s.ras.hostNotified port = 0) ∧
    (∃ (s : State), s.awake) ∧
    (∃ (s : State) (n : Nat), s.awake ∧ n ∈ s.ras.fwRestore) ∧
    (∃ (s : State) (n : Nat), s.awake ∧ n < 40960 ∧ n ∈ s.tenant.regRestore ∧ s.tenant.heldReleases = []) ∧
    (∃ (s : State) (cores : BitVec 4), s.awake ∧ cores &&& ~~~s.mgmt.deadCores ≠ 0) ∧
    (∃ (s : State), s.awake) ∧
    (∃ (s : State) (ring : Nat), s.awake ∧ ring < 16 ∧ s.counter.lastInstant < s.canalTime / s.dumpBase * s.dumpBase) ∧
    (∃ (s : State) (ring : Nat) (d : DumpRecord), s.awake ∧ ring < 16 ∧ (s.ring ring).record = some d ∧ d.instant + s.dumpBase ≤ s.canalTime) ∧
    (∃ (s : State) (ring : Nat) (port : Nat), s.awake ∧ ring < 16 ∧ port < 128 ∧ drPort (s.ring ring).cfg = port) := by
  refine ⟨⟨later, 369, ?_⟩,
    ⟨{ live with now := 10 ^ 18 }, 0, ?_⟩,
    ⟨{ live with now := 10 ^ 18 }, 14, ?_⟩,
    ⟨{ upLast with ras := { hostPending := [(127, 1)] } }, 127, ?_⟩,
    ⟨later, ?_⟩,
    ⟨{ later with ras := { fwRestore := [786432] } }, 786432, ?_⟩,
    ⟨{ later with tenant := { regRestore := [40959] } }, 40959, ?_⟩,
    ⟨later, 0xF, ?_⟩,
    ⟨later, ?_⟩,
    ⟨{ live with canalTime := 10 ^ 10 }, 15, ?_⟩,
    ⟨{ live with canalTime := 10 ^ 10, counter := { rings := [(15, { record := some ⟨0, [], 0⟩ })] } }, 15, ⟨0, [], 0⟩, ?_⟩,
    ⟨{ live with counter := { rings := [(15, { cfg := BitVec.ofNat 128 (127 * 2 ^ 112) })] } }, 15, 127, ?_⟩⟩ <;> decide +kernel

/-- What `Obligations.PortSteps` assumes is met, clause by clause. -/
theorem witness_PortSteps :
    (∃ (s : State) (port : Nat), s.awake ∧ port < 128 ∧ s.portRole port = 1 ∧ (s.port port).st = .up) ∧
    (∃ (s : State) (port : Nat), s.awake ∧ port < 128 ∧ (s.port port).st = .resetting ∧ s.portBusy port = false) ∧
    (∃ (s : State) (port : Nat) (code : Nat) (lanes : Nat), s.awake ∧ port < 128 ∧ code < 3 ∧ lanes ≤ 16 ∧ pcEnable (s.port port).cfg = true ∧
      (s.port port).st = .down ∧ State.widthOf (4 * pcQuads (s.port port).cfg) lanes ≠ 0 ∧ s.testMode ≠ 1 ∧ s.isFatal = false) ∧
    (∃ (s : State) (port : Nat), s.awake ∧ port < 128 ∧ (s.port port).st = .enumerating) ∧
    (∃ (s : State) (port : Nat), s.awake ∧ port < 128 ∧ s.portRole port = 2 ∧
      ((s.port port).st = .up ∨ (s.port port).st = .enumerating ∨ (s.port port).st = .failed)) ∧
    (∃ (base : Nat), base < 2 ^ 64 ∧ base % 2 ^ 52 = 0) := by
  refine ⟨⟨{ later with link := { quads := [(127, 1)], ports := [(127, { cfg := BitVec.ofNat 32 (2 ^ 31 + 127 * 2 ^ 22), st := .up })] } }, 127, ?_⟩,
    ⟨{ later with link := { quads := [(127, 2)], ports := [(127, { cfg := BitVec.ofNat 32 (2 ^ 31 + 127 * 2 ^ 22), st := .resetting })] } }, 127, ?_⟩,
    ⟨{ later with link := { quads := [(127, 2)], ports := [(127, { cfg := BitVec.ofNat 32 (2 ^ 31 + 127 * 2 ^ 22), st := .down })] } }, 127, 2, 16, ?_⟩,
    ⟨{ later with link := { quads := [(127, 2)], ports := [(127, { cfg := BitVec.ofNat 32 (2 ^ 31 + 127 * 2 ^ 22), st := .enumerating })] } }, 127, ?_⟩,
    ⟨{ later with link := { quads := [(127, 2)], ports := [(127, { cfg := BitVec.ofNat 32 (2 ^ 31 + 127 * 2 ^ 22), st := .enumerating })] } }, 127, ?_⟩,
    ⟨4095 * 2 ^ 52, ?_⟩⟩ <;> decide +kernel

/-- What `Obligations.LinkSteps` assumes is met, clause by clause. -/
theorem witness_LinkSteps :
    (∃ (s : State) (l : Nat), s.awake ∧ l < 128 ∧ ((s.linkAt l).st = .down ∨ (s.linkAt l).st = .miswired) ∧ s.linkUsable l = true ∧
      (s.linkAt l).retryAt ≤ s.now ∧ s.testMode ≠ 2) ∧
    (∃ (s : State) (l : Nat), s.awake ∧ l < 128 ∧ ((s.linkAt l).st = .training ∨ (s.linkAt l).st = .identify ∨ (s.linkAt l).st = .measure)) ∧
    (∃ (s : State) (l : Nat) (r : IdentifyRecord), s.awake ∧ l < 128 ∧ r.device < 1024 ∧ r.link < 128 ∧
      ((s.linkAt l).st = .training ∨ (s.linkAt l).st = .identify)) ∧
    (∃ (s : State) (l : Nat) (leg : Nat), s.awake ∧ l < 128 ∧ (s.linkAt l).st = .measure ∧ leg ≤ 55000) ∧
    (∃ (s : State) (l : Nat) (leg : Nat), s.awake ∧ l < 128 ∧ (s.linkAt l).st = .measure ∧ 55000 < leg) ∧
    (∃ (s : State) (l : Nat) (f : Flit) (fec : Nat), s.awake ∧ l < 128 ∧ ((s.linkAt l).st = .active ∨ (s.linkAt l).st = .activeSlow) ∧ fec ≤ 30 ∧
      s.testMode ≠ 2 ∧ flGood f = false) ∧
    (∃ (s : State) (l : Nat) (f : Flit) (fec : Nat), s.awake ∧ l < 128 ∧ ((s.linkAt l).st = .active ∨ (s.linkAt l).st = .activeSlow) ∧ fec ≤ 30 ∧
      s.testMode ≠ 2 ∧ flGood f = true ∧ flType f ≤ 3) ∧
    (∃ (s : State) (l : Nat), s.awake ∧ l < 128 ∧ ((s.linkAt l).st = .active ∨ (s.linkAt l).st = .activeSlow) ∧ (s.linkAt l).retry ≠ [] ∧
      (s.linkAt l).ackedAt + 1000 ≤ s.now) ∧
    (∃ (s : State) (l : Nat), s.awake ∧ l < 128 ∧ ((s.linkAt l).st = .active ∨ (s.linkAt l).st = .activeSlow) ∧ (s.linkAt l).lastValid + 200 ≤ s.now) ∧
    (∃ (s : State) (l : Nat), s.awake ∧ l < 128 ∧ ((s.linkAt l).st = .active ∨ (s.linkAt l).st = .activeSlow)) ∧
    (∃ (s : State) (l : Nat), s.awake ∧ l < 128 ∧ (s.linkAt l).st ≠ .active ∧ (s.linkAt l).st ≠ .activeSlow ∧ (s.linkAt l).downAt + 64000 ≤ s.now) ∧
    (∃ (s : State) (l : Nat), s.awake ∧ l < 128 ∧ (s.linkAt l).downAt + 64000 ≤ s.now ∧ (s.linkAt l).resend ≠ [] ∧
      (∀ m ∈ (s.linkAt l).resend, ∀ d parity, m.dest = some (d, parity) → s.pathTo d parity = none)) ∧
    (∃ (s : State) (l : Nat), s.awake ∧ l < 128 ∧ (s.link.nextVectorSend ≤ s.now ∨ s.ownVector ≠ s.link.sentVector)) ∧
    (∃ (s : State) (l : Nat) (d : Nat), s.awake ∧ l < 128 ∧ d < 1024) := by
  refine ⟨⟨{ later with link := { links := [(63, { st := .down })] } }, 63, ?_⟩,
    ⟨{ later with link := { links := [(127, { st := .training })] } }, 127, ?_⟩,
    ⟨{ later with link := { links := [(127, { st := .identify })] } }, 127, ⟨1023, 127, 0, 0, 0, 0, 0⟩, ?_⟩,
    ⟨{ later with link := { links := [(127, { st := .measure })] } }, 127, 55000, ?_⟩,
    ⟨{ later with link := { links := [(127, { st := .measure })] } }, 127, 55001, ?_⟩,
    ⟨{ later with link := { links := [(127, { st := .active })] } }, 127, 1, 30, ?_⟩,
    ⟨{ later with link := { links := [(127, { st := .activeSlow })] } }, 127, mkFlit 0, 30, ?_⟩,
    ⟨{ later with link := { links := [(127, { st := .active, retry := [⟨0, 0, { msg := [] }⟩] })] } }, 127, ?_⟩,
    ⟨{ later with link := { links := [(127, { st := .active })] } }, 127, ?_⟩,
    ⟨{ later with link := { links := [(127, { st := .active })] } }, 127, ?_⟩,
    ⟨{ later with link := { links := [(127, { st := .down })] } }, 127, ?_⟩,
    ⟨{ later with link := { links := [(127, { resend := [{ msg := [] }] })] } }, 127, ?_⟩,
    ⟨later, 127, ?_⟩,
    ⟨later, 127, 1023, ?_⟩⟩
  · decide +kernel
  · decide +kernel
  · decide +kernel
  · decide +kernel
  · decide +kernel
  · decide +kernel
  · decide +kernel
  · decide +kernel
  · decide +kernel
  · decide +kernel
  · decide +kernel
  · refine ⟨by decide +kernel, by decide +kernel, by decide +kernel, by decide +kernel, ?_⟩
    intro m h d parity e
    simp_all [State.linkAt, Table.get]
  · decide +kernel
  · decide +kernel

/-- What `Obligations.TimeSteps` assumes is met, clause by clause. -/
theorem witness_TimeSteps :
    (∃ (s : State), s.awake ∧ s.canal.nextTimeSend ≤ s.now) ∧
    (∃ (s : State) (l : Nat) (t1 : Nat) (t2 : Nat) (t3 : Nat) (t4 : Nat), s.awake ∧ l < 128 ∧ t1 < 2 ^ 72 ∧ t2 < 2 ^ 72 ∧ t3 < 2 ^ 72 ∧ t4 < 2 ^ 72 ∧
      ((s.linkAt l).st = .active ∨ (s.linkAt l).st = .activeSlow) ∧ s.canal.upstream ≠ some l) ∧
    (∃ (s : State) (l : Nat) (t1 : Nat) (t2 : Nat) (t3 : Nat) (t4 : Nat), s.awake ∧ l < 128 ∧ t1 < 2 ^ 72 ∧ t2 < 2 ^ 72 ∧ t3 < 2 ^ 72 ∧ t4 < 2 ^ 72 ∧
      ((s.linkAt l).st = .active ∨ (s.linkAt l).st = .activeSlow) ∧ s.canal.upstream = some l ∧ s.canal.timeState ≠ .acquiring) ∧
    (∃ (s : State) (l : Nat) (t1 : Nat) (t2 : Nat) (t3 : Nat) (t4 : Nat), s.awake ∧ l < 128 ∧ t1 < 2 ^ 72 ∧ t2 < 2 ^ 72 ∧ t3 < 2 ^ 72 ∧ t4 < 2 ^ 72 ∧
      ((s.linkAt l).st = .active ∨ (s.linkAt l).st = .activeSlow) ∧ s.canal.upstream = some l ∧ s.canal.timeState = .acquiring ∧
      (State.offsetOf t1 t2 t3 t4).natAbs ≤ 1024000) ∧
    (∃ (s : State), s.awake ∧ s.canal.timeState = .acquiring ∧ s.canal.lockMissed = false ∧ s.canal.acquiringAt + s.reg 0x1200 6 * 1000000 ≤ s.now) ∧
    (∃ (s : State), s.awake ∧ s.canal.pps.lastEdge = none) ∧
    (∃ (s : State) (t : Nat), s.awake ∧ s.canal.pps.lastEdge = some t ∧ t + 2000000000 < s.now) ∧
    (∃ (s : State) (t : Nat), s.awake ∧ s.canal.pps.lastEdge = some t ∧ t + 999900000 ≤ s.now ∧ s.now ≤ t + 1000100000) ∧
    (∃ (s : State) (t : Nat), s.awake ∧ s.canal.pps.lastEdge = some t ∧ (s.now < t + 999900000 ∨ (t + 1000100000 < s.now ∧ s.now ≤ t + 2000000000))) ∧
    (∃ (s : State), s.awake ∧ s.canal.pps.stuck = false ∧ s.canal.pps.lastAny.getD s.power.windowAt + 2000000000 < s.now ∧ s.canal.pps.qualified = false) ∧
    (∃ (s : State), s.awake ∧ s.canal.pps.stuck = false ∧ s.canal.pps.lastAny.getD s.power.windowAt + 2000000000 < s.now ∧ s.canal.pps.qualified = true) := by
  refine ⟨⟨later, ?_⟩,
    ⟨{ later with link := { links := [(127, { st := .active })] }, canal := {  } }, 127, 2 ^ 72 - 1, 2 ^ 72 - 1, 2 ^ 72 - 1, 2 ^ 72 - 1, ?_⟩,
    ⟨{ later with link := { links := [(127, { st := .active })] }, canal := { upstream := some 127 } }, 127, 2 ^ 72 - 1, 2 ^ 72 - 1, 2 ^ 72 - 1, 2 ^ 72 - 1, ?_⟩,
    ⟨{ later with link := { links := [(127, { st := .active })] }, canal := { upstream := some 127, timeState := .acquiring } }, 127, 2 ^ 72 - 1, 2 ^ 72 - 1, 2 ^ 72 - 1, 2 ^ 72 - 1, ?_⟩,
    ⟨{ later with canal := { timeState := .acquiring } }, ?_⟩,
    ⟨later, ?_⟩,
    ⟨{ later with canal := { pps := { lastEdge := some (10 ^ 10 - 2000000001) } } }, 10 ^ 10 - 2000000001, ?_⟩,
    ⟨{ later with canal := { pps := { lastEdge := some (10 ^ 10 - 1000100000) } } }, 10 ^ 10 - 1000100000, ?_⟩,
    ⟨{ later with canal := { pps := { lastEdge := some (10 ^ 10 - 1000100001) } } }, 10 ^ 10 - 1000100001, ?_⟩,
    ⟨later, ?_⟩,
    ⟨{ later with canal := { pps := { qualified := true } } }, ?_⟩⟩ <;> decide +kernel

/-- What `Obligations.MembershipSteps` assumes is met, clause by clause. -/
theorem witness_MembershipSteps :
    (∃ (s : State) (d : Nat), s.awake ∧ d < 1024 ∧ s.canal.nextPublish ≤ s.now ∧ s.power.device = .running ∧ s.testMode = 0) ∧
    (∃ (s : State) (d : Nat) (r : MemberRecord), s.awake ∧ d < 1024 ∧ r.device < 1024 ∧ r.leader < 1024 ∧ r.state < 5 ∧ r.device ≠ s.deviceNumber) ∧
    (∃ (s : State) (d : Nat), s.awake ∧ d < 1024 ∧ s.canal.active = [s.deviceNumber, d] ∧ s.deviceNumber ≠ d ∧ s.canal.member = .active ∧
      s.canal.peers = [] ∧ s.canal.leader = s.deviceNumber) ∧
    (∃ (s : State) (d : Nat) (e : Nat) (l : Nat) (ms : List Nat), s.awake ∧ d < 1024 ∧ s.canal.epoch < e ∧ e < 2 ^ 32 ∧ s.canal.pending = none ∧
      l ≠ s.deviceNumber ∧ l < 1024 ∧ ms.all deviceOk = true) ∧
    (∃ (s : State) (d : Nat) (p : PendingEpoch), s.awake ∧ d < 1024 ∧ s.canal.set = none ∧ s.canal.pending = some p ∧ p.instant ≤ s.canalTime) ∧
    (∃ (s : State) (d : Nat), s.awake ∧ d < 1024 ∧ s.canal.quarantined = [d] ∧ s.canal.duplicates = [] ∧ s.canal.member ≠ .quarantined ∧
      s.canal.nextQuarReport ≤ s.now) ∧
    (∃ (s : State) (d : Nat) (v : PeerView), s.awake ∧ d < 1024 ∧ s.canal.quarantined = [] ∧ s.canal.duplicates = [(d, v)] ∧ s.now < v.heard + 3000000 ∧
      s.canal.member ≠ .quarantined ∧ s.canal.nextQuarReport ≤ s.now) ∧
    (∃ (s : State) (d : Nat) (j : CanalSetJob), s.awake ∧ d < 1024 ∧ s.canal.set = some j ∧ d ∈ j.unconfirmed ∧ j.started + 1000000 ≤ s.now) := by
  refine ⟨⟨later, 1023, ?_⟩,
    ⟨later, 1023, ⟨1023, 4, 1023, 0, 0, 0, 0, 0, 0, 0, false, false, false, 0⟩, ?_⟩,
    ⟨{ member with canal := { member := .active, active := [3, 1023], leader := 3 } }, 1023, ?_⟩,
    ⟨later, 1023, 2 ^ 32 - 1, 1023, [1023], ?_⟩,
    ⟨{ later with canal := { pending := some ⟨1, 0, [], 0⟩ } }, 1023, ⟨1, 0, [], 0⟩, ?_⟩,
    ⟨{ later with canal := { quarantined := [1023] } }, 1023, ?_⟩,
    ⟨{ later with canal := { duplicates := [(1023, ⟨⟨1023, 4, 1023, 0, 0, 0, 0, 0, 0, 0, false, false, false, 0⟩, 10 ^ 10 - 2999999⟩)] } }, 1023, ⟨⟨1023, 4, 1023, 0, 0, 0, 0, 0, 0, 0, false, false, false, 0⟩, 10 ^ 10 - 2999999⟩, ?_⟩,
    ⟨{ later with canal := { set := some ⟨6, 0x5201, 3, 8, 0, [1023], 0, false⟩ } }, 1023, ⟨6, 0x5201, 3, 8, 0, [1023], 0, false⟩, ?_⟩⟩ <;> decide +kernel

/-- What `Obligations.PinSteps` assumes is met, clause by clause. -/
theorem witness_PinSteps :
    (∃ (lowNs : Nat), 1000 ≤ lowNs) ∧
    (∃ (s : State), s.power.device = .starting ∧ s.power.cold = none ∧ s.power.thermtrip = false) ∧
    (∃ (s : State), s.power.avsAcked = false ∧ s.power.avsSent + 10000 ≤ s.now) ∧
    (∃ (s : State) (c : ColdPending), s.power.cold = some c ∧ c.halted = false) ∧
    (∃ (s : State) (n : Nat) (celsius : Int), n < 16 ∧ celsius < 0 ∧ s.power.avsRaised = false ∧ s.power.sensors = [] ∧ s.awake) ∧
    (∃ (s : State) (lowNs : Nat) (edges : Nat), 200 ≤ lowNs ∧ edges ≤ 4 ∧ s.power.pfailStuck = false) := by
  refine ⟨⟨1000, ?_⟩,
    ⟨{ later with power := { device := .starting } }, ?_⟩,
    ⟨{ later with power := { device := .starting, avsAcked := false } }, ?_⟩,
    ⟨{ later with power := { device := .starting, avsAcked := false, cold := some {} } }, {}, ?_⟩,
    ⟨later, 15, -1, ?_⟩,
    ⟨later, 200, 4, ?_⟩⟩ <;> decide +kernel

/-- What `Obligations.PowerSteps` assumes is met, clause by clause. -/
theorem witness_PowerSteps :
    (∃ (s : State), s.power.device = .window ∧ s.reg 0x6000 4 ≠ 0 ∧ s.power.windowAt + s.reg 0x6000 4 * 1000000 ≤ s.now) ∧
    (∃ (s : State) (bad : List Nat), s.power.device = .warmResetting ∧ s.power.warmDrained = false ∧ s.power.warmAt + 100000 ≤ s.now ∧
      ((bad.all fun c => decide (c < 689)) = true)) ∧
    (∃ (s : State), s.power.device = .warmResetting ∧ s.power.warmDrained = true) ∧
    (∃ (s : State), s.power.device = .pfDraining ∧ s.power.pfAt + s.inEffect 0x6010 2 * 1000 ≤ s.now) ∧
    (∃ (s : State), s.power.pfailLow = true ∧ s.power.pfailStuck = false ∧ s.power.windowAt + 10000000 ≤ s.now ∧ s.isFatal = false ∧
      s.power.device = .running) := by
  refine ⟨⟨{ window with now := 10 ^ 15, regs := [(0x600004 * 65536, 1)] }, ?_⟩,
    ⟨{ later with power := { device := .warmResetting } }, [688], ?_⟩,
    ⟨{ later with power := { device := .warmResetting, warmDrained := true } }, ?_⟩,
    ⟨{ later with power := { device := .pfDraining } }, ?_⟩,
    ⟨{ later with power := { device := .running, windowOpen := false, pfailLow := true } }, ?_⟩⟩ <;> decide +kernel

/-- What `Obligations.IdlePassesCycle` assumes is met, clause by clause. -/
theorem witness_IdlePassesCycle :
    ∃ (s : State), s.pending = [] ∧ s.power.device = .starting := by
  refine ⟨{ power := { device := .starting } }, ?_⟩
  decide +kernel

/-- What `Obligations.StepKeepsInvariant` assumes is met, clause by clause. -/
theorem witness_StepKeepsInvariant :
    (∃ (s t : State), s.Inv ∧ s.pending = [.fill 63 5] ∧ step s = .next t) ∧
    (∃ (s t : State), s.Inv ∧ s.pending = [] ∧ step s = .next t) :=
  ⟨⟨{ live with pending := [.fill 63 5] }, _, by unfold State.Inv; decide +kernel, rfl, rfl⟩,
    ⟨live, _, by unfold State.Inv; decide +kernel, rfl, rfl⟩⟩

/-- What `Obligations.OnlyIllFormedCommandsStop` assumes is met, clause by clause. -/
theorem witness_OnlyIllFormedCommandsStop :
    (∃ (i : Instr), i.wellFormed = true) ∧
    (∃ (i : Instr), i.wellFormed = false) := by
  refine ⟨⟨.fill 63 5, ?_⟩,
    ⟨.fill 64 5, ?_⟩⟩ <;> decide +kernel

/-- What `Obligations.QueueAndHistoryStand` assumes is met, clause by clause. -/
theorem witness_QueueAndHistoryStand :
    ∃ (i : Instr) (s t : State), s.out = [.avs 900] ∧ s.pending = [.avsAck] ∧ exec i s = .next t :=
  ⟨.getEndpointId, { live with out := [.avs 900], pending := [.avsAck] }, _, rfl, rfl, rfl⟩

/-- What `Obligations.StoppedDeviceIsQuiet` assumes is met, clause by clause. -/
theorem witness_StoppedDeviceIsQuiet :
    (∃ (s t : State), step s = .next t ∧ s.isFatal = true) ∧
    (∃ (s t : State), step s = .next t ∧ s.power.device = .pfDraining) :=
  ⟨⟨{ power := { device := .fatal }, pending := [.fill 63 5] }, _, rfl, by decide +kernel⟩,
    ⟨{ power := { device := .pfDraining }, pending := [.fill 63 5] }, _, rfl, by decide +kernel⟩⟩

/-- What `Obligations.FaultNStands` assumes is met, clause by clause. -/
theorem witness_FaultNStands :
    (∃ (s : State) (e : Event), e.cls = .deviceFatal ∧ s.ras.faultN = false) ∧
    (∃ (s t : State), (∀ c ∈ s.pending.head?, resetsCold c = false) ∧ step s = .next t ∧ s.ras.faultN = true ∧ s.isFatal = true) ∧
    (∃ (s : State) (c : Client) (g : Nat), cmdOk c g = true ∧ s.mayWrite c 0x1F00 1 none = true ∧ s.power.device = .fatal ∧ s.mgmt.cmds = []) := by
  refine ⟨⟨live, { code := 0xB002, cls := .deviceFatal }, ?_⟩,
    ⟨{ power := { device := .fatal }, ras := { faultN := true }, pending := [.fill 63 5] }, _, by decide +kernel, rfl, by decide +kernel, by decide +kernel⟩,
    ⟨{ power := { device := .fatal } }, me, 2 ^ 16 - 1, ?_⟩⟩ <;> decide +kernel

/-- What `Obligations.StrapsHold` assumes is met, clause by clause. -/
theorem witness_StrapsHold :
    (∃ (s t : State), s.power.device = .starting ∧ s.power.cold = none ∧ s.power.thermtrip = false ∧
      exec (.resetNRelease 0xFFFFFFF [] [] [] true) s = .next t) ∧
    (∃ (s t : State), (∀ c ∈ s.pending.head?, resetsCold c = false) ∧ step s = .next t) :=
  ⟨⟨{ power := { device := .starting } }, _, rfl, rfl, rfl, rfl⟩,
    ⟨{ live with pending := [.fill 63 5] }, _, by decide +kernel, rfl⟩⟩

/-- What `Obligations.HeldInResetIsDeaf` assumes is met, clause by clause. -/
theorem witness_HeldInResetIsDeaf :
    ∃ (i : Instr) (s : State), s.power.device = .starting ∧ i.wellFormed = true ∧ inReset i = false := by
  refine ⟨.fill 63 5, { power := { device := .starting } }, ?_⟩
  decide +kernel

/-- What `Obligations.HomeOfAddress` assumes is met, clause by clause. -/
theorem witness_HomeOfAddress :
    ∃ (dpa b : Nat), dpa < 2 ^ 45 ∧ 10 ≤ b ∧ b < 45 := by
  refine ⟨2 ^ 45 - 1, 44, ?_⟩
  decide +kernel

/-- What `Obligations.CodeCorrectsOneDetectsTwo` assumes is met, clause by clause. -/
theorem witness_CodeCorrectsOneDetectsTwo :
    ∃ (p q : Nat), p < q ∧ q < 138 := by
  refine ⟨136, 137, ?_⟩
  decide +kernel

/-- What `Obligations.BestMatchWins` assumes is met, clause by clause. -/
theorem witness_BestMatchWins :
    (∃ (s : State) (c width i : Nat) (r : Row) (banks : List Nat) (key : BitVec 512), (s.bestMatch c width banks key).1 = some (i, r) ∧
      (s.bestMatch c width banks key).2 = 2) ∧
    (∃ (s : State) (c i : Nat) (r : Row) (key : BitVec 512), s.chartServes c = true ∧ (s.chart c).badWord = false ∧ s.ras.damage = [] ∧
      i / 2 ∉ s.search.datumPoison ∧ (s.bestMatch c (cdWidth (s.chart c).desc1) (firedBanks (s.chart c).desc1 (s.chart c).gmap key) key).1 = some (i, r)) := by
  refine ⟨⟨matching, 255, 0, 65537, matchRow 9, [4], 0, ?_⟩,
    ⟨matching, 255, 65537, matchRow 9, 0, ?_⟩⟩ <;> decide +kernel

/-- What `Obligations.DoorbellsStatePositions` assumes is met, clause by clause. -/
theorem witness_DoorbellsStatePositions :
    (∃ (s : State) (q port : Nat) (v : BitVec 32), s.awake ∧ q < 4096 ∧ port < 128 ∧ qcPort (s.queueAt q).cfg = port ∧ (s.queueAt q).fetches = true ∧
      fld v 0 17 % (2 * (s.queueAt q).sqSize) = (s.queueAt q).sqTail % (2 * (s.queueAt q).sqSize)) ∧
    (∃ (s : State) (q port : Nat) (v : BitVec 32), s.awake ∧ q < 4096 ∧ port < 128 ∧ qcPort (s.queueAt q).cfg = port ∧ (s.queueAt q).fetches = true ∧
      fld v 0 17 % (2 * (s.queueAt q).sqSize) ≠ (s.queueAt q).sqTail % (2 * (s.queueAt q).sqSize) ∧
      ahead (fld v 0 17 % (2 * (s.queueAt q).sqSize)) (s.queueAt q).sqTail (s.queueAt q).sqSize ≤ (s.queueAt q).sqSize - ahead (s.queueAt q).sqTail (s.queueAt q).sqHead (s.queueAt q).sqSize) ∧
    (∃ (s : State) (q port : Nat) (v : BitVec 32), s.awake ∧ q < 4096 ∧ port < 128 ∧ qcPort (s.queueAt q).cfg = port ∧ (s.queueAt q).fetches = true ∧
      fld v 0 17 % (2 * (s.queueAt q).sqSize) ≠ (s.queueAt q).sqTail % (2 * (s.queueAt q).sqSize) ∧
      (s.queueAt q).sqSize - ahead (s.queueAt q).sqTail (s.queueAt q).sqHead (s.queueAt q).sqSize < ahead (fld v 0 17 % (2 * (s.queueAt q).sqSize)) (s.queueAt q).sqTail (s.queueAt q).sqSize) ∧
    (∃ (s : State) (q port : Nat), s.awake ∧ q < 4096 ∧ port < 128 ∧ qcPort (s.queueAt q).cfg = port ∧ (s.queueAt q).fetches = false) ∧
    (∃ (s : State) (q port : Nat) (v : BitVec 32), s.awake ∧ q < 4096 ∧ port < 128 ∧ qcPort (s.queueAt q).cfg = port ∧ (s.queueAt q).fetches = true ∧
      fld v 0 17 % (2 * (s.queueAt q).cqSize) = (s.queueAt q).cqHead % (2 * (s.queueAt q).cqSize)) ∧
    (∃ (s : State) (q port : Nat) (v : BitVec 32), s.awake ∧ q < 4096 ∧ port < 128 ∧ qcPort (s.queueAt q).cfg = port ∧ (s.queueAt q).fetches = true ∧
      fld v 0 17 % (2 * (s.queueAt q).cqSize) ≠ (s.queueAt q).cqHead % (2 * (s.queueAt q).cqSize) ∧
      ahead (fld v 0 17 % (2 * (s.queueAt q).cqSize)) (s.queueAt q).cqHead (s.queueAt q).cqSize ≤ ahead (s.queueAt q).cqTail (s.queueAt q).cqHead (s.queueAt q).cqSize) ∧
    (∃ (s : State) (q port : Nat) (v : BitVec 32), s.awake ∧ q < 4096 ∧ port < 128 ∧ qcPort (s.queueAt q).cfg = port ∧ (s.queueAt q).fetches = true ∧
      fld v 0 17 % (2 * (s.queueAt q).cqSize) ≠ (s.queueAt q).cqHead % (2 * (s.queueAt q).cqSize) ∧
      ahead (s.queueAt q).cqTail (s.queueAt q).cqHead (s.queueAt q).cqSize < ahead (fld v 0 17 % (2 * (s.queueAt q).cqSize)) (s.queueAt q).cqHead (s.queueAt q).cqSize) ∧
    (∃ (v w : BitVec 32), fld w 0 17 = fld v 0 17) ∧
    (∃ (s t u : State) (q port : Nat) (v : BitVec 32), s.awake ∧ q < 4096 ∧ port < 128 ∧ qcPort (s.queueAt q).cfg = port ∧
      exec (.sqTailDoorbell port q v) s = .next t ∧ exec (.sqTailDoorbell port q v) t = .next u) ∧
    (∃ (s t u : State) (q port : Nat) (v : BitVec 32), s.awake ∧ q < 4096 ∧ port < 128 ∧ qcPort (s.queueAt q).cfg = port ∧
      exec (.cqHeadDoorbell port q v) s = .next t ∧ exec (.cqHeadDoorbell port q v) t = .next u) := by
  refine ⟨⟨{ live with queue := { queues := [(4095, { cfg := BitVec.ofNat 128 (127 * 2 ^ 108 + 4 * 2 ^ 120 + 4 * 2 ^ 115 + 128 * 2 ^ 76), st := .active, sqTail := 31 })] } }, 4095, 127, 31, ?_⟩,
    ⟨{ live with queue := { queues := [(4095, { cfg := BitVec.ofNat 128 (127 * 2 ^ 108 + 4 * 2 ^ 120 + 4 * 2 ^ 115 + 128 * 2 ^ 76), st := .active })] } }, 4095, 127, 16, ?_⟩,
    ⟨{ live with queue := { queues := [(4095, { cfg := BitVec.ofNat 128 (127 * 2 ^ 108 + 4 * 2 ^ 120 + 4 * 2 ^ 115 + 128 * 2 ^ 76), st := .active })] } }, 4095, 127, 17, ?_⟩,
    ⟨{ live with queue := { queues := [(4095, { cfg := BitVec.ofNat 128 (127 * 2 ^ 108 + 4 * 2 ^ 120 + 4 * 2 ^ 115 + 128 * 2 ^ 76), st := .halted })] } }, 4095, 127, ?_⟩,
    ⟨{ live with queue := { queues := [(4095, { cfg := BitVec.ofNat 128 (127 * 2 ^ 108 + 4 * 2 ^ 120 + 4 * 2 ^ 115 + 128 * 2 ^ 76), st := .active, cqHead := 31 })] } }, 4095, 127, 31, ?_⟩,
    ⟨{ live with queue := { queues := [(4095, { cfg := BitVec.ofNat 128 (127 * 2 ^ 108 + 4 * 2 ^ 120 + 4 * 2 ^ 115 + 128 * 2 ^ 76), st := .active, cqTail := 16 })] } }, 4095, 127, 16, ?_⟩,
    ⟨{ live with queue := { queues := [(4095, { cfg := BitVec.ofNat 128 (127 * 2 ^ 108 + 4 * 2 ^ 120 + 4 * 2 ^ 115 + 128 * 2 ^ 76), st := .active, cqTail := 16 })] } }, 4095, 127, 17, ?_⟩,
    ⟨5, 5 + 0x80000000, ?_⟩,
    ⟨{ live with queue := { queues := [(4095, { cfg := BitVec.ofNat 128 (127 * 2 ^ 108 + 4 * 2 ^ 120 + 4 * 2 ^ 115 + 128 * 2 ^ 76), st := .active, cqTail := 16 })] } }, _, _, 4095, 127, 16, by decide +kernel, by decide +kernel, by decide +kernel, by decide +kernel, rfl, rfl⟩,
    ⟨{ live with queue := { queues := [(4095, { cfg := BitVec.ofNat 128 (127 * 2 ^ 108 + 4 * 2 ^ 120 + 4 * 2 ^ 115 + 128 * 2 ^ 76), st := .active, cqTail := 16 })] } }, _, _, 4095, 127, 16, by decide +kernel, by decide +kernel, by decide +kernel, by decide +kernel, rfl, rfl⟩⟩ <;> decide +kernel

/-- What `Obligations.StoreBufferForwards` assumes is met, clause by clause. -/
theorem witness_StoreBufferForwards :
    (∃ (m : List QStore) (t : QStore) (o : Nat), t.offset ≤ o ∧ o < t.offset + t.len ∧ ∀ u ∈ m, ¬(u.offset ≤ o ∧ o < u.offset + u.len)) ∧
    (∃ (s : State) (q pos : Nat) (e : QEntry), s.awake ∧ q < 4096 ∧ pos < 2 ^ 32 ∧ 16 ≤ (s.queueAt q).stores.length ∧ s.mayIssue q pos 2 true = some e) ∧
    (∃ (s : State) (q pos : Nat) (e : QEntry), s.awake ∧ q < 4096 ∧ pos < 2 ^ 32 ∧ s.mayIssue q pos 1 true = some e ∧
      (s.earlier q pos).any (fun b => b.isLoad && !b.ended) = false ∧ (s.queueAt q).stores.any (fun t => t.meets e.addr0 e.length) = true ∧
      s.strictService q = true) ∧
    (∃ (s : State) (q pos : Nat) (e : QEntry) (i : Nat), s.awake ∧ q < 4096 ∧ pos < 2 ^ 32 ∧ s.mayIssue q pos 1 true = some e ∧
      (s.earlier q pos).any (fun b => b.isLoad && !b.ended) = false ∧ (s.queueAt q).stores.any (fun t => t.meets e.addr0 e.length) = true ∧ i < e.length ∧
      State.bufferedByte (s.queueAt q).stores (e.addr0 + i) = none) ∧
    (∃ (s : State) (q pos : Nat) (e : QEntry) (b : List Byte), s.awake ∧ q < 4096 ∧ pos < 2 ^ 32 ∧ s.mayIssue q pos 1 true = some e ∧
      (s.earlier q pos).any (fun b => b.isLoad && !b.ended) = false ∧ (s.queueAt q).stores.any (fun t => t.meets e.addr0 e.length) = true ∧
      s.strictService q = false ∧ e.pair = false ∧ ((List.range e.length).map fun i => State.bufferedByte (s.queueAt q).stores (e.addr0 + i)) = b.map some) ∧
    (∃ (s : State) (q pos : Nat) (e : QEntry) (b : List Byte), s.awake ∧ q < 4096 ∧ pos < 2 ^ 32 ∧ s.mayIssue q pos 1 true = some e ∧
      (s.earlier q pos).any (fun b => b.isLoad && !b.ended) = false ∧ (s.queueAt q).stores.any (fun t => t.meets e.addr0 e.length) = true ∧
      s.strictService q = false ∧ e.pair = true ∧ s.processorTakes q = true ∧
      ((List.range e.length).map fun i => State.bufferedByte (s.queueAt q).stores (e.addr0 + i)) = b.map some) ∧
    (∃ (s : State) (q pos : Nat) (e : QEntry), s.awake ∧ q < 4096 ∧ pos < 2 ^ 32 ∧ s.mayIssue q pos 1 true = some e ∧
      (s.earlier q pos).any (fun b => b.isLoad && !b.ended) = false ∧ (s.queueAt q).stores.any (fun t => t.meets e.addr0 e.length) = false ∧
      s.processorTakes q = true) := by
  refine ⟨⟨[⟨3, 64, 32, 0, false⟩], ⟨2, 32, 32, 0, false⟩, 63, ?_⟩,
    ⟨{ live with queue := { queues := [(4095, { st := .active, entries := [{ pos := 2 ^ 32 - 1, opcode := 2, length := 32 }], stores := List.replicate 16 ⟨3, 64, 32, 0, false⟩ })] } }, 4095, 2 ^ 32 - 1, { pos := 2 ^ 32 - 1, opcode := 2, length := 32 }, ?_⟩,
    ⟨{ live with queue := { queues := [(4095, { st := .active, cfg := 2 ^ 127, entries := [{ pos := 2 ^ 32 - 1, opcode := 1, length := 32 }], stores := [⟨3, 0, 32, 0, false⟩] })] } }, 4095, 2 ^ 32 - 1, { pos := 2 ^ 32 - 1, opcode := 1, length := 32 }, ?_⟩,
    ⟨{ live with queue := { queues := [(4095, { st := .active, entries := [{ pos := 2 ^ 32 - 1, opcode := 1, length := 32 }], stores := [⟨3, 0, 31, 0, false⟩] })] } }, 4095, 2 ^ 32 - 1, { pos := 2 ^ 32 - 1, opcode := 1, length := 32 }, 31, ?_⟩,
    ⟨{ live with queue := { queues := [(4095, { st := .active, entries := [{ pos := 2 ^ 32 - 1, opcode := 1, length := 32 }], stores := [⟨3, 0, 32, 0, false⟩] })] } }, 4095, 2 ^ 32 - 1, { pos := 2 ^ 32 - 1, opcode := 1, length := 32 }, List.replicate 32 0, ?_⟩,
    ⟨{ live with queue := { queues := [(4095, { st := .active, entries := [{ pos := 2 ^ 32 - 1, opcode := 1, length := 32, pair := true }], stores := [⟨3, 0, 32, 0, false⟩] })] } }, 4095, 2 ^ 32 - 1, { pos := 2 ^ 32 - 1, opcode := 1, length := 32, pair := true }, List.replicate 32 0, ?_⟩,
    ⟨{ live with queue := { queues := [(4095, { st := .active, entries := [{ pos := 2 ^ 32 - 1, opcode := 1, length := 32 }], stores := [⟨3, 32, 32, 0, false⟩] })] } }, 4095, 2 ^ 32 - 1, { pos := 2 ^ 32 - 1, opcode := 1, length := 32 }, ?_⟩⟩ <;> decide +kernel

/-- What `Obligations.WindowWritesItsBytes` assumes is met, clause by clause. -/
theorem witness_WindowWritesItsBytes :
    (∃ (s t : State) (port off : Nat) (b : List Byte), Memory.wf s.queue.chamber = true ∧
      exec (.chamberWindowAccess port off b.length (some b)) s = .next t ∧ s.awake ∧ s.ras.damage = [] ∧
      ∀ i < b.length, ∃ a ∈ s.portAreas port false, a.1 ≤ off + i ∧ off + i < a.1 + a.2) ∧
    (∃ (s t : State) (port off : Nat) (b : List Byte) (i : Nat), Memory.wf s.queue.chamber = true ∧
      exec (.chamberWindowAccess port off b.length (some b)) s = .next t ∧ i < b.length ∧ ∀ a ∈ s.portAreas port false, off + i < a.1 ∨ a.1 + a.2 ≤ off + i) ∧
    (∃ (s t : State) (port off len : Nat), Memory.wf s.queue.chamber = true ∧ exec (.chamberWindowAccess port off len none) s = .next t ∧ s.ras.damage = []) :=
  ⟨⟨{ live with queue := { queues := [(4095, { cfg := BitVec.ofNat 128 (127 * 2 ^ 108 + 4 * 2 ^ 120 + 4 * 2 ^ 115 + 128 * 2 ^ 76), st := .active, dataBase := 4096, dataSize := 4096 })] } }, _, 127, 8190, [1, 2], by decide +kernel, rfl, by decide +kernel, rfl, by decide +kernel⟩,
    ⟨{ live with queue := { queues := [(4095, { cfg := BitVec.ofNat 128 (127 * 2 ^ 108 + 4 * 2 ^ 120 + 4 * 2 ^ 115 + 128 * 2 ^ 76), st := .active, dataBase := 4096, dataSize := 4096 })] } }, _, 127, 8190, [1, 2, 3], 2, by decide +kernel, rfl, by decide +kernel, by decide +kernel⟩,
    ⟨{ live with queue := { queues := [(4095, { cfg := BitVec.ofNat 128 (127 * 2 ^ 108 + 4 * 2 ^ 120 + 4 * 2 ^ 115 + 128 * 2 ^ 76), st := .active, dataBase := 4096, dataSize := 4096 })] } }, _, 127, 8190, 2, by decide +kernel, rfl, rfl⟩⟩

/-- What `Obligations.AtomicsOnBytes` assumes is met, clause by clause. -/
theorem witness_AtomicsOnBytes :
    (∃ (d : Sector) (dpa : Nat) (c : Word128), dpa % 64 + 16 ≤ 64 ∧ fld d (8 * (dpa % 64)) 128 ≠ c.toNat) ∧
    (∃ (d : Sector) (dpa : Nat) (c : Word128), dpa % 64 + 16 ≤ 64 ∧ fld d (8 * (dpa % 64)) 128 = c.toNat) ∧
    (∃ (dpa : Nat), dpa % 64 + 8 ≤ 64) := by
  refine ⟨⟨0, 48, 1, ?_⟩,
    ⟨0, 48, 0, ?_⟩,
    ⟨56, ?_⟩⟩ <;> decide +kernel

/-- What `Obligations.RepeatsFold` assumes is met, clause by clause. -/
theorem witness_RepeatsFold :
    (∃ (s : State) (e : Event) (a b : List LogRecord) (r : LogRecord), s.ras.log = a ++ r :: b ∧ (e.cls = .note ∨ e.cls = .contained) ∧
      e.ownInterval = false ∧ r.event = e.code ∧ r.detail = e.detail ∧ s.now < r.at_ + s.reg 0x4220 1 * 1000000 ∧ ∀ x ∈ a ++ b, ¬(x.event = e.code ∧
      x.detail = e.detail ∧ s.now < x.at_ + s.reg 0x4220 1 * 1000000)) ∧
    (∃ (s : State) (e : Event), s.ras.log ≠ [] ∧ ∀ x ∈ s.ras.log, ¬(x.event = e.code ∧ x.detail = e.detail ∧ s.now < x.at_ + s.reg 0x4220 1 * 1000000)) := by
  refine ⟨⟨{ live with ras := { log := [noteRec 0x4004] } }, { code := 0x4004, cls := .note }, [], [], noteRec 0x4004, ?_⟩,
    ⟨{ live with ras := { log := [noteRec 0x4004] } }, { code := 0x4005, cls := .note }, ?_⟩⟩ <;> decide +kernel

/-- What `Obligations.QueueEntryFrame` assumes is met, clause by clause. -/
theorem witness_QueueEntryFrame :
    (∃ (s t : State) (i : Instr), s.Inv ∧ s.counter.badParity = [] ∧ i ∈ [Instr.zero 4095 7, .copy 4095 7, .write 4095 7] ∧ exec i s = .next t) ∧
    (∃ (s t : State) (i : Instr), s.Inv ∧ s.counter.badParity = [] ∧ i ∈ [Instr.zero 4095 7, .copy 4095 7, .write 4095 7] ∧ exec i s = .next t) ∧
    (∃ (s t : State) (i : Instr), s.Inv ∧ s.counter.badParity = [] ∧ i ∈ [Instr.zero 4095 7, .copy 4095 7, .write 4095 7] ∧ exec i s = .next t) :=
  ⟨⟨{ live with queue := { queues := [(4095, { st := .active, entries := [{ pos := 7, opcode := 0x20 }] })] } }, _, .zero 4095 7, by unfold State.Inv; decide +kernel, rfl, by decide +kernel, rfl⟩,
    ⟨{ live with queue := { queues := [(4095, { st := .active, entries := [{ pos := 7, opcode := 0x21 }] })] } }, _, .copy 4095 7, by unfold State.Inv; decide +kernel, rfl, by decide +kernel, rfl⟩,
    ⟨{ live with queue := { queues := [(4095, { st := .active, entries := [{ pos := 7, opcode := 2 }] })] } }, _, .write 4095 7, by unfold State.Inv; decide +kernel, rfl, by decide +kernel, rfl⟩⟩

/-- What `Obligations.OnePortOrLinkChanges` assumes is met, clause by clause. -/
theorem witness_OnePortOrLinkChanges :
    (∃ (s t : State) (i : Instr), s.Inv ∧ exec i s = .next t ∧ (∃ b, i = .hdmDecoderCommit 127 b)) ∧
    (∃ (s t : State) (i : Instr), s.Inv ∧ exec i s = .next t ∧ i = .ideActivation 127) ∧
    (∃ (s t : State) (i : Instr), s.Inv ∧ exec i s = .next t ∧ i = .poolEnumerationDone 127 true) ∧
    (∃ (s t : State) (i : Instr), s.Inv ∧ exec i s = .next t ∧ i = .linkRetryTimer 127) ∧
    (∃ (s t : State) (i : Instr), s.Inv ∧ exec i s = .next t ∧ i = .tailRecordExpiry 127) :=
  ⟨⟨upLast, _, .hdmDecoderCommit 127 0, by unfold State.Inv; decide +kernel, rfl, 0, rfl⟩,
    ⟨upLast, _, .ideActivation 127, by unfold State.Inv; decide +kernel, rfl, rfl⟩,
    ⟨upLast, _, .poolEnumerationDone 127 true, by unfold State.Inv; decide +kernel, rfl, rfl⟩,
    ⟨upLast, _, .linkRetryTimer 127, by unfold State.Inv; decide +kernel, rfl, rfl⟩,
    ⟨upLast, _, .tailRecordExpiry 127, by unfold State.Inv; decide +kernel, rfl, rfl⟩⟩

/-- What `Obligations.QueriesOnlyAnswer` assumes is met, clause by clause. -/
theorem witness_QueriesOnlyAnswer :
    ∃ (s t : State), s.Inv ∧ exec (.identifyDevice 127) s = .next t :=
  ⟨upLast, _, by unfold State.Inv; decide +kernel, rfl⟩

/-- What `Obligations.OneThingChanges` assumes is met, clause by clause. -/
theorem witness_OneThingChanges :
    (∃ (s t : State), s.Inv ∧ exec (.dedupRecordExpiry 1 0) s = .next t) ∧
    (∃ (s t : State), s.Inv ∧ exec (.rkValue 64) s = .next t) ∧
    (∃ (s t : State), s.Inv ∧ exec (.epochAnnounce 2 5 [5] 0) s = .next t) ∧
    (∃ (s t : State), s.Inv ∧ exec (.timeFlitSend) s = .next t) ∧
    (∃ (s t : State), s.Inv ∧ exec (.requesterAck 0) s = .next t) ∧
    (∃ (s t : State), s.Inv ∧ exec (.setEventInterruptPolicy 127 0) s = .next t) ∧
    (∃ (s t : State), s.Inv ∧ exec (.dynamicAddressAssignment 0) s = .next t) ∧
    (∃ (s t : State), s.Inv ∧ exec (.pfailNHigh) s = .next t) ∧
    (∃ (s t : State), s.Inv ∧ s.counter.badParity = [] ∧ exec (.spec 127 0 0) s = .next t) :=
  ⟨⟨upLast, _, by unfold State.Inv; decide +kernel, rfl⟩,
    ⟨upLast, _, by unfold State.Inv; decide +kernel, rfl⟩,
    ⟨upLast, _, by unfold State.Inv; decide +kernel, rfl⟩,
    ⟨upLast, _, by unfold State.Inv; decide +kernel, rfl⟩,
    ⟨upLast, _, by unfold State.Inv; decide +kernel, rfl⟩,
    ⟨upLast, _, by unfold State.Inv; decide +kernel, rfl⟩,
    ⟨upLast, _, by unfold State.Inv; decide +kernel, rfl⟩,
    ⟨upLast, _, by unfold State.Inv; decide +kernel, rfl⟩,
    ⟨upLast, _, by unfold State.Inv; decide +kernel, rfl, rfl⟩⟩

end Sys2Proof.Tests
end

section
/-! SUPPORT. Chapter 1, the system view: the events of a port, the frame of what concerns one port or one link, and the idle cycle. -/

namespace Sys2Proof.Machine

/-! ### Commands that change ports or links and send nothing -/

@[simp] theorem State.letsOut_nil (s : State) : s.letsOut [] = [] := by
  simp [State.letsOut]

/-- A command whose effect changes at most the chapter of ports and links leaves the rest of the device, the commands that wait and what had left. -/
theorem run_linkChapter {s t : State} {i : Instr} {f : State → State} {l : LinkSt} (hs : s.Inv)
    (hf : f { s with pending := [], out := [] } = { s with pending := [], out := [], link := l }) (h : run i s f = .next t) :
    t = s ∨ t = { s with link := l } := by
  have ⟨_, _, hr⟩ := hs
  refine (run_quiet hs i f hf rfl rfl rfl hr rfl h).imp_right fun ht => ?_
  simpa using ht

/-! ### One port -/

theorem State.port_modPort_of_ne (s : State) {n p : Nat} (g : Port → Port) (h : p ≠ n) : (s.modPort n g).port p = s.port p :=
  Table.get_modify_of_ne _ _ h

/-- From `s` to `t` nothing but port `n` changes. -/
def State.OnlyPort (n : Nat) (s t : State) : Prop :=
  t = { s with link := { s.link with ports := t.link.ports } } ∧ ∀ p, p ≠ n → t.port p = s.port p

theorem State.onlyPort_refl (n : Nat) (s : State) : State.OnlyPort n s s := ⟨rfl, fun _ _ => rfl⟩

theorem State.onlyPort_modPort (s : State) (n : Nat) (g : Port → Port) : State.OnlyPort n s (s.modPort n g) :=
  ⟨rfl, fun _ => s.port_modPort_of_ne g⟩

/-- A command whose effect leaves the state or modifies one port changes nothing but that port. -/
theorem run_onlyPort {s t : State} {i : Instr} {f : State → State} {n : Nat} (hs : s.Inv)
    (hf : ∀ u : State, f u = u ∨ ∃ g, f u = u.modPort n g) (h : run i s f = .next t) : State.OnlyPort n s t := by
  obtain hf | ⟨g, hf⟩ := hf { s with pending := [], out := [] }
  · obtain rfl | rfl := run_linkChapter hs hf h <;> exact State.onlyPort_refl n _
  · obtain rfl | rfl := run_linkChapter hs hf h
    · exact State.onlyPort_refl n _
    · exact s.onlyPort_modPort n g

theorem State.commitHdm_eq_or_modPort (n b : Nat) (u : State) : u.commitHdm n b = u ∨ ∃ g, u.commitHdm n b = u.modPort n g := by
  unfold State.commitHdm
  split
  · exact .inr ⟨_, rfl⟩
  · exact .inl rfl

theorem State.ideActive_eq_or_modPort (n : Nat) (u : State) : u.ideActive n = u ∨ ∃ g, u.ideActive n = u.modPort n g := by
  unfold State.ideActive
  split
  · exact .inr ⟨_, rfl⟩
  · exact .inl rfl

theorem State.enumerated_usable_eq_or_modPort (n : Nat) (u : State) :
    u.enumerated n true = u ∨ ∃ g, u.enumerated n true = u.modPort n g := by
  unfold State.enumerated
  split
  · exact .inl rfl
  · exact .inr ⟨_, rfl⟩

/-! ### One link -/

theorem State.linkAt_modLink_of_ne (s : State) {n l : Nat} (g : Link → Link) (h : l ≠ n) : (s.modLink n g).linkAt l = s.linkAt l :=
  Table.get_modify_of_ne _ _ h

/-- From `s` to `t` nothing but link `n` changes. -/
def State.OnlyLink (n : Nat) (s t : State) : Prop :=
  t = { s with link := { s.link with links := t.link.links } } ∧ ∀ l, l ≠ n → t.linkAt l = s.linkAt l

theorem State.onlyLink_refl (n : Nat) (s : State) : State.OnlyLink n s s := ⟨rfl, fun _ _ => rfl⟩

theorem State.onlyLink_modLink (s : State) (n : Nat) (g : Link → Link) : State.OnlyLink n s (s.modLink n g) :=
  ⟨rfl, fun _ => s.linkAt_modLink_of_ne g⟩

/-- A command whose effect leaves the state or modifies one link changes nothing but that link. -/
theorem run_onlyLink {s t : State} {i : Instr} {f : State → State} {n : Nat} (hs : s.Inv)
    (hf : ∀ u : State, f u = u ∨ ∃ g, f u = u.modLink n g) (h : run i s f = .next t) : State.OnlyLink n s t := by
  obtain hf | ⟨g, hf⟩ := hf { s with pending := [], out := [] }
  · obtain rfl | rfl := run_linkChapter hs hf h <;> exact State.onlyLink_refl n _
  · obtain rfl | rfl := run_linkChapter hs hf h
    · exact State.onlyLink_refl n _
    · exact s.onlyLink_modLink n g

theorem State.linkRetry_eq_or_modLink (n : Nat) (u : State) : u.linkRetry n = u ∨ ∃ g, u.linkRetry n = u.modLink n g := by
  unfold State.linkRetry
  dsimp only
  split
  · exact .inl rfl
  · exact .inr ⟨_, rfl⟩

theorem State.tailExpires_eq_or_modLink (n : Nat) (u : State) : u.tailExpires n = u ∨ ∃ g, u.tailExpires n = u.modLink n g := by
  unfold State.tailExpires
  dsimp only
  split
  · exact .inl rfl
  · exact .inr ⟨_, rfl⟩

/-- Settles O57: the effect of each of these events leaves the state or modifies its one port or link. -/
theorem onePortOrLinkChanges : Obligations.OnePortOrLinkChanges := by
  intro s t n i hs h
  constructor
  · rintro (⟨b, rfl⟩ | rfl | rfl)
    · exact run_onlyPort hs (State.commitHdm_eq_or_modPort n b) h
    · exact run_onlyPort hs (State.ideActive_eq_or_modPort n) h
    · exact run_onlyPort hs (State.enumerated_usable_eq_or_modPort n) h
  · rintro (rfl | rfl)
    · exact run_onlyLink hs (State.linkRetry_eq_or_modLink n) h
    · exact run_onlyLink hs (State.tailExpires_eq_or_modLink n) h

/-! ### The events of a port -/

/-- A command of a device out of reset completes with an effect that its meaning's own effect comes to on this state. -/
theorem exec_completes {s : State} {i : Instr} {f g : State → State} (he : exec i s = run i s f) (hw : i.wellFormed = true)
    (ha : s.awake) (hf : f { s with pending := [], out := [] } = g { s with pending := [], out := [] }) :
    exec i s = .next (s.after i g) :=
  he.trans (run_completes hw ha hf)

section hostPort
variable {s : State} {p : Nat} (hr : s.portRole p = 1) (hu : (s.port p).st = .up)
include hr hu

theorem State.portReset_of_up : s.portReset p = s.portDown p 0 0x9002 .note false false := by
  simp [State.portReset, hr, hu]

theorem State.hostLinkLost_of_up : s.hostLinkLost p = s.portDown p 0 0x9001 .contained true false := by
  simp [State.hostLinkLost, hr, hu]

theorem State.ideFailed_of_up : s.ideFailed p = s.portDown p 2 0x9004 .contained false false := by
  simp [State.ideFailed, hr, hu]

theorem State.ideActive_of_up : s.ideActive p = s.modPort p fun x => { x with ide := 1 } := by
  simp [State.ideActive, hr, hu]

theorem State.commitHdm_of_up {base : Nat} (hb : base % 2 ^ 52 = 0) :
    s.commitHdm p base = s.modPort p fun x => { x with hdmBase := some base } := by
  simp [State.commitHdm, hr, hu, hb, -Nat.reducePow]

end hostPort

section poolPort
variable {s : State} {p : Nat}

theorem State.enumerated_usable (h : (s.port p).st = .enumerating) :
    s.enumerated p true = s.modPort p fun x => { x with st := .up } := by
  simp [State.enumerated, h]

theorem State.enumerated_unusable (h : (s.port p).st = .enumerating) :
    s.enumerated p false = (s.modPort p fun x => { x with st := .failed }).raise 0x9006 .degraded (.count p 0) (some p) := by
  simp [State.enumerated, h]

theorem State.poolLinkLost_of_trained (hr : s.portRole p = 2)
    (h : (s.port p).st = .up ∨ (s.port p).st = .enumerating ∨ (s.port p).st = .failed) :
    s.poolLinkLost p = (s.modPort p fun x => { x with st := .down, speed := 0, lanes := 0 }).failPort p := by
  obtain h | h | h := h <;> simp [State.poolLinkLost, hr, h]

end poolPort

/-- Settles O31: each event's guard is met by the port's role and state, so that its effect is what the statement writes out. -/
theorem portSteps : Obligations.PortSteps := by
  intro s port ha hp
  have hok : portOk port = true := by simpa [portOk] using hp
  refine ⟨fun hr hu => ⟨?_, ?_, ?_, ?_, fun base hb hm => ?_⟩, fun hst hbusy => ?_, fun code lanes hc hl hen hdn hw htm hf => ?_,
    fun he => ⟨?_, ?_⟩, fun hr hst => ?_⟩
  · exact exec_completes (exec_perPortCxlReset port s) hok ha (State.portReset_of_up hr hu)
  · exact exec_completes (exec_hostLinkDown port s) hok ha (State.hostLinkLost_of_up hr hu)
  · exact exec_completes (exec_ideFailure port s) hok ha (State.ideFailed_of_up hr hu)
  · exact exec_completes (exec_ideActivation port s) hok ha (State.ideActive_of_up hr hu)
  · have hwf : (Instr.hdmDecoderCommit port base).wellFormed = true := by
      simp [Instr.wellFormed, hok, hpaOk, hb, -Nat.reducePow]
    exact exec_completes (exec_hdmDecoderCommit port base s) hwf ha (State.commitHdm_of_up (s := { s with pending := [], out := [] }) hr hu hm)
  · have hgo : ¬ ((s.port port).st != .resetting || s.portBusy port) = true := by simp [hst, hbusy]
    exact exec_completes (exec_portResetDrainDone port s) hok ha (if_neg hgo)
  · have hwf : (Instr.portLinkUp port code lanes).wellFormed = true := by simp [Instr.wellFormed, hok, hc, hl]
    have hgo : ¬ (!pcEnable (s.port port).cfg || (s.port port).st != .down ||
        State.widthOf (4 * pcQuads (s.port port).cfg) lanes = 0 || s.testMode == 1 || s.isFatal) = true := by
      simp [hen, hdn, hw, htm, hf]
    exact exec_completes (exec_portLinkUp port code lanes s) hwf ha (if_neg hgo)
  · exact exec_completes (exec_poolEnumerationDone port true s) hok ha (State.enumerated_usable he)
  · exact exec_completes (exec_poolEnumerationDone port false s) hok ha (State.enumerated_unusable he)
  · exact exec_completes (exec_poolLinkDown port s) hok ha (State.poolLinkLost_of_trained hr hst)

/-! ### The idle cycle (R20, R24) -/

theorem step_idle {s : State} (h : s.pending = []) : step s = .next s.tick := by
  simp [step, h]

/-- The passing of time moves the two times, the slew, and nothing else. -/
theorem State.passTime_eq (s : State) : ∃ (time : Nat) (slew : Int),
    s.passTime = { s with now := s.now + 1, canalTime := time, canal := { s.canal with slew := slew } } := by
  simp only [State.passTime]
  split
  · exact ⟨_, _, rfl⟩
  · split
    · exact ⟨_, _, rfl⟩
    · split <;> exact ⟨_, _, rfl⟩

theorem State.tick_of_starting {s : State} (h : s.power.device = .starting) : s.tick = s.passTime := by
  simp [State.tick, h]

/-- The device out of reset commits what its cycle brings. -/
theorem State.tick_of_awake {s : State} (h : s.awake) : ∃ t, s.tick = commit s t := by
  have hd : ¬ (s.power.device == .starting) = true := by simpa using h
  exact ⟨_, if_neg hd⟩

theorem State.tick_pending (s : State) : s.tick.pending = s.pending := by
  by_cases h : s.power.device = .starting
  · obtain ⟨time, slew, ht⟩ := s.passTime_eq
    rw [State.tick_of_starting h, ht]
  · obtain ⟨t, ht⟩ := State.tick_of_awake h
    rw [ht, commit_pending]

theorem State.tick_out (s : State) : ∃ l, s.tick.out = s.out ++ l := by
  by_cases h : s.power.device = .starting
  · obtain ⟨time, slew, ht⟩ := s.passTime_eq
    exact ⟨[], by rw [State.tick_of_starting h, ht, List.append_nil]⟩
  · obtain ⟨t, ht⟩ := State.tick_of_awake h
    exact ⟨_, by rw [ht, commit_out]⟩

/-- Settles O38: an idle step answers the next cycle, which commits what it brings, or in reset is the passing of time alone. -/
theorem idlePassesCycle : Obligations.IdlePassesCycle := by
  intro s hp
  refine ⟨s.tick, step_idle hp, by rw [State.tick_pending, hp], s.tick_out, fun h => ?_⟩
  obtain ⟨time, slew, ht⟩ := s.passTime_eq
  rw [State.tick_of_starting h]
  exact ⟨rfl, by rw [ht], by rw [ht], by rw [ht]⟩

end Sys2Proof.Machine
end


section
/-! SUPPORT. Tenancy and regions: host requests at their port, the decode and admission steps, the region commands, and the writes of tenancy objects. -/

namespace Sys2Proof.Machine

/-! ### Host requests at their port (R46, R103, R105) -/

section hostRequest
variable {s : State} {port hpa tag : Nat} {cls : ReqClass} {w : WriteData} {io : Bool}
  (hf : s.isFatal = false) (hp : s.portServes port hpa io = true)
include hf hp

/-- A request whose quad has room is taken: a CXL.io request whatever its tag, a CXL.mem request whose reserved tag bits are 0. -/
theorem State.hostRequest_of_quadTakes (ht : io = true ∨ tag < 65536)
    (hq : s.quadTakes (.quad (s.decodeQuad port hpa)) port cls io = true) :
    s.hostRequest port hpa tag cls w io = s.takeRequest port hpa tag cls w io := by
  have hm : (!io && decide (65536 ≤ tag)) = false := by
    rcases ht with rfl | ht
    · rfl
    · simp [ht]
  simp [State.hostRequest, hf, hp, hm, hq]

/-- A CXL.mem message whose reserved tag bits are not 0 is malformed. -/
theorem State.hostRequest_of_reservedTag (hio : io = false) (ht : 65536 ≤ tag) :
    s.hostRequest port hpa tag cls w io = s.malformedRequest port hpa tag cls := by
  subst hio
  simp [State.hostRequest, hf, hp, ht]

/-- A CXL.mem read that the quad has no general credit for waits in the ingress store, on the credit of a snoop. -/
theorem State.hostRequest_of_ingressRoom (hio : io = false) (hw : cls.isWrite = false) (ht : tag < 65536)
    (hq : s.quadTakes (.quad (s.decodeQuad port hpa)) port cls io = false)
    (hr : s.ingressRoom (.quad (s.decodeQuad port hpa)) port = true) :
    s.hostRequest port hpa tag cls w io = s.holdIngress (.quad (s.decodeQuad port hpa)) port hpa tag cls := by
  subst hio
  simp [State.hostRequest, hf, hp, hw, ht, hq, hr]

end hostRequest

theorem reqOk_of_lt {port hpa : Nat} (hp : port < 128) (hh : hpa < 2 ^ 64) : reqOk port hpa = true := by
  simp [reqOk, portOk, hpaOk, hp, hh, -Nat.reducePow]

/-- A host's request completes by being taken when its meaning is the entry of a request at the port. -/
theorem exec_takesRequest {s : State} {i : Instr} {port hpa tag : Nat} {cls : ReqClass} {w : WriteData} {io : Bool}
    (he : exec i s = run i s fun u => u.hostRequest port hpa tag cls w io) (hi : i.wellFormed = true) (ha : s.awake)
    (hf : s.isFatal = false) (hp : s.portServes port hpa io = true) (ht : io = true ∨ tag < 65536)
    (hq : s.quadTakes (.quad (s.decodeQuad port hpa)) port cls io = true) :
    exec i s = .next (s.after i (·.takeRequest port hpa tag cls w io)) :=
  exec_completes he hi ha (State.hostRequest_of_quadTakes hf hp ht hq)

/-- Settles O1: the entry of a request follows the first of its guards that is met, which the hypotheses decide. -/
theorem hostRequestsEnter : Obligations.HostRequestsEnter := by
  refine ⟨fun s port hpa tag w ha hport hhpa hf => ⟨fun hp htag => ?_, fun hp => ?_⟩, fun s port hpa tag ha hport hhpa hf hp => ⟨fun htag => ?_, fun htag => ?_⟩⟩
  all_goals have hok := reqOk_of_lt hport hhpa
  · have ht : false = true ∨ tag < 65536 := .inr htag
    exact ⟨exec_takesRequest (exec_rdS port hpa tag s) hok ha hf hp ht,
      exec_takesRequest (exec_rdAny port hpa tag s) hok ha hf hp ht,
      exec_takesRequest (exec_rdOwn port hpa tag s) hok ha hf hp ht,
      exec_takesRequest (exec_upg port hpa tag s) hok ha hf hp ht,
      exec_takesRequest (exec_rdNc port hpa tag s) hok ha hf hp ht,
      exec_takesRequest (exec_invNc port hpa tag s) hok ha hf hp ht,
      exec_takesRequest (exec_wrNc port hpa tag w s) hok ha hf hp ht,
      exec_takesRequest (exec_wbI port hpa tag w s) hok ha hf hp ht,
      exec_takesRequest (exec_wbS port hpa tag w s) hok ha hf hp ht,
      exec_takesRequest (exec_wbE port hpa tag w s) hok ha hf hp ht,
      exec_takesRequest (exec_clnEvict port hpa tag s) hok ha hf hp ht,
      fun hq hr => exec_completes (exec_rdOwn port hpa tag s) hok ha (State.hostRequest_of_ingressRoom hf hp rfl rfl htag hq hr)⟩
  · exact ⟨exec_takesRequest (exec_cxlIoMemoryRequest port hpa tag none s) hok ha hf hp (.inl rfl),
      exec_takesRequest (exec_cxlIoMemoryRequest port hpa tag (some w) s) hok ha hf hp (.inl rfl)⟩
  · have hgo : ¬ (s.isFatal || !s.portServes port hpa false) = true := by simp [hf, hp]
    exact exec_completes (exec_spec port hpa tag s) hok ha ((if_neg hgo).trans (if_neg (by omega)))
  · have hgo : ¬ (s.isFatal || !s.portServes port hpa false) = true := by simp [hf, hp]
    exact ⟨exec_completes (exec_spec port hpa tag s) hok ha ((if_neg hgo).trans (if_pos htag)),
      exec_completes (exec_rdS port hpa tag s) hok ha (State.hostRequest_of_reservedTag hf hp rfl htag),
      exec_completes (exec_clnEvict port hpa tag s) hok ha (State.hostRequest_of_reservedTag hf hp rfl htag)⟩

/-! ### Decode and admission (R44, R306 to R314) -/

theorem State.regCheckWord_undamaged {s : State} {w : Nat} (h : s.damageAt 369 w = 0 ∧ s.damageAt 369 (w + 20480) = 0) :
    s.regCheckWord w = (s, true) := by
  simp [State.regCheckWord, h]

/-- An admission goes on at once when both copies of its words are undamaged and none of them waits for its restore. -/
theorem State.admissionWords_undamaged {s : State} {c : Nat}
    (hd : ∀ w ∈ [State.occWord c, State.slotWord s.freeSlotNo], s.damageAt 369 w = 0 ∧ s.damageAt 369 (w + 20480) = 0)
    (hw : s.regWaits c s.freeSlotNo = false) : s.admissionWords c = (s, true) := by
  have h0 := State.regCheckWord_undamaged (hd (State.occWord c) (by simp))
  have h1 := State.regCheckWord_undamaged (hd (State.slotWord s.freeSlotNo) (by simp))
  simp [State.admissionWords, h0, h1, hw]

theorem State.lookResult_of_returned {s : State} {u : LookUnit} {m : LaMiss}
    (h : (s.look u).misses.find? (·.result.isSome) = some m) : s.lookResult u = s.lookReturned u m := by
  simp only [State.lookResult, h]

theorem State.admitOldest_seeksSlot {s : State} {u : LookUnit} {id : Nat} {rest : List Nat} {t : Txn}
    (hr : (s.look u).toRegulator = id :: rest) (ht : s.txn id = some t) (hc : s.cycleFull = false)
    (ha : s.admissionWords t.req.ctx = (s, true)) :
    s.admitOldest u = (s.modLook u fun l => { l with toRegulator := rest }).seekSlot u t := by
  simp [State.admitOldest, hr, ht, hc, ha]

theorem State.offerSlot_admits {s : State} {t : Txn} {aged : Bool} (hc : s.cycleFull = false)
    (ho : s.offerOrder.find? (fun p => s.slotFree p.1.cls 0 && !s.regWaits p.1.req.ctx s.freeSlotNo) = some (t, aged))
    (ha : s.admissionWords t.req.ctx = (s, true)) :
    s.offerSlot = (({ s with tenant := { s.tenant with
      offers := s.tenant.offers - 1, waiting := s.tenant.waiting.filter (· != t.req.id) } } : State).admitTxn t true aged).noteAwaiting t.unit := by
  simp [State.offerSlot, hc, ho, ha]

/-- A request that is offered a slot waits for no restore of the words that it takes. -/
theorem State.offered_regWaits {s : State} {t : Txn} {aged : Bool}
    (ho : s.offerOrder.find? (fun p => s.slotFree p.1.cls 0 && !s.regWaits p.1.req.ctx s.freeSlotNo) = some (t, aged)) :
    s.regWaits t.req.ctx s.freeSlotNo = false := by
  have := List.find?_some ho
  simp only [Bool.and_eq_true, Bool.not_eq_true'] at this
  exact this.2

theorem State.guaranteeMissed_of_due {s : State} {id : Nat} {t : Txn} (ht : s.txn id = some t) (h0 : t.deadline ≠ 0) (hd : t.deadline ≤ s.now)
    (hm : t.missed = false) (ha : t.req.answered = false) : s.guaranteeMissed id = s.noteGuaranteeMiss t := by
  simp [State.guaranteeMissed, ht, h0, hd, hm, ha]

/-- Settles O2: each step finds its transaction, and the words of an admission are readable. -/
theorem admissionSteps : Obligations.AdmissionSteps := by
  intro s ha
  refine ⟨fun u m hu hm => ?_, fun q id rest t hq hr ht hc hd hw => ?_, fun t aged hc ho hd => ?_, fun id t ht h0 hd hm hn => ?_⟩
  · exact exec_completes (exec_lookasideMissResult u s) hu ha (State.lookResult_of_returned hm)
  · have hok : LookUnit.ok (.quad q) = true := by simp [LookUnit.ok, portOk, hq]
    exact exec_completes (exec_admissionRequest (.quad q) s) hok ha
      (State.admitOldest_seeksSlot hr ht hc (State.admissionWords_undamaged hd hw))
  · exact exec_completes (exec_slotOffer s) rfl ha
      (State.offerSlot_admits hc ho (State.admissionWords_undamaged hd (State.offered_regWaits ho)))
  · exact exec_completes (exec_guaranteeMiss id s) rfl ha (State.guaranteeMissed_of_due ht h0 hd hm hn)

/-! ### A client's command that goes on running (R402 to R404) -/

theorem param_leBytes (v n : Nat) : param (leBytes v n) 0 n = v % 256 ^ n := by
  rw [param, List.drop_zero, List.take_of_length_le (by simp), ofLe_leBytes]

theorem State.takes_awake {s : State} {c : Client} {op : Nat} {params : List Byte} (h : s.takes c op params = true) : s.awake := by
  simp only [State.takes, State.mayWrite, Bool.and_eq_true, bne_iff_ne, ne_eq] at h
  tauto

/-- A command that its client may submit completes by running: its start, on the device as the submission leaves it, is `f` under the ticket. A submission changes management state alone, logs at most that a client lost its place, and sends its response. -/
theorem exec_command_running {s : State} {i : Instr} {c : Client} {op ctag : Nat} {params : List Byte} {f : Nat → State → State}
    (he : exec i s = run i s fun u => u.command c op ctag params) (hi : i.wellFormed = true) (hc : cmdOk c ctag = true)
    (ho : (cmdArea op).isSome = true) (ho' : op < 2 ^ 16) (ht : s.takes c op params = true)
    (hf : ∀ (m : MgmtSt) (x : RasSt) (o : List Out),
      State.startCommand { s with pending := [], mgmt := m, ras := x, out := o } (heldCommand s c op ctag params) =
        f s.mgmt.nextTicket { s with pending := [], mgmt := m, ras := x, out := o }) :
    exec i s = .next (s.after i (State.running c op ctag params f)) := by
  refine exec_completes he hi (State.takes_awake ht) ?_
  have hb := takes_blank s c op params
  rw [command_takes _ c op ctag params ho ho' hc (hb.trans ht), State.running]
  obtain ⟨m, x, o, h⟩ := started_eq { s with pending := [], out := [] } c op ctag params
  rw [h]
  exact hf m x o

/-! ### The region commands (R38 to R40) -/

theorem State.regionCommit_places {s : State} {ticket r : Nat} (hl : (s.region r).lost = false) (ha : (s.region r).st ≠ .active)
    (hv : rdValid (s.stagedRegion r).1 = true) (hk : s.regionCheck r (s.stagedRegion r).1 (s.stagedRegion r).2 = none) :
    s.regionCommit ticket r = s.placeRegion ticket r (s.stagedRegion r).1 (s.stagedRegion r).2 false := by
  have ha' : ((s.region r).st == RegionState.active) = false := by simpa using ha
  simp [State.regionCommit, hl, ha', hv, hk]

theorem State.regionDelete_of_active {s : State} {ticket r : Nat} (ha : (s.region r).st = .active) (hn : s.retiredCount < 32768) :
    s.regionDelete ticket r =
      (((s.retireInterval r).startRun ticket r 1).reserveRows (s.region r).rows).writeSysRows ((s.region r).rows.map fun i =>
        { row := i, image := { ((s.retireInterval r).startRun ticket r 1).imageAt i with valid := false } }) (s.region r).rows := by
  have hn' : ¬ 32768 ≤ s.retiredCount := by omega
  simp [State.regionDelete, ha, hn']

theorem State.regionFreeze_of_active {s : State} {ticket r : Nat} {on : Bool} (hl : (s.region r).lost = false) (ha : (s.region r).st = .active) :
    s.regionFreeze ticket r on = s.regionFrozen ticket r on := by
  simp [State.regionFreeze, hl, ha]

section startRegionCommand
variable {u s : State} {c : Client} {g r : Nat} (hr : r < 32768)
include hr

theorem param_region : param (leBytes r 2) 0 2 = r := by
  rw [param_leBytes, Nat.mod_eq_of_lt (by omega)]

theorem startCommand_regionCommit :
    u.startCommand (heldCommand s c 0x2001 g (leBytes r 2)) = u.regionCommit s.mgmt.nextTicket r :=
  congrArg (u.regionCommit s.mgmt.nextTicket) (param_region hr)

theorem startCommand_regionDelete :
    u.startCommand (heldCommand s c 0x2002 g (leBytes r 2)) = u.regionDelete s.mgmt.nextTicket r :=
  congrArg (u.regionDelete s.mgmt.nextTicket) (param_region hr)

theorem startCommand_regionFreeze :
    u.startCommand (heldCommand s c 0x2003 g (leBytes r 2)) = u.regionFreeze s.mgmt.nextTicket r true :=
  congrArg (u.regionFreeze s.mgmt.nextTicket · true) (param_region hr)

theorem startCommand_regionThaw :
    u.startCommand (heldCommand s c 0x2004 g (leBytes r 2)) = u.regionFreeze s.mgmt.nextTicket r false :=
  congrArg (u.regionFreeze s.mgmt.nextTicket · false) (param_region hr)

end startRegionCommand

/-- Settles O7: a submission leaves what a region command's checks read, so that they come out as in the state before it. -/
theorem regionCommands : Obligations.RegionCommands := by
  intro s c g r hc hr
  have hb : fieldBytes r 2 = leBytes r 2 := fieldBytes_of_lt (by omega)
  refine ⟨fun ht hl ha hv hk => ?_, fun ht ha hn => ?_, fun ht hl ha => ?_, fun ht hl ha => ?_⟩
  · exact exec_command_running (hb ▸ exec_regionCommit c g r s) hc hc rfl (by decide) ht fun m x o =>
      (startCommand_regionCommit hr).trans (State.regionCommit_places hl ha hv hk)
  · exact exec_command_running (hb ▸ exec_regionDelete c g r s) hc hc rfl (by decide) ht fun m x o =>
      (startCommand_regionDelete hr).trans (State.regionDelete_of_active ha hn)
  · exact exec_command_running (hb ▸ exec_regionFreeze c g r s) hc hc rfl (by decide) ht fun m x o =>
      (startCommand_regionFreeze hr).trans (State.regionFreeze_of_active hl ha)
  · exact exec_command_running (hb ▸ exec_regionThaw c g r s) hc hc rfl (by decide) ht fun m x o =>
      (startCommand_regionThaw hr).trans (State.regionFreeze_of_active hl ha)

/-! ### Writes of numbers (R380 to R392) -/

theorem State.mayWrite_awake {s : State} {c : Client} {index sub : Nat} {pick : Option (Nat × Nat)} (h : s.mayWrite c index sub pick = true) :
    s.awake := by
  simp only [State.mayWrite, Bool.and_eq_true, bne_iff_ne, ne_eq] at h
  tauto

/-- An object of the dictionary that a client writes as a number: its values fit its bytes, and its write is answered when it is handled. -/
def ObjDef.plain (d : ObjDef) : Bool :=
  objDef d.index d.sub == some d && decide (d.index < 2 ^ 16) && decide (d.sub < 2 ^ 8) && d.sub != 0 &&
    (d.index, d.sub) != (0x1F00, 1) && (d.index, d.sub) != (0x2020, 2) && d.type != .octets &&
    decide (d.type.size ≤ 240) && decide (d.hi < 256 ^ d.type.size)

/-- A write of a number that nothing bars completes with its effect and WRITE_RSP, when the object's rule accepts the value and comes to that effect. -/
theorem exec_numberWrite (d : ObjDef) {s : State} {i : Instr} {c : Client} {v : Nat} {pick : Option (Nat × Nat)} {f : State → State}
    (he : exec i s = run i s fun u => u.namedWrite c d.index d.sub (fieldBytes v d.type.size) pick) (hi : i.wellFormed = true)
    (hc : c.ok = true) (hm : s.mayWrite c d.index d.sub pick = true) (hd : d.plain = true) (hp : State.windowShows pick = true)
    (hr : d.lo ≤ v ∧ v ≤ d.hi)
    (hw : ∀ u : State, u = { s.touchClient c with pending := [], out := [] } →
      (u.writeTables (u.picked c pick) d.index d.sub).writeNum c (u.picked c pick) d.index d.sub v = .ok (f u)) :
    exec i s = .next (s.after i (State.wrote c d.index d.sub (leBytes v d.type.size) f)) := by
  simp only [ObjDef.plain, Bool.and_eq_true, beq_iff_eq, bne_iff_ne, ne_eq, Prod.mk.injEq, decide_eq_true_eq] at hd
  obtain ⟨⟨⟨⟨⟨⟨⟨⟨hobj, hidx⟩, hsub⟩, h0⟩, hcmd⟩, hflush⟩, htype⟩, hsize⟩, hhi⟩ := hd
  have hlt : v < 256 ^ d.type.size := hr.2.trans_lt hhi
  have hv : ofLe (leBytes v d.type.size) = v := by rw [ofLe_leBytes, Nat.mod_eq_of_lt hlt]
  rw [fieldBytes_of_lt hlt] at he
  refine exec_completes he hi (State.mayWrite_awake hm) ?_
  refine namedWrite_num hp hc (State.mayWrite_blank.trans hm) hobj hidx hsub h0 hcmd hflush (by simpa using htype) hsize
    (leBytes_length ..) (hv.symm ▸ hr) ?_
  rw [hv]
  exact hw _ State.touchClient_blank

/-! ### CTX_ENTRY (R34, R307) -/

/-- Writing a word of the firmware tables changes the fault state alone. -/
theorem State.writeRecordWord_ras (s : State) (w : Nat) : s.writeRecordWord w = { s with ras := (s.writeRecordWord w).ras } := by
  simp only [State.writeRecordWord, List.foldl_cons, List.foldl_nil]
  split <;> split <;> rfl

theorem State.writeRecordWord_tenant (s : State) (w : Nat) : (s.writeRecordWord w).tenant = s.tenant := by
  rw [State.writeRecordWord_ras]

theorem State.writeRecordWord_inEffect (s : State) (w index sub : Nat) : (s.writeRecordWord w).inEffect index sub = s.inEffect index sub := by
  rw [State.writeRecordWord_ras]
  rfl

/-- A context entry within its ranges, whose guarantee the regulator can keep beside those of the other contexts, is taken. -/
theorem State.writeCtx_accepts {s : State} {n : Nat} {w : Word128} (hb : ctxBudget (ctxNormal n w) ≤ 32768)
    (hg : ctxValid (ctxNormal n w) = true → ctxGuarantee (ctxNormal n w) ≤ ctxBudget (ctxNormal n w))
    (ht : s.tenant.ctx.foldl (fun m (p : Nat × Word128) => if p.1 != n && ctxValid p.2 then m + ctxGuarantee p.2 else m) 0 +
      (if ctxValid (ctxNormal n w) then ctxGuarantee (ctxNormal n w) else 0) ≤ 32768 - s.inEffect 0x4400 5) :
    s.writeCtx n w.toNat =
      .ok (({ s with tenant := { s.tenant with ctx := Table.set (ctxNormal n 0) s.tenant.ctx n (ctxNormal n w) } } : State).reclassify n) := by
  have hw : BitVec.ofNat 128 w.toNat = w := by simp
  simp only [State.writeCtx, hw]
  refine if_neg ?_
  rw [Bool.or_eq_true, Bool.or_eq_true, Bool.and_eq_true, decide_eq_true_eq, decide_eq_true_eq, decide_eq_true_eq]
  rintro ((h | ⟨hv, h⟩) | h)
  · exact absurd hb (by omega)
  · exact absurd (hg hv) (by omega)
  · exact absurd ht (by omega)

/-- POWER_CAP is taken when no chart that holds entries needs more banks of a group. -/
theorem State.writePowerCap_accepts {s : State} {v : Nat}
    (h : (s.search.charts.any fun (p : Nat × Chart) =>
      p.1 != 0 && (p.2.st == .valid || p.2.st == .moving) && decide (v < banksPerGroup p.2.desc1)) = false) :
    s.writePowerCap v = .ok (s.setReg 0x3000 4 v) := by
  simp only [State.writePowerCap, h, Bool.false_eq_true, if_false]

/-! ### LOOKASIDE_FLUSH (R45) -/

/-- A write of LOOKASIDE_FLUSH that nothing bars purges the lookaside buffers and leaves its response to the end of the drain. -/
theorem namedWrite_flush {s : State} {c : Client} (hc : c.ok = true) (h : s.mayWrite c 0x2020 2 none = true) :
    s.namedWrite c 0x2020 2 (leBytes 1 1) none = (s.touchClient c).flushLookaside (some (c, writeHeader c 0x2020 2 1)) := by
  have hd : objDef 0x2020 2 = some ⟨0x2020, 2, .bool, .wo, 0, 1, 1⟩ := rfl
  simp only [State.mayWrite, hd, Bool.and_eq_true, bne_iff_ne, ne_eq, Bool.not_eq_true', Option.isNone_iff_eq_none] at h
  obtain ⟨⟨⟨⟨-, hear⟩, busy⟩, hn⟩, hb⟩ := h
  have hl : (leBytes 1 1).length ≤ frameLimit c.transport := (leBytes_length 1 1).le.trans ((by decide : 1 ≤ 240).trans (frameLimit_ge _))
  obtain ⟨-, -, -, -, -, hidx, hsub, -, -⟩ := writeHeader_fields (c := c) (index := 0x2020) (sub := 2) (len := (leBytes 1 1).length)
    (Client.number_lt hc) (by decide) (by decide) (limit_lt hl)
  rw [namedWrite_serves rfl hc hn hear busy (by decide) (by decide) hl]
  have hcl := namedFrame_client (pick := none) hc (by decide : 0x2020 < 2 ^ 16) (by decide : 2 < 2 ^ 8) hl
  rw [← namedFrame_header (pick := none)] at hidx hsub
  simp only [State.writeFrame, hidx, hsub, hcl]
  simp [namedFrame, hb, answered, leBytes, ofLe]

/-! ### The rules of the objects written -/

/-- A window shows an item below the bound of its select object. -/
theorem windowShows_of_lt {w n k : Nat} (hw : ((objDef w 1).any fun d => d.lo == 0 && d.hi + 1 == k) = true) (hn : n < k) :
    State.windowShows (some (w, n)) = true := by
  cases hd : objDef w 1 with
  | none => simp [hd] at hw
  | some d =>
    simp only [hd, Option.any_some, Bool.and_eq_true, beq_iff_eq] at hw
    exact windowShows_of hd (by omega)

/-- Through its own window a client writes the item that the write names. -/
@[simp] theorem State.picked_window (s : State) (c : Client) (w n : Nat) : s.picked c (some (w, n)) w 1 = n := by
  simp [State.picked, State.selItem]

/-- Firmware's tables hold no word of an object that is not kept in them (R277). -/
theorem State.writeTables_of_none {s : State} {sel : Selector} {index sub : Nat} (h : State.tableWordOf sel index sub = none) :
    s.writeTables sel index sub = s := by
  simp [State.writeTables, h]

section rules
variable (s : State) (c : Client) (sel : Selector) (v : Nat)

theorem State.writeTables_ctxEntry : s.writeTables sel 0x2000 2 = s.writeRecordWord (ctxRecord (sel 0x2000 1)) := rfl

theorem State.writeNum_ctxEntry : s.writeNum c sel 0x2000 2 v = s.writeCtx (sel 0x2000 1) v := rfl

theorem State.writeNum_ctxPeak : s.writeNum c sel 0x4410 4 v = .ok (s.modAcct (sel 0x4410 1) fun a => { a with peak := a.held }) := rfl

theorem State.writeNum_wbHighWater :
    s.writeNum c sel 0x2210 5 v = .ok (s.modSlice (sel 0x2210 1) fun x => { x with wbHigh := x.writeBuf.length }) := rfl

theorem State.writeNum_portSuspect :
    s.writeNum c sel 0x2420 4 v = .ok (s.modPort (sel 0x2420 1) fun x => { x with suspect := false }) := rfl

theorem State.writeNum_powerCap : s.writeNum c sel 0x3000 4 v = s.writePowerCap v := rfl

theorem State.writeNum_rowSelect : s.writeNum c sel 0x3030 1 v =
    .ok ((s.modClient c fun x => { x with selects := Table.set 0 x.selects (0x3030 * 256 + 1) v }).latchRow (clientKey c) v) := by
  have h : s.writeNum c sel 0x3030 1 v = .ok (s.writeSelect c 0x3030 1 v) := rfl
  simp [h, State.writeSelect, State.writeRow]

theorem State.writeNum_rowSource : s.writeNum c sel 0x3030 2 v =
    .ok (({ s with search := { s.search with rowSource := v } } : State).latchRow (clientKey c) (s.selOf c 0x3030 1)) := by
  have h : s.writeNum c sel 0x3030 2 v = .ok (s.writeRow c true v) := rfl
  simp [h, State.writeRow]

theorem State.writeNum_classLeakInterval : s.writeNum c sel 0x4211 3 v =
    .ok ((s.setRegAt 0x4211 3 (sel 0x4211 1) v).restartGrid (sel 0x4211 1)) := rfl

theorem State.writeNum_drydockLeakInterval : s.writeNum c sel 0x2230 2 v = .ok ((s.setReg 0x2230 2 v).restartGrid 15) := rfl

end rules

/-! ### The writes -/

theorem exec_rowSelect_row (c : Client) (v : Nat) (s : State) : exec (.rowSelect c false v) s =
    run (.rowSelect c false v) s fun u => u.namedWrite c 0x3030 1 (fieldBytes v 4) none := by
  simp only [exec_rowSelect, Bool.false_eq_true, if_false]

theorem exec_rowSelect_source (c : Client) (v : Nat) (s : State) : exec (.rowSelect c true v) s =
    run (.rowSelect c true v) s fun u => u.namedWrite c 0x3030 2 (fieldBytes v 1) none := by
  simp only [exec_rowSelect, if_true]

/-- Settles O12: every object's own rule accepts the value, and its effect is what the statement writes out. -/
theorem tenancyWrites : Obligations.TenancyWrites := by
  intro s c hc
  refine ⟨fun n w hn hm hb hg ht => ?_, fun n hn hm => ?_, fun k hk hm => ?_, fun p hp hm => ?_, fun hm => ?_,
    fun v hlo hhi hm hcap => ?_, fun v hv hm => ?_, fun v hv hm => ?_, fun n v hn hlo hhi hm => ?_, fun v hlo hhi hm => ?_⟩
  · have hf := exec_ctxEntry c n w s
    rw [← fieldBytes_of_lt (show w.toNat < 256 ^ 16 from w.isLt)] at hf
    refine exec_numberWrite ⟨0x2000, 2, .u128, .rw, 0, 0, 2 ^ 128 - 1⟩ hf hc hc hm (by decide)
      (windowShows_of_lt rfl hn) ⟨Nat.zero_le _, Nat.le_pred_of_lt w.isLt⟩ ?_
    rintro u rfl
    rw [State.writeTables_ctxEntry, State.writeNum_ctxEntry, State.picked_window]
    refine State.writeCtx_accepts hb hg ?_
    rw [State.writeRecordWord_tenant, State.writeRecordWord_inEffect]
    exact ht
  · refine exec_numberWrite ⟨0x4410, 4, .u16, .rw, 0, 0, 0⟩ (exec_ctxPeak c n 0 s) hc hc hm (by decide)
      (windowShows_of_lt rfl hn) ⟨le_rfl, le_rfl⟩ fun u _ => ?_
    rw [State.writeTables_of_none rfl, State.writeNum_ctxPeak, State.picked_window]
  · refine exec_numberWrite ⟨0x2210, 5, .u8, .rw, 0, 0, 0⟩ (exec_wbHighWater c k 0 s) hc hc hm (by decide)
      (windowShows_of_lt rfl hk) ⟨le_rfl, le_rfl⟩ fun u _ => ?_
    rw [State.writeTables_of_none rfl, State.writeNum_wbHighWater, State.picked_window]
  · refine exec_numberWrite ⟨0x2420, 4, .bool, .rw, 0, 0, 0⟩ (exec_portSuspectClear c p 0 s) hc hc hm (by decide)
      (windowShows_of_lt rfl hp) ⟨le_rfl, le_rfl⟩ fun u _ => ?_
    rw [State.writeTables_of_none rfl, State.writeNum_portSuspect, State.picked_window]
  · exact exec_completes (exec_lookasideFlush c 1 s) hc (State.mayWrite_awake hm)
      (namedWrite_flush hc (State.mayWrite_blank.trans hm))
  · refine exec_numberWrite ⟨0x3000, 4, .u8, .rw, 8, 1, 0x20⟩ (exec_powerCap c v s) hc hc hm (by decide) rfl
      ⟨hlo, hhi⟩ ?_
    rintro u rfl
    rw [State.writeTables_of_none rfl, State.writeNum_powerCap]
    exact State.writePowerCap_accepts hcap
  · refine exec_numberWrite ⟨0x3030, 1, .u32, .rw, 0, 0, 0x1FFFFF⟩ (exec_rowSelect_row c v s) hc hc hm (by decide) rfl
      ⟨Nat.zero_le _, hv⟩ fun u _ => ?_
    rw [State.writeTables_of_none rfl, State.writeNum_rowSelect]
  · refine exec_numberWrite ⟨0x3030, 2, .u8, .rw, 0, 0, 1⟩ (exec_rowSelect_source c v s) hc hc hm (by decide) rfl
      ⟨Nat.zero_le _, hv⟩ fun u _ => ?_
    rw [State.writeTables_of_none rfl, State.writeNum_rowSource]
  · refine exec_numberWrite ⟨0x4211, 3, .u32, .rw, 0xEA60, 1, 0x36EE80⟩ (exec_leakIntervalWrite c (some n) v s)
      hc hc hm (by decide) (windowShows_of_lt rfl hn) ⟨hlo, hhi⟩ fun u _ => ?_
    rw [State.writeTables_of_none rfl, State.writeNum_classLeakInterval, State.picked_window]
  · refine exec_numberWrite ⟨0x2230, 2, .u32, .rw, 0x64, 1, 0x186A0⟩ (exec_leakIntervalWrite c none v s)
      hc hc hm (by decide) rfl ⟨hlo, hhi⟩ fun u _ => ?_
    rw [State.writeTables_of_none rfl, State.writeNum_drydockLeakInterval]

end Sys2Proof.Machine
end


section
/-! SUPPORT. Chapter 3, the cache slices: where a sector lives, bytes of a sector and the atomics on them, the steps of the slices and of the pool, the passes and commands of the cache, and the state after reset. -/

namespace Sys2Proof.Machine

/-! ### Fields of numbers -/

theorem bits_eq (v lo width : Nat) : bits v lo width = v / 2 ^ lo % 2 ^ width := by
  rw [bits, Nat.shiftRight_eq_div_pow]

theorem bits_lt (v lo width : Nat) : bits v lo width < 2 ^ width := Nat.mod_lt _ (Nat.two_pow_pos width)

theorem bits_xor (v w lo width : Nat) : bits (v ^^^ w) lo width = bits v lo width ^^^ bits w lo width := by
  rw [bits, Nat.shiftRight_xor_distrib, Nat.xor_mod_two_pow, bits, bits]

theorem testBit_fld {n : Nat} (w : BitVec n) (lo width i : Nat) :
    (fld w lo width).testBit i = (decide (i < width) && w.getLsbD (lo + i)) := by
  rw [fld, bits, Nat.testBit_mod_two_pow, Nat.testBit_shiftRight, BitVec.getLsbD]

theorem fld_congr {n : Nat} {v w : BitVec n} {lo width : Nat} (h : ∀ i < width, v.getLsbD (lo + i) = w.getLsbD (lo + i)) :
    fld v lo width = fld w lo width := by
  refine Nat.eq_of_testBit_eq fun i => ?_
  rw [testBit_fld, testBit_fld]
  by_cases hi : i < width
  · rw [h i hi]
  · simp [hi]

/-! ### Where a sector lives (R52) -/

/-- The home slice is the exclusive-or of the six fields of DPA[44:10]. -/
theorem homeSlice_eq (dpa : Nat) : homeSlice dpa =
    bits dpa 10 6 ^^^ bits dpa 16 6 ^^^ (bits dpa 22 6 ^^^ bits dpa 28 6) ^^^ (bits dpa 34 6 ^^^ bits dpa 40 5) := rfl

theorem homeSlice_lt (dpa : Nat) : homeSlice dpa < 64 := by
  have hxor : ∀ {a b : Nat}, a < 2 ^ 6 → b < 2 ^ 6 → a ^^^ b < 2 ^ 6 := Nat.xor_lt_two_pow
  have hlast : bits dpa 40 5 < 2 ^ 6 := (bits_lt dpa 40 5).trans (by decide)
  exact hxor (hxor (hxor (bits_lt ..) (bits_lt ..)) (hxor (bits_lt ..) (bits_lt ..))) (hxor (bits_lt ..) hlast)

/-- The hash is linear over exclusive-or. -/
theorem homeSlice_xor (a b : Nat) : homeSlice (a ^^^ b) = homeSlice a ^^^ homeSlice b := by
  simp only [homeSlice_eq, bits_xor]
  ac_rfl

theorem homeSlice_two_pow_ne_zero : ∀ b < 45, 10 ≤ b → homeSlice (2 ^ b) ≠ 0 := by decide

theorem homeSlice_flip_ne (dpa : Nat) {b : Nat} (h10 : 10 ≤ b) (h45 : b < 45) : homeSlice (dpa ^^^ 2 ^ b) ≠ homeSlice dpa := by
  rw [homeSlice_xor]
  exact fun h => homeSlice_two_pow_ne_zero b h45 h10 (Nat.xor_right_injective (h.trans (Nat.xor_zero _).symm))

/-- The lowest field of the hash comes back from the slice and the five other fields. -/
theorem homeSlice_xor_upper (dpa : Nat) : homeSlice dpa ^^^ (bits dpa 16 6 ^^^ bits dpa 22 6 ^^^
    (bits dpa 28 6 ^^^ bits dpa 34 6 ^^^ bits dpa 40 5)) = bits dpa 10 6 := by
  rw [homeSlice_eq]
  generalize bits dpa 10 6 = f
  calc _ = f ^^^ ((bits dpa 16 6 ^^^ bits dpa 22 6 ^^^ (bits dpa 28 6 ^^^ bits dpa 34 6 ^^^ bits dpa 40 5)) ^^^
        (bits dpa 16 6 ^^^ bits dpa 22 6 ^^^ (bits dpa 28 6 ^^^ bits dpa 34 6 ^^^ bits dpa 40 5))) := by ac_rfl
    _ = f := by rw [Nat.xor_self, Nat.xor_zero]

/-- Settles O48: the hash is an exclusive-or, so that it is inverted by itself and changes with each bit. -/
theorem homeOfAddress : Obligations.HomeOfAddress := by
  intro dpa hd
  refine ⟨⟨homeSlice_lt dpa, ?_⟩, fun b h10 h45 => homeSlice_flip_ne dpa h10 h45⟩
  have f1 : bits dpa 16 12 % 64 = bits dpa 16 6 := by simp only [bits_eq]; omega
  have f2 : bits dpa 16 12 / 64 = bits dpa 22 6 := by simp only [bits_eq]; omega
  have f3 : bits dpa 28 17 % 64 = bits dpa 28 6 := by simp only [bits_eq]; omega
  have f4 : bits dpa 28 17 / 64 % 64 = bits dpa 34 6 := by simp only [bits_eq]; omega
  have f5 : bits dpa 28 17 / 4096 = bits dpa 40 5 := by simp only [bits_eq]; omega
  rw [f1, f2, f3, f4, f5]
  refine Eq.trans ?_ (congrArg (bits dpa 28 17 * 2 ^ 18 + bits dpa 16 12 * 2 ^ 6 + ·) (homeSlice_xor_upper dpa).symm)
  simp only [bits_eq]
  omega

/-! ### The bytes of a sector (R73) -/

/-- The mask of the bytes of a sector that a test names. -/
def byteMask (p : Nat → Bool) (n : Nat) : Nat := (List.range n).foldl (fun m i => if p i then m + 0xFF * 2 ^ (8 * i) else m) 0

theorem byteMask_succ (p : Nat → Bool) (n : Nat) :
    byteMask p (n + 1) = 2 ^ (8 * n) * (if p n then 0xFF else 0) + byteMask p n := by
  rw [byteMask, List.range_succ, List.foldl_append, List.foldl_cons, List.foldl_nil, ← byteMask]
  cases p n
  · simp
  · simp [Nat.add_comm, Nat.mul_comm]

theorem byteMask_lt (p : Nat → Bool) (n : Nat) : byteMask p n < 2 ^ (8 * n) := by
  induction n with
  | zero => exact Nat.one_pos
  | succ n ih =>
    have h256 : 2 ^ (8 * (n + 1)) = 2 ^ (8 * n) * 256 := by rw [Nat.mul_succ, Nat.pow_add]
    have hb : (if p n then 0xFF else 0) ≤ 255 := by split <;> decide
    have := Nat.mul_le_mul_left (2 ^ (8 * n)) hb
    rw [byteMask_succ, h256]
    omega

theorem testBit_fullByte (i : Nat) : Nat.testBit 0xFF i = decide (i < 8) := Nat.testBit_two_pow_sub_one 8 i

theorem testBit_byteMask (p : Nat → Bool) (n j : Nat) :
    (byteMask p n).testBit j = (decide (j < 8 * n) && p (j / 8)) := by
  induction n with
  | zero => simp [byteMask]
  | succ n ih =>
    rw [byteMask_succ, Nat.testBit_two_pow_mul_add _ (byteMask_lt p n), ih]
    by_cases hlow : j < 8 * n
    · have hj : j < 8 * (n + 1) := by omega
      simp [hlow, hj]
    · by_cases hhigh : j < 8 * (n + 1)
      · have hj : j / 8 = n := by omega
        have hbit : j - 8 * n < 8 := by omega
        cases hp : p n <;> simp [hlow, hhigh, hj, hp, testBit_fullByte, hbit]
      · have hbit : ¬ j - 8 * n < 8 := by omega
        cases p n <;> simp [hlow, hhigh, testBit_fullByte, hbit]

/-- A byte of a merged sector is the new one where the mask names it, and the old one elsewhere. -/
theorem getLsbD_mergeBytes (d w : Sector) (mask : Mask64) {j : Nat} (hj : j < 512) :
    (mergeBytes d w mask).getLsbD j = if mask.getLsbD (j / 8) then w.getLsbD j else d.getLsbD j := by
  have hm : (BitVec.ofNat 512 (byteMask mask.getLsbD 64)).getLsbD j = mask.getLsbD (j / 8) := by
    rw [BitVec.getLsbD_ofNat, testBit_byteMask]
    simp [hj]
  have hd : mergeBytes d w mask = (d &&& ~~~(BitVec.ofNat 512 (byteMask mask.getLsbD 64))) |||
    (w &&& BitVec.ofNat 512 (byteMask mask.getLsbD 64)) := rfl
  rw [hd, BitVec.getLsbD_or, BitVec.getLsbD_and, BitVec.getLsbD_and, BitVec.getLsbD_not, hm]
  cases mask.getLsbD (j / 8) <;> simp [hj]

/-- A sector with the `n` bytes from byte `a` up replaced by those of a number. -/
def putBytes (d : Sector) (a n v : Nat) : Sector :=
  mergeBytes d (BitVec.ofNat 512 (v <<< (8 * a))) (BitVec.ofNat 64 ((2 ^ n - 1) <<< a))

theorem getLsbD_putBytes (d : Sector) {a n v j : Nat} (hj : j < 512) :
    (putBytes d a n v).getLsbD j = if 8 * a ≤ j ∧ j < 8 * (a + n) then v.testBit (j - 8 * a) else d.getLsbD j := by
  rw [putBytes, getLsbD_mergeBytes d _ _ hj, BitVec.getLsbD_ofNat, Nat.testBit_shiftLeft, Nat.testBit_two_pow_sub_one,
    BitVec.getLsbD_ofNat, Nat.testBit_shiftLeft]
  by_cases h : 8 * a ≤ j ∧ j < 8 * (a + n)
  · have h1 : j / 8 < 64 ∧ a ≤ j / 8 ∧ j / 8 - a < n := by omega
    simp [h, h1, hj]
  · have h1 : a ≤ j / 8 → ¬ j / 8 - a < n := by omega
    simp +contextual [h, h1]

theorem fld_putBytes (d : Sector) {a n v : Nat} (hn : a + n ≤ 64) (hv : v < 2 ^ (8 * n)) :
    fld (putBytes d a n v) (8 * a) (8 * n) = v := by
  refine Nat.eq_of_testBit_eq fun i => ?_
  rw [testBit_fld]
  by_cases hi : i < 8 * n
  · rw [getLsbD_putBytes d (by omega), if_pos (by omega)]
    simp [hi]
  · have hp : 2 ^ (8 * n) ≤ 2 ^ i := Nat.pow_le_pow_right (by decide) (by omega)
    simp [hi, Nat.testBit_lt_two_pow (hv.trans_le hp)]

theorem byte_putBytes_of_outside (d : Sector) {a n v i : Nat} (hi : i < 64) (h : i < a ∨ a + n ≤ i) :
    fld (putBytes d a n v) (8 * i) 8 = fld d (8 * i) 8 :=
  fld_congr fun t ht => by rw [getLsbD_putBytes d (by omega), if_neg (by omega)]

/-! ### The atomics (R73, R118, R151) -/

theorem toNat_ofNat_shiftRight (d : Sector) (a n : Nat) : (BitVec.ofNat n (d.toNat >>> a)).toNat = fld d a n := by
  rw [BitVec.toNat_ofNat, fld, bits]

theorem swap_apply (dpa : Nat) (d : Sector) (n : Word128) : (AtomicOp.swap n).apply dpa d =
    (BitVec.ofNat 128 (d.toNat >>> (8 * bits dpa 0 6)), some (putBytes d (bits dpa 0 6) 16 n.toNat), true) := rfl

theorem fadd_apply (dpa : Nat) (d : Sector) (a : Word64) : (AtomicOp.fadd a).apply dpa d =
    (BitVec.ofNat 128 (BitVec.ofNat 64 (d.toNat >>> (8 * bits dpa 0 6))).toNat,
      some (putBytes d (bits dpa 0 6) 8 (BitVec.ofNat 64 (d.toNat >>> (8 * bits dpa 0 6)) + a).toNat), true) := rfl

theorem cas_apply (dpa : Nat) (d : Sector) (c n : Word128) : (AtomicOp.cas c n).apply dpa d =
    if BitVec.ofNat 128 (d.toNat >>> (8 * bits dpa 0 6)) = c then (AtomicOp.swap n).apply dpa d
    else (BitVec.ofNat 128 (d.toNat >>> (8 * bits dpa 0 6)), none, false) := rfl

theorem cas_apply_fst (dpa : Nat) (d : Sector) (c n : Word128) :
    ((AtomicOp.cas c n).apply dpa d).1 = ((AtomicOp.swap n).apply dpa d).1 := by
  rw [cas_apply]
  split <;> rfl

/-- Settles O54: an atomic that writes puts its 16 or 8 bytes and leaves the others. -/
theorem atomicsOnBytes : Obligations.AtomicsOnBytes := by
  intro d dpa c n a
  have hb : bits dpa 0 6 = dpa % 64 := by simp [bits]
  refine ⟨fun h16 => ?_, fun h8 => ?_⟩
  · have hold := toNat_ofNat_shiftRight d (8 * (dpa % 64)) 128
    have heq : BitVec.ofNat 128 (d.toNat >>> (8 * (dpa % 64))) = c ↔ fld d (8 * (dpa % 64)) 128 = c.toNat := by
      rw [← hold, BitVec.toNat_inj]
    refine ⟨?_, fun hne => ?_, fun he => ?_, ?_⟩
    · have hswap : ((AtomicOp.swap n).apply dpa d).1.toNat = fld d (8 * (dpa % 64)) 128 := by rw [swap_apply, hb, hold]
      intro op hop
      rcases List.mem_pair.mp hop with rfl | rfl
      · rw [cas_apply_fst, hswap]
      · exact hswap
    · rw [cas_apply, hb, if_neg (mt heq.mp hne), ← hold, BitVec.ofNat_toNat, BitVec.setWidth_eq]
    · rw [cas_apply, hb, if_pos (heq.mpr he)]
    · rw [swap_apply, hb]
      exact ⟨_, rfl, fld_putBytes (n := 16) d h16 n.isLt, fun i hi ho => byte_putBytes_of_outside d hi ho⟩
  · have hold := toNat_ofNat_shiftRight d (8 * (dpa % 64)) 64
    rw [fadd_apply, hb]
    refine ⟨?_, _, rfl, ?_, fun i hi ho => byte_putBytes_of_outside d hi ho⟩
    · rw [hold, BitVec.toNat_ofNat]
      exact Nat.mod_eq_of_lt ((bits_lt ..).trans (by decide))
    · rw [fld_putBytes (n := 8) d h8 (BitVec.isLt _), BitVec.toNat_add, hold]

/-! ### The steps of the slices (R56 to R71) -/

theorem sliceOk_of_lt {k : Nat} (hk : k < 64) : sliceOk k = true := by simp [sliceOk, hk]

theorem dpaOk_of_lt {dpa : Nat} (hd : dpa < 2 ^ 45) : dpaOk dpa = true := by simp [dpaOk, hd, -Nat.reducePow]

namespace State
variable {s : State} {k : Nat}

theorem fillRegister_of_found {id : Nat} {m : MissReg} (h : (s.slice k).missRegs.find? (·.id == id) = some m) :
    s.fillRegister k id = s.fillReturned k m := by
  simp only [fillRegister, h]

/-- What the oldest read of the miss-wait queue does that can have a register: it repeats its lookup, and a read that the full queue held back takes its place. -/
def missWaitServed (s : State) (k : Nat) (r : Req) (rest : List Req) : State :=
  let s := (s.modSlice k fun x => { x with missWait := rest }).fetch k r
  match (s.slice k).trackers.find? fun t => t.stage == .missFull with
  | some t => (s.modTracker t.dpa fun t => { t with stage := .ready }).carryOn t.dpa
  | none => s

theorem serveMissWait_of_free {r : Req} {rest : List Req} (hw : (s.slice k).missWait = r :: rest) (hm : s.mergeable k r.dpa = none)
    (hl : (s.slice k).missRegs.length < 64) : s.serveMissWait k = s.missWaitServed k r rest := by
  have hfree : decide (64 ≤ (s.slice k).missRegs.length) = false := by simpa using hl
  simp only [serveMissWait, hw, hm, hfree]
  rfl

/-- With the cache off a waiting read takes no way. -/
theorem issueWaited_of_cacheOff {id : Nat} {m : MissReg}
    (hm : (s.slice k).missRegs.find? (fun m => m.id == id && m.stage == .waitWriteBuffer) = some m)
    (hb : s.wbHolds k m.dpa = false) (hc : s.cacheOn = false) : s.issueWaited k id = s.startFill k m none := by
  simp [issueWaited, hm, hb, hc]

theorem crossPrefetch_of_handedOver {dpa region svc : Nat} (h : s.cache.handoffs.contains (dpa, region, svc) = true) :
    s.crossPrefetch dpa region svc = s.takeHandoff dpa region svc := by
  simp only [crossPrefetch, h, Bool.not_true, Bool.false_eq_true, if_false]

theorem admitWrite_of_waiting {t : Tracker} (hr : s.wbRoom k = true)
    (ht : (s.slice k).trackers.find? (fun t => t.stage == .writeBuffer) = some t) :
    s.admitWrite k = (s.modTracker t.dpa fun t => { t with stage := .ready }).carryOn t.dpa := by
  simp only [admitWrite, hr, ht, Bool.not_true, Bool.false_eq_true, if_false]

theorem expireMerge_of_expired {dpa : Nat} {e : MergeEntry} (he : e ∈ (s.slice k).mergeBuf) (hd : e.dpa = sectorOf dpa)
    (ho : e.closed = false) (hx : s.mergeExpired e = true) : s.expireMerge k dpa = s.closeMerge k dpa :=
  if_pos (List.any_eq_true.mpr ⟨e, he, by simp [hd, ho, hx]⟩)

theorem sendNext_of_full {dpa : Nat} {e : WbEntry} (hf : s.writeInFlight dpa = false) (hw : s.waitingFull k dpa = some e)
    (hm : s.mergeOf k dpa = none) :
    s.sendNext k dpa = s.sendWrite k dpa e.region e.svc e.w [e.id] (e.origin == .poison) 0 := by
  simp only [sendNext, hf, hw, hm, Bool.false_eq_true, if_false]

end State

/-- Settles O3: each step finds what it is about, and nothing that it waits for is left. -/
theorem sliceSteps : Obligations.SliceSteps := by
  intro s k dpa ha hk hd
  have hok := sliceOk_of_lt hk
  have hdk : (sliceOk k && dpaOk dpa) = true := by rw [hok, dpaOk_of_lt hd]; rfl
  refine ⟨fun id m hm => ?_, fun r rest hw hm hl => ?_, fun id m hm hb hc => ?_, fun region svc hr hs hh => ?_,
    fun t hr ht => ?_, fun e he hs ho hx => ?_, fun e hf hw hm => ?_⟩
  · exact exec_completes (exec_fill k id s) hok ha (State.fillRegister_of_found hm)
  · exact exec_completes (exec_missWaitServe k s) hok ha (State.serveMissWait_of_free hw hm hl)
  · exact exec_completes (exec_writeBufferWaitReadIssue k id s) hok ha (State.issueWaited_of_cacheOff hm hb hc)
  · have hwf : (Instr.crossBlockPrefetch dpa region svc).wellFormed = true := by
      simp [Instr.wellFormed, dpaOk_of_lt hd, hr, hs]
    exact exec_completes (exec_crossBlockPrefetch dpa region svc s) hwf ha (State.crossPrefetch_of_handedOver hh)
  · exact exec_completes (exec_writeBufferAdmit k s) hok ha (State.admitWrite_of_waiting hr ht)
  · exact exec_completes (exec_mergeWindowExpiry k dpa s) hdk ha (State.expireMerge_of_expired he hs ho hx)
  · exact exec_completes (exec_pendingPoolWriteIssue k dpa s) hdk ha (State.sendNext_of_full hf hw hm)

/-! ### The steps of the pool (R68, R237, R242, R246, R248, R342) -/

namespace State
variable {s : State} {id : Nat} {o : PoolOp}

theorem encryptWrite_of_toPound (ho : s.opAt id = some o) (hw : o.write = true) (hr : o.rk = false) (hs : o.stage = .toPound) :
    s.encryptWrite id = (s.poundWrite o).jobStep := by
  simp [encryptWrite, ho, hw, hr, hs]

theorem writeCompleted_of_out {ok : Bool} (ho : s.opAt id = some o) (hw : o.write = true) (hs : o.stage = .out)
    (hm : s.metaWaits (.op id) = false) : s.writeCompleted id ok = ((s.endWrite o ok).afterOp o.dpa).jobStep := by
  simp [writeCompleted, ho, hw, hs, hm]

theorem readResponse_of_out {a : PoolAnswer} (ho : s.opAt id = some o) (hw : o.write = false) (hs : o.stage = .out)
    (hm : s.metaWaits (.op id) = false) : s.readResponse id a = ((s.finishRead o a).afterOp o.dpa).jobStep := by
  simp [readResponse, ho, hw, hs, hm]

/-- An access fails that is out without an answer: a write is lost, a read is poisoned. -/
theorem failAccess_of_out (ho : s.opAt id = some o) (hs : o.stage = .out) (hn : o.answer = none) :
    s.failAccess id = ((if o.write then s.endWrite o false else s.failRead o).afterOp o.dpa).jobStep := by
  cases hw : o.write <;> simp [failAccess, ho, hs, hn, hw]

theorem poolTimeout_of_due (hd : s.sentAt id + s.reg 0x5100 1 * 1000 ≤ s.now) : s.poolTimeout id = s.failAccess id :=
  if_neg (Nat.not_lt.mpr hd)

theorem poolTimeout_of_write (hd : s.sentAt id + s.reg 0x5100 1 * 1000 ≤ s.now) (ho : s.opAt id = some o) (hs : o.stage = .out)
    (hn : o.answer = none) (hw : o.write = true) : s.poolTimeout id = ((s.endWrite o false).afterOp o.dpa).jobStep := by
  rw [poolTimeout_of_due hd, failAccess_of_out ho hs hn, hw, if_pos rfl]

theorem poolTimeout_of_read (hd : s.sentAt id + s.reg 0x5100 1 * 1000 ≤ s.now) (ho : s.opAt id = some o) (hs : o.stage = .out)
    (hn : o.answer = none) (hw : o.write = false) : s.poolTimeout id = ((s.failRead o).afterOp o.dpa).jobStep := by
  rw [poolTimeout_of_due hd, failAccess_of_out ho hs hn, hw, if_neg Bool.false_ne_true]

theorem pageDone_of_started {j : PageJob} {answers : List PoolAnswer}
    (hj : s.prot.pages.find? (fun j => j.id == id && j.started) = some j) (hm : s.metaWaits (.page id) = false) :
    s.pageDone id answers = s.pageReturned j answers := by
  simp only [pageDone, hj, hm, Bool.false_eq_true, if_false]

end State

/-- Settles O4: each step finds its access or page at the stage that it ends. -/
theorem poolSteps : Obligations.PoolSteps := by
  intro s id o ha ho
  refine ⟨fun hw hr hs => ?_, fun ok hw hs hm => ?_, fun a hw hs hm => ?_, fun hd hs hn hw => ?_, fun hd hs hn hw => ?_,
    fun j answers hl hj hm => ?_⟩
  · exact exec_completes (exec_poolWriteEncrypt id s) rfl ha (State.encryptWrite_of_toPound ho hw hr hs)
  · exact exec_completes (exec_poolWriteCompletion id ok s) rfl ha (State.writeCompleted_of_out ho hw hs hm)
  · exact exec_completes (exec_poolReadResponse id a s) rfl ha (State.readResponse_of_out ho hw hs hm)
  · exact exec_completes (exec_poolTimeoutExpiry id s) rfl ha (State.poolTimeout_of_write hd ho hs hn hw)
  · exact exec_completes (exec_poolTimeoutExpiry id s) rfl ha (State.poolTimeout_of_read hd ho hs hn hw)
  · have hwf : (Instr.pageReencryptReadsDone id answers).wellFormed = true := by simp [Instr.wellFormed, hl]
    exact exec_completes (exec_pageReencryptReadsDone id answers s) hwf ha (State.pageDone_of_started hj hm)

/-! ### The passes of the cache (R77, R80, R84 to R86) -/

/-- Whether two lists share an element does not depend on their order. -/
theorem any_contains_comm {α : Type} [BEq α] [LawfulBEq α] (l m : List α) : l.any m.contains = m.any l.contains := by
  rw [Bool.eq_iff_iff]
  simp only [List.any_eq_true, List.contains_iff_mem]
  exact ⟨fun ⟨x, hl, hm⟩ => ⟨x, hm, hl⟩, fun ⟨x, hm, hl⟩ => ⟨x, hl, hm⟩⟩

namespace State
variable {s : State}

theorem drainDone_of_retired (hs : s.cache.st = .draining) (hp : s.cache.pendingInvalidate = false) (he : s.cache.deferredEnable = false)
    (hw : ((s.slices.map fun (p : Nat × Slice) => p.2.writeBuf.map (·.id)).flatten.any fun i => s.cache.drainIds.contains i) = false)
    (hf : (s.slices.any fun (p : Nat × Slice) => p.2.missRegs.any fun m => m.way.isSome) = false) :
    s.drainDone = { s with cache := { s.cache with st := .stale, deferredEnable := false, drainIds := [] } } := by
  rw [any_contains_comm] at hw
  simp only [drainDone, hs, hw, hf, hp, he]
  rfl

theorem passDone_of_invalidating (hs : s.cache.st = .invalidating) :
    s.passDone = { s.clearTags with cache := { s.clearTags.cache with
      st := if s.cache.deferredEnable then .enabled else .clean, deferredEnable := false } } := by
  simp only [passDone, hs]
  rfl

/-- CACHE_INVALIDATE of a cache that is off ends with its pass. -/
theorem passDone_of_command {t : Nat} (hs : s.cache.st = .clean ∨ s.cache.st = .stale) (hi : s.cache.invalidate = some t) :
    s.passDone = ({ s.clearTags with cache := { s.clearTags.cache with st := .clean, invalidate := none } } : State).endCmd t 0 := by
  rcases hs with hs | hs <;> simp only [passDone, hs, hi]

theorem moorFillsDone_of_filled {t w : Nat} (hm : s.cache.mooring = some (t, w)) (hz : s.cache.zeroing = false)
    (hf : (s.cache.tags.any fun t => (changingWays s.cache.moored w).contains (t.1 % 16) && t.2.sf != 0) = false) :
    s.moorFillsDone = { s with cache := { s.cache with
      zeroing := true, tags := s.cache.tags.filter fun t => !(changingWays s.cache.moored w).contains (t.1 % 16) } } := by
  simp only [moorFillsDone, hm, hz, hf, Bool.or_self, Bool.false_eq_true, if_false]

theorem zeroingDone_of_mooring {t w : Nat} (hm : s.cache.mooring = some (t, w)) (hz : s.cache.zeroing = true) :
    s.zeroingDone =
      let ways := changingWays s.cache.moored w
      let s' := (s.zeroWays fun _ x => ways.contains x).setModes ways (if s.cache.moored < w then .moored else .cache)
      ({ s' with cache := { s'.cache with moored := w, mooring := none, zeroing := false } } : State).endCmd t 0 := by
  simp only [zeroingDone, hm, hz, Bool.not_true, Bool.false_eq_true, if_false]

theorem zeroingDone_of_undrydock {t k w : Nat} (hm : s.cache.mooring = none) (hu : s.cache.undrydock = some (t, k, w)) :
    s.zeroingDone =
      let s := s.modSlice k fun x => { x with missRegs := mapIf (·.way == some w) (fun r => { r with way := none }) x.missRegs }
      let s := (s.zeroWays fun x y => x == k && y == w).setWayMode k w .cache
      ({ s with cache := { s.cache with
        undrydock := none, drydock := Table.set 0 s.cache.drydock (k * 16 + w) 0 } } : State).endCmd t 0 := by
  simp only [zeroingDone, hm, hu]

theorem drydockLeak_of_due (h : s.leakDue 15 (s.reg 0x2230 2) = true) :
    s.drydockLeak = { s.leakStep 15 with cache := { s.cache with drydock := Table.mapVals 0 (· - 1) s.cache.drydock } } := by
  simp only [drydockLeak, h, Bool.not_true, Bool.false_eq_true, if_false]

end State

/-- Settles O5: each pass finds the state that it ends, and nothing that it waits for is left. -/
theorem cachePasses : Obligations.CachePasses := by
  intro s ha
  refine ⟨fun hs hp he hw hf => ?_, fun hs => ?_, fun t hs hi => ?_, fun t w hm hz hf => ?_, fun t w hm hz => ?_,
    fun t k w hm hu => ?_, fun hl => ?_⟩
  · exact exec_completes (exec_cacheDrainDone s) rfl ha (State.drainDone_of_retired hs hp he hw hf)
  · exact exec_completes (exec_invalidatePassDone s) rfl ha (State.passDone_of_invalidating hs)
  · exact exec_completes (exec_invalidatePassDone s) rfl ha (State.passDone_of_command hs hi)
  · exact exec_completes (exec_moorFillsDone s) rfl ha (State.moorFillsDone_of_filled hm hz hf)
  · exact exec_completes (exec_wayZeroingDone s) rfl ha (State.zeroingDone_of_mooring hm hz)
  · exact exec_completes (exec_wayZeroingDone s) rfl ha (State.zeroingDone_of_undrydock hm hu)
  · exact exec_completes (exec_drydockLeak s) rfl ha (State.drydockLeak_of_due hl)

/-! ### The commands of the cache (R77, R80, R85) -/

/-- A command that its client may submit completes by ending with its result in the step that starts it. -/
theorem exec_command_ending {s : State} {i : Instr} {c : Client} {op ctag code : Nat} {params : List Byte} {f : State → State}
    (he : exec i s = run i s fun u => u.command c op ctag params) (hi : i.wellFormed = true) (hc : cmdOk c ctag = true)
    (ho : (cmdArea op).isSome = true) (ho' : op < 2 ^ 16) (ht : s.takes c op params = true)
    (hf : ∀ (m : MgmtSt) (x : RasSt) (o : List Out),
      State.startCommand { s with pending := [], mgmt := m, ras := x, out := o } (heldCommand s c op ctag params) =
        (f { s with pending := [], mgmt := m, ras := x, out := o }).endCmd s.mgmt.nextTicket code) :
    exec i s = .next (s.after i (State.ending c op ctag params code f)) :=
  exec_command_running (f := fun t u => (f u).endCmd t code) he hi hc ho ho' ht hf

namespace State
variable {s : State} {t : Nat}

theorem cacheEnable_of_enabled (h : s.cache.st = .enabled) : s.cacheEnable t = s.endCmd t 0 := by
  simp only [cacheEnable, h]

theorem cacheEnable_of_undeferred (h : s.cache.st = .draining ∨ s.cache.st = .invalidating) (hd : s.cache.deferredEnable = false) :
    s.cacheEnable t = ({ s with cache := { s.cache with deferredEnable := true } } : State).endCmd t 2 := by
  rcases h with h | h <;> simp only [cacheEnable, h, hd, Bool.false_eq_true, if_false]

theorem cacheEnable_of_deferred (h : s.cache.st = .draining ∨ s.cache.st = .invalidating) (hd : s.cache.deferredEnable = true) :
    s.cacheEnable t = s.endCmd t 0x2210 := by
  rcases h with h | h <;> simp only [cacheEnable, h, hd, if_true]

theorem cacheEnable_of_stale (h : s.cache.st = .stale) : s.cacheEnable t = s.endCmd t 0x2211 := by
  simp only [cacheEnable, h]

theorem cacheEnable_of_clean (h : s.cache.st = .clean) :
    s.cacheEnable t = ({ s with cache := { s.cache with st := .enabled } } : State).endCmd t 0 := by
  simp only [cacheEnable, h]

theorem cacheDisable_of_enabled (h : s.cache.st = .enabled) :
    s.cacheDisable t = (({ s with cache := { s.cache with
      st := .draining
      drainIds := (s.slices.map fun (p : Nat × Slice) => p.2.writeBuf.map (·.id)).flatten } } : State).closeAllMerges).endCmd t 1 := by
  simp only [cacheDisable, h]

theorem cacheDisable_of_pass (h : s.cache.st = .draining ∨ s.cache.st = .invalidating) :
    s.cacheDisable t = ({ s with cache := { s.cache with deferredEnable := false } } : State).endCmd t 1 := by
  rcases h with h | h <;> simp only [cacheDisable, h]

theorem cacheDisable_of_off (h : s.cache.st = .stale ∨ s.cache.st = .clean) : s.cacheDisable t = s.endCmd t 0 := by
  rcases h with h | h <;> simp only [cacheDisable, h]

theorem cacheInvalidate_of_enabled (h : s.cache.st = .enabled) : s.cacheInvalidate t = s.endCmd t 0x2210 := by
  simp only [cacheInvalidate, h]

theorem cacheInvalidate_of_draining (h : s.cache.st = .draining) :
    s.cacheInvalidate t = ({ s with cache := { s.cache with pendingInvalidate := true } } : State).endCmd t 3 := by
  simp only [cacheInvalidate, h]

theorem cacheInvalidate_of_invalidating (h : s.cache.st = .invalidating) : s.cacheInvalidate t = s.endCmd t 3 := by
  simp only [cacheInvalidate, h]

theorem cacheInvalidate_of_off (h : s.cache.st = .stale ∨ s.cache.st = .clean) :
    s.cacheInvalidate t = { s with cache := { s.cache with invalidate := some t } } := by
  rcases h with h | h <;> simp only [cacheInvalidate, h]

/-- CACHE_MOOR whose checks pass puts the changing ways in TRANSITION. -/
theorem cacheMoor_starts {w : Nat} (h14 : w ≤ 14) (hne : w ≠ s.cache.moored) (hd : s.cache.st ≠ .draining) (hi : s.cache.st ≠ .invalidating)
    (hup : s.cache.moored < w → ((List.range 64).any fun k => ((changingWays s.cache.moored w).any fun x => s.wayMode k x == .drydocked) ||
      decide (((List.range (16 - w)).filter fun x => s.wayMode k x == .cache).length < 2)) = false)
    (hdown : w < s.cache.moored → s.mooredInUse w = false) :
    s.cacheMoor t w =
      let ways := changingWays s.cache.moored w
      { s.setModes ways .transition with cache := { (s.setModes ways .transition).cache with
        mooring := some (t, w), zeroing := decide (w < s.cache.moored) } } := by
  have h1 : ¬ 14 < w := by omega
  have h2 : (s.cache.st == .draining || s.cache.st == .invalidating) = false := by simp [hd, hi]
  unfold cacheMoor
  dsimp only
  rw [if_neg h1, h2, if_neg Bool.false_ne_true, if_neg, if_neg, if_neg hne]
  · rw [Bool.and_eq_true, decide_eq_true_eq]
    exact fun ⟨hlt, hu⟩ => Bool.false_ne_true ((hdown hlt).symm.trans hu)
  · rw [Bool.and_eq_true, decide_eq_true_eq]
    exact fun ⟨hlt, hu⟩ => Bool.false_ne_true ((hup hlt).symm.trans hu)

theorem cacheUndrydock_starts {k w : Nat} (hk : k < 64) (hw : w < 16) (hm : s.wayMode k w = .drydocked) (hd : s.cache.st ≠ .draining)
    (hi : s.cache.st ≠ .invalidating) : s.cacheUndrydock t k w = { s with cache := { s.cache with undrydock := some (t, k, w) } } := by
  have h1 : ¬ 63 < k := by omega
  have h2 : ¬ 15 < w := by omega
  simp [cacheUndrydock, h1, h2, hm, hd, hi]

end State

section startCacheCommand
variable (u s : State) (c : Client) (g : Nat)

theorem startCommand_cacheEnable : u.startCommand (heldCommand s c 0x2201 g []) = u.cacheEnable s.mgmt.nextTicket := Eq.refl _

theorem startCommand_cacheDisable : u.startCommand (heldCommand s c 0x2202 g []) = u.cacheDisable s.mgmt.nextTicket := Eq.refl _

theorem startCommand_cacheInvalidate : u.startCommand (heldCommand s c 0x2203 g []) = u.cacheInvalidate s.mgmt.nextTicket := Eq.refl _

theorem startCommand_cacheMoor {w : Nat} (hw : w < 256) :
    u.startCommand (heldCommand s c 0x2204 g (leBytes w 1)) = u.cacheMoor s.mgmt.nextTicket w := by
  have hp : param (leBytes w 1) 0 1 = w := (param_leBytes w 1).trans (Nat.mod_eq_of_lt hw)
  exact congrArg (u.cacheMoor s.mgmt.nextTicket) hp

theorem startCommand_cacheUndrydock {k w : Nat} (hk : k < 256) (hw : w < 256) :
    u.startCommand (heldCommand s c 0x2205 g (leBytes k 1 ++ leBytes w 1)) = u.cacheUndrydock s.mgmt.nextTicket k w := by
  have hp : param (leBytes k 1 ++ leBytes w 1) 0 1 = k := (param_leBytes k 1).trans (Nat.mod_eq_of_lt hk)
  have hq : param (leBytes k 1 ++ leBytes w 1) 1 1 = w := (param_leBytes w 1).trans (Nat.mod_eq_of_lt hw)
  exact congrArg₂ (u.cacheUndrydock s.mgmt.nextTicket) hp hq

end startCacheCommand

/-- Settles O6: a submission leaves the cache as it is, so that a command finds the state that its row of R85 names, or passes its checks. -/
theorem cacheCommandsByState : Obligations.CacheCommandsByState := by
  refine ⟨fun s c g hc => ⟨fun ht => ?_, fun ht => ?_, fun ht => ?_⟩,
    fun s c g w k hc hw hk => ⟨fun ht h14 hne hd hi hup hdown => ?_, fun ht hw16 hm hd hi => ?_⟩⟩
  · have ends {code f} := exec_command_ending (code := code) (f := f) (exec_cacheEnable c g s) hc hc rfl (by decide) ht
    have starts (u : State) := startCommand_cacheEnable u s c g
    exact ⟨fun h => ends fun _ _ _ => (starts _).trans (State.cacheEnable_of_enabled h),
      fun h hd => ends fun _ _ _ => (starts _).trans (State.cacheEnable_of_undeferred h hd),
      fun h hd => ends fun _ _ _ => (starts _).trans (State.cacheEnable_of_deferred h hd),
      fun h => ends fun _ _ _ => (starts _).trans (State.cacheEnable_of_stale h),
      fun h => ends fun _ _ _ => (starts _).trans (State.cacheEnable_of_clean h)⟩
  · have ends {code f} := exec_command_ending (code := code) (f := f) (exec_cacheDisable c g s) hc hc rfl (by decide) ht
    have starts (u : State) := startCommand_cacheDisable u s c g
    exact ⟨fun h => ends fun _ _ _ => (starts _).trans (State.cacheDisable_of_enabled h),
      fun h => ends fun _ _ _ => (starts _).trans (State.cacheDisable_of_pass h),
      fun h => ends fun _ _ _ => (starts _).trans (State.cacheDisable_of_off h)⟩
  · have ends {code f} := exec_command_ending (code := code) (f := f) (exec_cacheInvalidate c g s) hc hc rfl (by decide) ht
    have starts (u : State) := startCommand_cacheInvalidate u s c g
    exact ⟨fun h => ends fun _ _ _ => (starts _).trans (State.cacheInvalidate_of_enabled h),
      fun h => ends fun _ _ _ => (starts _).trans (State.cacheInvalidate_of_draining h),
      fun h => ends fun _ _ _ => (starts _).trans (State.cacheInvalidate_of_invalidating h),
      fun h => exec_command_running (exec_cacheInvalidate c g s) hc hc rfl (by decide) ht fun _ _ _ =>
        (starts _).trans (State.cacheInvalidate_of_off h)⟩
  · have hb : fieldBytes w 1 = leBytes w 1 := fieldBytes_of_lt hw
    exact exec_command_running (hb ▸ exec_cacheMoor c g w s) hc hc rfl (by decide) ht fun _ _ _ =>
      (startCommand_cacheMoor _ _ _ _ hw).trans (State.cacheMoor_starts h14 hne hd hi hup hdown)
  · have hb : fieldBytes k 1 ++ fieldBytes w 1 = leBytes k 1 ++ leBytes w 1 := by
      rw [fieldBytes_of_lt (by omega : k < 256 ^ 1), fieldBytes_of_lt hw]
    exact exec_command_running (hb ▸ exec_cacheUndrydock c g k w s) hc hc rfl (by decide) ht fun _ _ _ =>
      (startCommand_cacheUndrydock _ _ _ _ (by omega) hw).trans (State.cacheUndrydock_starts hk hw16 hm hd hi)

/-! ### The state after reset (R82, R164, R416) -/

/-- A table that lists the values of a function at some keys gives each listed key its value. -/
theorem Table.get_map_graph {α : Type} (d : α) (f : Nat → α) (l : List Nat) (n : Nat) :
    Table.get d (l.map fun k => (k, f k)) n = if n ∈ l then f n else d := by
  induction l with
  | nil => rfl
  | cons k l ih =>
    rw [List.map_cons, Table.get, ih]
    by_cases h : k = n
    · simp [h]
    · simp [h, Ne.symm h]

/-- The port of a number as a cold start leaves it. -/
def coldPort (straps : BitVec 32) (p : Nat) : Port where
  cfg := BitVec.ofNat 32 ((if strapField straps 10 2 = 3 then 0 else 2 ^ 31) + p * 2 ^ 22 + 2 ^ 19)
  st := if strapField straps 10 2 = 3 then .disabled else .down

theorem coldStart_port (straps : BitVec 32) (n : Nat) {p : Nat} (hp : p < 128) : (State.coldStart straps n).port p = coldPort straps p := by
  have h : (State.coldStart straps n).link.ports = (List.range 128).map fun p => (p, coldPort straps p) := rfl
  rw [State.port, h, Table.get_map_graph, if_pos (List.mem_range.mpr hp)]

theorem coldStart_link (straps : BitVec 32) (n l : Nat) :
    ((State.coldStart straps n).linkAt l).st = .down ∨ ((State.coldStart straps n).linkAt l).st = .disabled := by
  have h : (State.coldStart straps n).link.links =
    ((List.range 128).filter (linkAbsent straps)).map fun l => (l, { st := .disabled }) := rfl
  rw [State.linkAt, h, Table.get_map_graph]
  split
  · exact .inr rfl
  · exact .inl rfl

/-- After reset the table of the charts lists the system chart alone. -/
theorem reset_chart {c : Nat} (hc : c ≠ 0) : (State.reset.chart c).st = .undefined := by
  have h : State.reset.chart c = Table.get {} [(0, systemChart 4)] c := rfl
  rw [h, Table.get, if_neg hc.symm, Table.get_nil]

/-- Settles O47: the fields stand in the state after reset, and a table that lists nothing gives its default. -/
theorem resetState : Obligations.ResetState := by
  refine ⟨rfl, rfl, rfl, rfl, rfl, rfl, rfl, rfl, rfl, rfl, rfl, rfl, rfl, rfl, rfl, rfl, rfl, fun r => rfl, fun q => rfl,
    fun c hc => reset_chart hc, fun k => rfl, fun r => rfl, rfl, fun a => rfl, rfl, rfl, fun p hp => ?_, coldStart_link 0 0⟩
  rw [State.reset, coldStart_port 0 0 hp]
  rfl

end Sys2Proof.Machine
end


section
/-! SUPPORT. The home: the frame of the steps that change one thing, the steps of the home, and the answers to its snoops. -/

namespace Sys2Proof.Machine

/-! ### Steps that change one thing -/

/-- A command whose effect sends nothing and changes at most the slices, protection, searches, the canal, management and counter values leaves the state or stands as it is. -/
theorem exec_silent {s t u : State} {i : Instr} {f : State → State} (hs : s.Inv) (he : exec i s = run i s f)
    (hf : f { s with pending := [], out := [] } = { u with pending := [], out := [] })
    (hu : u = { s with
      slices := u.slices, prot := u.prot, search := u.search, canal := u.canal, mgmt := u.mgmt
      counter := { s.counter with counters := u.counter.counters } })
    (h : exec i s = .next t) : t = s ∨ t = u := by
  have ⟨_, _, hr⟩ := hs
  rw [he] at h
  rw [hu] at hf ⊢
  refine (run_quiet hs i f hf rfl rfl rfl hr rfl h).imp_right fun ht => ?_
  simpa using ht

namespace State

theorem epochAnnounced_eq (u : State) (e l : Nat) (ms : List Nat) (instant : Nat) :
    ∃ p, u.epochAnnounced e l ms instant = { u with canal := { u.canal with pending := p } } := by
  unfold epochAnnounced
  split
  · exact ⟨u.canal.pending, rfl⟩
  · exact ⟨_, rfl⟩

theorem ackGrant_eq (u : State) (dpa : Nat) : ∃ x, u.ackGrant dpa = { u with slices := x } := by
  unfold ackGrant
  split
  · split
    · exact ⟨_, rfl⟩
    · exact ⟨u.slices, rfl⟩
  · exact ⟨u.slices, rfl⟩

/-- Sending one message per item of a list changes nothing but what has left the device. -/
theorem foldl_emit {α : Type} (m : State → α → Out) (l : List α) :
    ∀ u : State, ∃ o, l.foldl (fun u x => u.emit (m u x)) u = { u with out := o } := by
  induction l with
  | nil => exact fun u => ⟨u.out, rfl⟩
  | cons x l ih => exact fun u => ih (u.emit (m u x))

theorem sendTime_eq (u : State) : ∃ n o, u.sendTime = { u with canal := { u.canal with nextTimeSend := n }, out := o } := by
  unfold sendTime
  split
  · exact ⟨u.canal.nextTimeSend, u.out, rfl⟩
  · dsimp only
    obtain ⟨o, ho⟩ := foldl_emit (fun u l => .timeFlit l (u.canalTime * 256) (u.linkAt l).lastTimeRx u.canal.errorPs)
      ((List.range 128).filter fun l => (u.linkAt l).st == .active || (u.linkAt l).st == .activeSlow) u
    rw [ho]
    exact ⟨_, o, rfl⟩

/-- A mailbox command leaves the state, or does its part and sends the response. -/
theorem mailbox_cases (u : State) (p : Nat) (f : State → State × Nat × List Byte) :
    u.mailbox p f = u ∨ ∃ o, u.mailbox p f = (f u).1.emit o := by
  unfold mailbox
  split
  · exact .inr ⟨_, rfl⟩
  · exact .inl rfl

theorem count_of_goodParity {u : State} (h : u.counter.badParity = []) (n : Nat) :
    u.count n = { u with counter := { u.counter with counters := Table.modify 0 u.counter.counters n (· + 1) } } := by
  rw [count, countBy, h]
  rfl

end State

/-- What a SPEC does at its port (R105). -/
def State.receiveSpec (u : State) (p h g : Nat) : State :=
  if u.isFatal || !u.portServes p h false then u
  else if 65536 ≤ g then u.violation 0x3016 u.position p 0
  else u.count (1024 + 2 * u.decodeQuad p h)

theorem exec_spec_receives (p h g : Nat) (s : State) : exec (.spec p h g) s = run (.spec p h g) s (·.receiveSpec p h g) :=
  exec_spec p h g s

/-- A SPEC whose tag has 16 bits is dropped at its port, or counted at its quad. -/
theorem State.receiveSpec_counts {u : State} (hb : u.counter.badParity = []) (p h : Nat) {g : Nat} (hg : g < 65536) :
    ∃ c, u.receiveSpec p h g = { u with counter := { u.counter with counters := c } } := by
  rw [receiveSpec, if_neg (Nat.not_le.mpr hg)]
  split
  · exact ⟨u.counter.counters, rfl⟩
  · exact ⟨_, count_of_goodParity hb _⟩

/-- SET_EVENT_INTERRUPT_POLICY changes its port, and nothing else but what has left the device. -/
theorem setEventInterruptPolicy_frame {s t : State} {p : Nat} {w : BitVec 32} (hs : s.Inv)
    (h : exec (.setEventInterruptPolicy p w) s = .next t) :
    t = { s with link := { s.link with ports := t.link.ports }, out := t.out } ∧ ∀ n, n ≠ p → t.port n = s.port n := by
  have ⟨_, _, hr⟩ := hs
  rw [exec_setEventInterruptPolicy] at h
  obtain hf | ⟨o, hf⟩ := State.mailbox_cases { s with pending := [], out := [] } p fun s =>
    (s.modPort p fun x => { x with interruptPolicy := w }, mboxSuccess, [])
  · obtain rfl | rfl := run_quiet hs _ _ hf rfl rfl rfl hr rfl h <;> exact ⟨rfl, fun _ _ => rfl⟩
  · obtain rfl | rfl := run_quiet hs _ _ hf rfl rfl rfl hr rfl h
    · exact ⟨rfl, fun _ _ => rfl⟩
    · exact ⟨rfl, fun n hn => s.port_modPort_of_ne _ hn⟩

theorem timeFlitSend_frame {s t : State} (hs : s.Inv) (h : exec .timeFlitSend s = .next t) :
    t = { s with canal := { s.canal with nextTimeSend := t.canal.nextTimeSend }, out := t.out } := by
  have ⟨_, _, hr⟩ := hs
  rw [exec_timeFlitSend] at h
  obtain ⟨n, o, hf⟩ := State.sendTime_eq { s with pending := [], out := [] }
  obtain rfl | rfl := run_quiet hs _ _ hf rfl rfl rfl hr rfl h <;> rfl

/-- PFAIL_N high is seen in reset too. -/
theorem pfailNHigh_frame {s t : State} (hs : s.Inv) (h : exec .pfailNHigh s = .next t) :
    t = { s with power := { s.power with pfailLow := false, pfailStuck := false } } := by
  have ⟨_, _, hr⟩ := hs
  rw [exec_pfailNHigh, run_inReset rfl rfl, State.after_quiet hs _ rfl rfl rfl rfl hr rfl] at h
  simpa [State.pfailHigh] using h.symm

/-- Settles O59: the effect of each step is a change of its one thing, or none, and the commit adds nothing to a silent one. -/
theorem oneThingChanges : Obligations.OneThingChanges := by
  intro s t hs
  refine ⟨fun c q h => ?_, fun d h => ?_, fun e l ms at_ h => ?_, timeFlitSend_frame hs, fun d h => ?_,
    fun p w h => setEventInterruptPolicy_frame hs h, fun a h => ?_, fun h => ?_, fun p x g hb hg h => ?_⟩
  · obtain rfl | rfl := exec_silent (u := s.expireRecord c q) hs (exec_dedupRecordExpiry c q s) rfl rfl h <;> rfl
  · obtain rfl | rfl := exec_silent (u := s.rkValue d) hs (exec_rkValue d s) rfl rfl h <;> rfl
  · obtain ⟨p, hp⟩ := State.epochAnnounced_eq { s with pending := [], out := [] } e l ms at_
    obtain rfl | rfl := exec_silent (u := { s with canal := { s.canal with pending := p } }) hs (exec_epochAnnounce e l ms at_ s) hp rfl h <;> rfl
  · obtain ⟨x, hx⟩ := State.ackGrant_eq { s with pending := [], out := [] } d
    obtain rfl | rfl := exec_silent (u := { s with slices := x }) hs (exec_requesterAck d s) hx rfl h <;> rfl
  · obtain rfl | rfl := exec_silent (u := { s with mgmt := { s.mgmt with i3cAddress := a } }) hs (exec_dynamicAddressAssignment a s) rfl rfl h <;> rfl
  · exact pfailNHigh_frame hs h
  · obtain ⟨c, hc⟩ := State.receiveSpec_counts (u := { s with pending := [], out := [] }) hb p x hg
    obtain rfl | rfl := exec_silent (u := { s with counter := { s.counter with counters := c } }) hs (exec_spec_receives p x g s) hc rfl h <;> rfl

/-! ### The steps of the home (R97 to R104, R124 to R127) -/

namespace State
variable {s : State} {k dpa : Nat}

theorem ackGrant_of_granted {t : Tracker} (ht : s.trackerOf dpa = some t) (ha : t.stage = .ack) :
    s.ackGrant dpa = s.endTransaction dpa := by
  simp [ackGrant, ht, ha]

theorem startBlocked_of_wayReady {t : Tracker} (ht : (s.slice k).trackers.find? (s.wayReady k) = some t) :
    s.startBlocked k = (s.modTracker t.dpa fun t => { t with stage := .ready }).carryOn t.dpa := by
  simp only [startBlocked, ht]

theorem startBlocked_of_free {r : Req} (hw : (s.slice k).trackers.find? (s.wayReady k) = none) (hp : s.home.poisonWait = [])
    (hr : (s.slice k).blocked.find? (fun r => (s.trackerOf r.dpa).isNone && !s.readsStopped k r &&
      decide ((s.slice k).trackers.length < 128)) = some r) :
    s.startBlocked k = ((s.modSlice k fun x => { x with blocked := x.blocked.erase r }).startRequest r).refillBlocked k := by
  simp only [startBlocked, hw, hp, hr, List.find?_nil]

theorem dwellElapsed_of_over {t : Tracker} {cause : SnoopCause} (ht : s.trackerOf dpa = some t) (hs : t.stage = .dwell cause)
    (ho : s.dwellOver (s.dirEntryOf dpa) = true) :
    s.dwellElapsed dpa = (t.snoops.foldl (fun s n => s.sendSnoop (homeSlice dpa) t.dpa n) (s.modTracker dpa fun t => { t with
      stage := .snoop cause, since := s.now, snoops := t.snoops.map fun n => { n with sent := true } })).carryOn dpa := by
  simp only [dwellElapsed, ht, hs, ho, if_true]

theorem walkDone_of_running {port marker : Nat} {w : SnoopWalk}
    (hw : s.home.walks.find? (fun w => w.port == port && w.dpa == sectorOf dpa && w.marker == marker) = some w) :
    s.walkDone port dpa marker = s.walkFound port marker w := by
  simp only [walkDone, hw]

theorem snoopTimeout_of_due {t : Tracker} {cause : SnoopCause} (ht : s.trackerOf dpa = some t) (hs : t.stage = .snoop cause)
    (hd : s.snoopsDone t = false) (hn : t.since + s.reg 0x2400 3 * 1000 ≤ s.now) :
    s.snoopTimeout dpa = s.holdersDead t cause := by
  have hgo : ¬ (s.snoopsDone t || decide (s.now < t.since + s.reg 0x2400 3 * 1000)) = true := by simp [hd, hn]
  simp only [snoopTimeout, ht, hs, if_neg hgo]

theorem poisonWriteDone_of_written {d : Nat} (hf : s.home.poisonDone.find? (·.1 == sectorOf dpa) = some (d, true))
    (hp : (s.dirEntryOf d).st = .pp) :
    s.poisonWriteDone dpa =
      let s := { s with home := { s.home with poisonDone := s.home.poisonDone.erase (d, true) } }
      s.putDirEntry d none { s.dirEntryOf d with st := .p } := by
  have hgo : ¬ ((s.dirEntryOf d).st != .pp) = true := by simp [hp]
  simp only [poisonWriteDone, hf, if_true]
  exact if_neg hgo

theorem retryPoison_of_due {d at_ : Nat} (hf : s.home.poisonRetry.find? (·.1 == sectorOf dpa) = some (d, at_))
    (hp : (s.dirEntryOf d).st = .pp) (hn : at_ + s.reg 0x2400 6 * 1000 ≤ s.now) (ht : s.trackerOf d = none)
    (hw : s.wbRoom (homeSlice d) = true) :
    s.retryPoison dpa =
      ({ s with home := { s.home with poisonRetry := s.home.poisonRetry.erase (d, at_) } } : State).sliceWrite (homeSlice d)
        { origin := .poison, cls := .wrNc, dpa := d }
        { data := Config.poisonData d, mask := BitVec.allOnes 64, poison := true } := by
  have hgo : ¬ (decide (s.now < at_ + s.reg 0x2400 6 * 1000) || (s.trackerOf d).isSome || !s.wbRoom (homeSlice d)) = true := by
    simp [hn, ht, hw]
  have hpp : ¬ ((s.dirEntryOf d).st != .pp) = true := by simp [hp]
  simp only [retryPoison, hf]
  exact (if_neg hgo).trans (if_neg hpp)

/-- A set-recall sweep snoops its candidate under a tracker of its own, when one is free. -/
theorem setRecallStep_of_candidate {set v c : Nat} (hv : Table.get 0 s.home.setRecall (k * 32768 + set) = v + 1)
    (hn : s.home.lastSetSnoop + 100 ≤ s.now)
    (hc : (s.home.revMap.filter fun i => s.homeOf i == s.deviceNumber).foldl (fun m i => minOpt m (candidateIn k set v i)) none = some c)
    (ht : s.trackerOf (dirSector k set c) = none) (hl : (s.slice k).trackers.length < 128) :
    s.setRecallStep k set =
      let d := dirSector k set c
      let s := { s with home := { s.home with
          setRecall := Table.set 0 s.home.setRecall (k * 32768 + set) (c + 2), lastSetSnoop := s.now } }
      let r : Req := { origin := .poison, cls := .invNc, dpa := d, answered := true }
      let s := s.modSlice k fun x => { x with trackers := x.trackers ++ [{ dpa := d, req := r }] }
      (s.beginSnoops k d .sweep .inv (s.memberPositions.map fun p => .all p none) false).carryOn d := by
  have hdue : ¬ (decide (v + 1 = 0) || (decide (s.now < s.home.lastSetSnoop + 100) && s.home.lastSetSnoop != 0)) = true := by
    simp [hn]
  have hfree : ¬ ((s.trackerOf (dirSector k set c)).isSome || decide (128 ≤ (s.slice k).trackers.length)) = true := by
    simp [ht, hl]
  simp only [setRecallStep, hv, if_neg hdue, Nat.add_sub_cancel, hc, if_neg hfree]

theorem retireStart_of_due (hw : s.home.retireWalk = false) (hr : s.home.revMap.any (·.retired) = true) :
    s.retireStart = s.startRetireWalk := by
  simp [retireStart, hw, hr]

theorem startSweeps_of_none (h : s.home.sweepSectors = []) : s.startSweeps = s := by
  rw [startSweeps, h, List.foldl_nil]

theorem retireDone_of_swept (hw : s.home.retireWalk = true) (hn : s.home.sweepSectors = [])
    (hb : (s.slices.any fun (p : Nat × Slice) => p.2.trackers.any fun t => t.stage == .snoop .sweep && t.req.origin == .poison) = false) :
    s.retireDone = { s with home := { s.home with
      retireWalk := false, revMap := s.home.revMap.filter fun i => !i.inWalk } } := by
  simp [retireDone, hw, startSweeps_of_none hn, hb, hn]

end State

/-- Settles O19: each step finds its transaction, walk or sector at the stage that it ends, and nothing holds it back. -/
theorem homeSteps : Obligations.HomeSteps := by
  intro s k dpa port marker ha hk hd hp hm
  have hok := dpaOk_of_lt hd
  refine ⟨fun t ht hs => ?_, fun r hw hq hr => ?_, fun t ht => ?_, fun t cause ht hs ho => ?_, fun w hw => ?_,
    fun t cause ht hs hn hdue => ?_, fun d hf hpp => ?_, fun d at_ hf hpp hdue ht hw => ?_, fun set v c hset hv hdue hc ht hl => ?_,
    fun hw hr => ?_, fun hw hn hb => ?_⟩
  · exact exec_completes (exec_requesterAck dpa s) hok ha (State.ackGrant_of_granted ht hs)
  · exact exec_completes (exec_blockedRequestStart k s) (sliceOk_of_lt hk) ha (State.startBlocked_of_free hw hq hr)
  · exact exec_completes (exec_blockedRequestStart k s) (sliceOk_of_lt hk) ha (State.startBlocked_of_wayReady ht)
  · exact exec_completes (exec_dwellElapsed dpa s) hok ha (State.dwellElapsed_of_over ht hs ho)
  · have hwf : (Instr.reverseWalkDone port dpa marker).wellFormed = true := by simp [Instr.wellFormed, portOk, hok, hp, hm]
    exact exec_completes (exec_reverseWalkDone port dpa marker s) hwf ha (State.walkDone_of_running hw)
  · exact exec_completes (exec_snoopTimeout dpa s) hok ha (State.snoopTimeout_of_due ht hs hn hdue)
  · exact exec_completes (exec_poisonWriteDone dpa s) hok ha (State.poisonWriteDone_of_written hf hpp)
  · exact exec_completes (exec_poisonRetry dpa s) hok ha (State.retryPoison_of_due hf hpp hdue ht hw)
  · have hwf : (Instr.setRecallSweepStep k set).wellFormed = true := by simp [Instr.wellFormed, sliceOk_of_lt hk, hset]
    exact exec_completes (exec_setRecallSweepStep k set s) hwf ha (State.setRecallStep_of_candidate hv hdue hc ht hl)
  · exact exec_completes (exec_retireSweepStart s) rfl ha (State.retireStart_of_due hw hr)
  · exact exec_completes (exec_retireSweepDone s) rfl ha (State.retireDone_of_swept hw hn hb)

/-! ### Snoop answers and messages of other homes (R97, R98, R101, R103, R106, R111, R351) -/

namespace State
variable {s : State}

section snooped
variable {port hpa : Nat} {b : BiSnp} (hg : b.group = 0)
  (hb : s.home.bisnps.find? (fun b => b.port == port && b.hpa == sectorOf hpa && b.answer == 9) = some b)
include hg hb

/-- An answer at a port to a BISnp of this device's own home is recorded with the transaction that sent it. -/
theorem snoopAnswer_of_own (code : Nat) (blk : Bool) :
    s.snoopAnswer (.port port hpa) code blk =
      ({ s with home := { s.home with bisnps := s.home.bisnps.erase b } } : State).recordAnswer b.dpa
        { pos := s.position, port := port, marker := b.marker } (if blk || !answerAllowed b.kind code then 3 else code) false := by
  simp only [snoopAnswer, portAnswer, hb]
  exact if_pos hg

theorem conflict_of_own :
    s.conflict port hpa = s.homeConflict b.dpa { pos := s.position, port := port, marker := b.marker } (.conflict port hpa) := by
  simp only [conflict, hb]
  exact if_pos hg

end snooped

theorem forwardedResponse_of_out {peer tag cmp : Nat} {data : Option Sector} {poison : Bool} {f : Forwarded}
    (hf : s.link.forwarded.find? (fun f => f.peer == peer && f.tag == tag) = some f) :
    s.forwardedResponse peer tag data poison cmp = s.takeResponse f data poison cmp := by
  simp only [forwardedResponse, hf]

end State

theorem forwardedSnoop_wellFormed {home dpa : Nat} {whom : SnoopWhom} (kind : SnoopKind) (hh : home < 1024) (hd : dpa < 2 ^ 45)
    (hw : whom.ok = true) : (Instr.forwardedSnoop home kind whom dpa).wellFormed = true := by
  simp [Instr.wellFormed, deviceOk, hh, hw, dpaOk_of_lt hd]

/-- Settles O20: an answer finds the BISnp that it is for, a response its request; a peer's snoop always runs. -/
theorem snoopAnswers : Obligations.SnoopAnswers := by
  refine ⟨fun s port hpa b blk ha hp hh hg hb => ⟨?_, ?_⟩, fun s home dpa kind ha hh hd => ⟨fun port marker hp hm => ?_, ?_,
    fun tag cmp data poison f ht hc hf => ?_⟩⟩
  · have hok := reqOk_of_lt hp hh
    have answers := State.snoopAnswer_of_own (s := { s with pending := [], out := [] }) hg hb (blk := blk)
    exact ⟨exec_completes (exec_birspi (.port port hpa) blk s) hok ha (answers 0),
      exec_completes (exec_birsps (.port port hpa) blk s) hok ha (answers 1),
      exec_completes (exec_birspe (.port port hpa) blk s) hok ha (answers 2)⟩
  · exact exec_completes (exec_biconflict port hpa s) (reqOk_of_lt hp hh) ha (State.conflict_of_own hg hb)
  · have hw : (SnoopWhom.one port marker).ok = true := by simp [SnoopWhom.ok, portOk, hp, hm]
    exact exec_completes (exec_forwardedSnoop home kind (.one port marker) dpa s) (forwardedSnoop_wellFormed kind hh hd hw) ha rfl
  · exact exec_completes (exec_forwardedSnoop home kind (.all none) dpa s) (forwardedSnoop_wellFormed kind hh hd rfl) ha rfl
  · have hwf : (Instr.forwardedResponse home tag data poison cmp).wellFormed = true := by
      simp only [Instr.wellFormed, deviceOk, fits, hh, ht, decide_true, Bool.true_and, Bool.or_eq_true, Bool.and_eq_true,
        decide_eq_true_eq, beq_iff_eq, or_assoc]
      exact hc
    exact exec_completes (exec_forwardedResponse home tag data poison cmp s) hwf ha (State.forwardedResponse_of_out hf)

end Sys2Proof.Machine
end

section
/-! SUPPORT. Work queues: what a command leaves of the queues and of Chamber RAM, the doorbells, the store buffer, the window, the frame of an entry's issue, queue and ring control, and the steps and commands of a queue. -/

namespace Sys2Proof.Machine

/-! ### What the end of a command leaves of the queues -/

namespace State

theorem writeLogWords_faultN (s : State) (n : Nat) : (s.writeLogWords n).ras.faultN = s.ras.faultN := by
  simp only [writeLogWords, List.foldl_cons, List.foldl_nil]
  split <;> split <;> rfl

theorem markNotify_faultN (s : State) (r : LogRecord) : (s.markNotify r).ras.faultN = s.ras.faultN := rfl

theorem markAlert_faultN (s : State) (r : LogRecord) : (s.markAlert r).ras.faultN = s.ras.faultN := by
  simp only [markAlert]
  split <;> rfl

theorem markFatal_of_below {s : State} {r : LogRecord} {dead : Bool} (h : r.cls ≠ .deviceFatal) : s.markFatal r dead = s := by
  simp [markFatal, h]

/-- An event below DEVICE-FATAL does not assert FAULT_N. -/
theorem logEvent_faultN {s : State} {e : Event} (h : e.cls ≠ .deviceFatal) : (s.logEvent e).ras.faultN = s.ras.faultN := by
  simp only [logEvent]
  split
  · rfl
  · rw [markFatal_of_below (r := s.newRecord e) h, markAlert_faultN, markNotify_faultN, writeLogWords_faultN]
    rfl

/-- Reporting counters changes registers and the fault state, but not FAULT_N. -/
theorem reportRestarts_eq (l : List Nat) (u : State) : ∃ (regs : Table Nat) (ras : RasSt),
    l.foldl (fun s n => (s.bump32 0x4600 5).raise 0x8201 .note (.count n 0)) u = { u with regs := regs, ras := ras } ∧
      ras.faultN = u.ras.faultN := by
  induction l generalizing u with
  | nil => exact ⟨u.regs, u.ras, rfl, rfl⟩
  | cons n l ih =>
    have hn : ({ code := 0x8201, cls := .note, detail := .count n 0 } : Event).cls ≠ .deviceFatal := by simp
    obtain ⟨regs, ras, he, hf⟩ := ih ((u.bump32 0x4600 5).raise 0x8201 .note (.count n 0))
    refine ⟨regs, ras, ?_, hf.trans (logEvent_faultN hn)⟩
    rw [List.foldl_cons, he, raise, logEvent_quiet _ hn]
    rfl

/-- Reporting the counters that a command restarted also empties their list. -/
theorem noteRestarts_eq (s : State) : ∃ (regs : Table Nat) (ras : RasSt),
    s.noteRestarts = { s with regs := regs, ras := ras, counter := { s.counter with restarted := [] } } ∧ ras.faultN = s.ras.faultN := by
  unfold noteRestarts
  cases hr : s.counter.restarted with
  | nil => exact ⟨s.regs, s.ras, by simp [← hr], rfl⟩
  | cons n l => simpa using reportRestarts_eq (n :: l) { s with counter := { s.counter with restarted := [] } }

@[simp] theorem noteRestarts_queue (s : State) : s.noteRestarts.queue = s.queue := by
  obtain ⟨regs, ras, h, -⟩ := s.noteRestarts_eq
  rw [h]

/-- A command leaves the queues as its effect left them. -/
theorem after_queueAt (s : State) (i : Instr) (f : State → State) (q : Nat) :
    (s.after i f).queueAt q = (f { s with pending := [], out := [] }).queueAt q := by
  rw [queueAt, queueAt, ← noteRestarts_queue (f _)]
  rfl

/-- A command leaves Chamber RAM as its effect left it, in canonical form. -/
theorem after_chamber (s : State) (i : Instr) (f : State → State) :
    (s.after i f).queue.chamber = Memory.canon (f { s with pending := [], out := [] }).queue.chamber := by
  rw [← noteRestarts_queue (f _)]
  rfl

end State

theorem wellFormed_of_run_next {s t : State} {i : Instr} {f : State → State} (h : run i s f = .next t) : i.wellFormed = true := by
  by_contra hw
  rw [run_fault (by simpa using hw)] at h
  exact absurd h (by simp)

/-- The effect of a command that a device out of reset runs stands. -/
theorem exec_next_after {s t : State} {i : Instr} {f : State → State} (he : exec i s = run i s f) (ha : s.awake)
    (h : exec i s = .next t) : t = s.after i f := by
  rw [he] at h
  rw [run_next (wellFormed_of_run_next h) ha] at h
  exact (Host.Outcome.next.inj h).symm

/-- A command that a device in reset does not hear leaves the state as it is, or its effect stands. -/
theorem exec_next_cases {s t : State} {i : Instr} {f : State → State} (he : exec i s = run i s f) (hr : inReset i = false)
    (h : exec i s = .next t) : t = s ∨ t = s.after i f := by
  by_cases ha : s.awake
  · exact .inr (exec_next_after he ha h)
  · have hst : s.power.device = .starting := by simpa using ha
    rw [he] at h
    rw [run_deaf (wellFormed_of_run_next h) hst hr] at h
    exact .inl (Host.Outcome.next.inj h).symm

/-! ### Reading a changed entry of a table -/

/-- A value that is not the default is read back from any table, canonical or not. -/
theorem Table.get_set_of_ne_default {α : Type} [DecidableEq α] {d : α} (t : Table α) (n : Nat) {v : α} (hv : v ≠ d) :
    Table.get d (Table.set d t n v) n = v := by
  induction t with
  | nil => simp [Table.set, Table.get, hv]
  | cons p t ih =>
    obtain ⟨k, w⟩ := p
    simp only [Table.set]
    by_cases hlt : n < k
    · simp [hlt, hv, Table.get]
    · by_cases he : n = k
      · simp [he, hv, Table.get]
      · have hk : k ≠ n := fun h => he h.symm
        simpa only [hlt, he, if_false, Table.get, hk] using ih

namespace State

theorem queueAt_modQueue_self {s : State} {q : Nat} {f : Queue → Queue} (h : f (s.queueAt q) ≠ {}) :
    (s.modQueue q f).queueAt q = f (s.queueAt q) :=
  Table.get_set_of_ne_default _ q h

/-! ### The doorbells (R140) -/

/-- What an ignored doorbell does to its queue: it keeps its event as the last. -/
theorem queueAt_ignored (s : State) (q port : Nat) {code : Nat} {cls : FaultClass} (h0 : code ≠ 0) (hc : cls ≠ .deviceFatal) :
    (s.ignored q code cls port).queueAt q = { s.queueAt q with lastEvent := code } := by
  have hl : ({ s.queueAt q with lastEvent := code } : Queue) ≠ {} := fun h => h0 (congrArg Queue.lastEvent h)
  rw [ignored, raise, logEvent_quiet _ hc]
  exact queueAt_modQueue_self (f := fun x => { x with lastEvent := code }) hl

end State

/-- What tells a queue's two doorbells apart: the ring that the position counts in, the position stated, how far it may go, and where it is kept. -/
structure Bell where
  size : Queue → Nat
  own : Queue → Nat
  limit : Queue → Nat
  take : Queue → Nat → Queue

/-- The SQ tail doorbell. -/
def Bell.sq : Bell := ⟨Queue.sqSize, (·.sqTail), fun x => x.sqSize - ahead x.sqTail x.sqHead x.sqSize, fun x n => { x with sqTail := n }⟩

/-- The CQ head doorbell. -/
def Bell.cq : Bell := ⟨Queue.cqSize, (·.cqHead), fun x => ahead x.cqTail x.cqHead x.cqSize, fun x n => { x with cqHead := n }⟩

/-- The position that a doorbell value states to a queue. -/
def Bell.position (b : Bell) (v : BitVec 32) (x : Queue) : Nat := fld v 0 17 % (2 * b.size x)

/-- A doorbell's position is taken: the queue fetches, and the position is not its present one and within its range. -/
def Bell.takes (b : Bell) (v : BitVec 32) (x : Queue) : Prop :=
  x.fetches = true ∧ b.position v x ≠ b.own x % (2 * b.size x) ∧ ahead (b.position v x) (b.own x) (b.size x) ≤ b.limit x

/-- A doorbell of a queue. -/
def State.rings (s : State) (b : Bell) (port q : Nat) (v : BitVec 32) : State := s.doorbell port q v b.size b.own b.limit b.take

theorem exec_sqTailDoorbell_rings (port q : Nat) (v : BitVec 32) (s : State) : exec (.sqTailDoorbell port q v) s =
    run (.sqTailDoorbell port q v) s fun s => s.rings .sq port q v := exec_sqTailDoorbell port q v s

theorem exec_cqHeadDoorbell_rings (port q : Nat) (v : BitVec 32) (s : State) : exec (.cqHeadDoorbell port q v) s =
    run (.cqHeadDoorbell port q v) s fun s => s.rings .cq port q v := exec_cqHeadDoorbell port q v s

namespace State

/-- Only the position that a value states matters, and that is its 17 low bits. -/
theorem rings_congr (s : State) (b : Bell) (port q : Nat) {v w : BitVec 32} (h : fld w 0 17 = fld v 0 17) :
    s.rings b port q w = s.rings b port q v := by
  simp only [rings, doorbell, h]

section rings
variable {s : State} {b : Bell} {port q : Nat} {v : BitVec 32} (hp : qcPort (s.queueAt q).cfg = port)
include hp

theorem rings_of_stopped (hf : (s.queueAt q).fetches = false) : s.rings b port q v = s.ignored q 0x4005 .note port := by
  simp [rings, doorbell, hp, hf]

section fetching
variable (hf : (s.queueAt q).fetches = true)
include hf

theorem rings_of_present (hn : b.position v (s.queueAt q) = b.own (s.queueAt q) % (2 * b.size (s.queueAt q))) :
    s.rings b port q v = s := by
  rw [Bell.position] at hn
  simp [rings, doorbell, hp, hf, hn]

variable (hn : b.position v (s.queueAt q) ≠ b.own (s.queueAt q) % (2 * b.size (s.queueAt q)))
include hn

theorem rings_of_inRange (hr : ahead (b.position v (s.queueAt q)) (b.own (s.queueAt q)) (b.size (s.queueAt q)) ≤ b.limit (s.queueAt q)) :
    s.rings b port q v = s.modQueue q fun x => b.take x (b.position v (s.queueAt q)) := by
  rw [Bell.position] at hn hr ⊢
  simp [rings, doorbell, hp, hf, hn, hr]

theorem rings_of_beyond (hr : b.limit (s.queueAt q) < ahead (b.position v (s.queueAt q)) (b.own (s.queueAt q)) (b.size (s.queueAt q))) :
    s.rings b port q v = s.ignored q 0x4004 .note port := by
  rw [Bell.position] at hn hr
  simp [rings, doorbell, hp, hf, hn, Nat.not_le.mpr hr]

end fetching
end rings
end State

/-- A doorbell changes its own position and nothing that it reads beside, and reads no last event. -/
structure Bell.Lawful (b : Bell) : Prop where
  keeps : ∀ x n, (b.take x n).st = x.st ∧ (b.take x n).cfg = x.cfg ∧ b.size (b.take x n) = b.size x
  own_take : ∀ x n, b.own (b.take x n) = n
  own_event : ∀ x e, b.own { x with lastEvent := e } = b.own x
  takes_event : ∀ v x e, b.takes v { x with lastEvent := e } ↔ b.takes v x

theorem Bell.sq_lawful : Bell.sq.Lawful := ⟨fun _ _ => ⟨rfl, rfl, rfl⟩, fun _ _ => rfl, fun _ _ => rfl, fun _ _ _ => Iff.rfl⟩

theorem Bell.cq_lawful : Bell.cq.Lawful := ⟨fun _ _ => ⟨rfl, rfl, rfl⟩, fun _ _ => rfl, fun _ _ => rfl, fun _ _ _ => Iff.rfl⟩

section lawful
variable {b : Bell} (hb : b.Lawful)
include hb

/-- A position once taken is the present one, so that the same value is not taken again. -/
theorem Bell.not_takes_take (v : BitVec 32) (x : Queue) : ¬ b.takes v (b.take x (b.position v x)) := by
  rintro ⟨-, hne, -⟩
  simp only [position, (hb.keeps _ _).2.2, hb.own_take, Nat.mod_mod, ne_eq, not_true_eq_false] at hne

/-- What a doorbell of a queue's own port leaves of the queue: a position that is taken, or the queue but for its last event. -/
theorem State.queueAt_rings {s : State} {port q : Nat} (v : BitVec 32) (hp : qcPort (s.queueAt q).cfg = port) :
    b.takes v (s.queueAt q) ∧ (s.rings b port q v).queueAt q = b.take (s.queueAt q) (b.position v (s.queueAt q)) ∨
      ¬ b.takes v (s.queueAt q) ∧ ∃ e, (s.rings b port q v).queueAt q = { s.queueAt q with lastEvent := e } := by
  by_cases hf : (s.queueAt q).fetches = true
  · by_cases hn : b.position v (s.queueAt q) = b.own (s.queueAt q) % (2 * b.size (s.queueAt q))
    · exact .inr ⟨fun h => h.2.1 hn, (s.queueAt q).lastEvent, by rw [rings_of_present hp hf hn]⟩
    · by_cases hr : ahead (b.position v (s.queueAt q)) (b.own (s.queueAt q)) (b.size (s.queueAt q)) ≤ b.limit (s.queueAt q)
      · refine .inl ⟨⟨hf, hn, hr⟩, ?_⟩
        rw [rings_of_inRange hp hf hn hr]
        refine queueAt_modQueue_self fun h => ?_
        have hst := (hb.keeps (s.queueAt q) (b.position v (s.queueAt q))).1
        rw [h] at hst
        simp [Queue.fetches, ← hst] at hf
      · refine .inr ⟨fun h => hr h.2.2, 0x4004, ?_⟩
        rw [rings_of_beyond hp hf hn (Nat.lt_of_not_le hr), queueAt_ignored s q port (by decide) (by decide)]
  · refine .inr ⟨fun h => hf h.1, 0x4005, ?_⟩
    rw [rings_of_stopped hp (by simpa using hf), queueAt_ignored s q port (by decide) (by decide)]

/-- A second doorbell of the same value leaves the position as the first did. -/
theorem exec_rings_again {s t u : State} {port q : Nat} {v : BitVec 32} {i : Instr}
    (he : ∀ s, exec i s = run i s fun s => s.rings b port q v) (hi : inReset i = false) (ha : s.awake)
    (hp : qcPort (s.queueAt q).cfg = port) (ht : exec i s = .next t) (hu : exec i t = .next u) :
    b.own (u.queueAt q) = b.own (t.queueAt q) := by
  have hfirst : t.queueAt q = (State.rings { s with pending := [], out := [] } b port q v).queueAt q := by
    rw [exec_next_after (he s) ha ht, State.after_queueAt]
  have hport : qcPort (t.queueAt q).cfg = port ∧ ¬ b.takes v (t.queueAt q) := by
    obtain ⟨-, htake⟩ | ⟨hno, e, hevent⟩ := State.queueAt_rings (s := { s with pending := [], out := [] }) hb v hp
    · rw [hfirst, htake]
      exact ⟨by rw [(hb.keeps _ _).2.1]; exact hp, b.not_takes_take hb v _⟩
    · rw [hfirst, hevent]
      exact ⟨hp, (hb.takes_event _ _ _).not.mpr hno⟩
  obtain rfl | rfl := exec_next_cases (he t) hi hu
  · rfl
  · rw [State.after_queueAt]
    obtain ⟨hyes, -⟩ | ⟨-, e, hevent⟩ := State.queueAt_rings (s := { t with pending := [], out := [] }) hb v hport.1
    · exact absurd hyes hport.2
    · rw [hevent, hb.own_event]
      rfl

end lawful

/-- Settles O51: a doorbell is one of four cases of the queue's state and the position, and the position once taken is the present one. -/
theorem doorbellsStatePositions : Obligations.DoorbellsStatePositions := by
  intro s q port v ha hq hpt hp
  have hok : (portOk port && queueOk q) = true := by simp [portOk, queueOk, hq, hpt]
  have sq := fun {g : State → State} => exec_completes (g := g) (exec_sqTailDoorbell_rings port q v s) hok ha
  have cq := fun {g : State → State} => exec_completes (g := g) (exec_cqHeadDoorbell_rings port q v s) hok ha
  refine ⟨⟨fun hf hn => sq (State.rings_of_present hp hf hn), fun hf hn hr => sq (State.rings_of_inRange hp hf hn hr),
    fun hf hn hr => sq (State.rings_of_beyond hp hf hn hr), fun hf => sq (State.rings_of_stopped hp hf)⟩,
    ⟨fun hf hn => cq (State.rings_of_present hp hf hn), fun hf hn hr => cq (State.rings_of_inRange hp hf hn hr),
    fun hf hn hr => cq (State.rings_of_beyond hp hf hn hr), fun hf => cq (State.rings_of_stopped hp hf)⟩,
    fun w hw => ⟨?_, ?_⟩,
    fun t u => exec_rings_again Bell.sq_lawful (exec_sqTailDoorbell_rings port q v) rfl ha hp,
    fun t u => exec_rings_again Bell.cq_lawful (exec_cqHeadDoorbell_rings port q v) rfl ha hp⟩
  · rw [exec_sqTailDoorbell_rings, exec_sqTailDoorbell_rings]
    simp only [State.rings_congr _ _ _ _ hw]
    rfl
  · rw [exec_cqHeadDoorbell_rings, exec_cqHeadDoorbell_rings]
    simp only [State.rings_congr _ _ _ _ hw]
    rfl

/-! ### The store buffer (R153, R155) -/

theorem posOk_of_lt {q pos : Nat} (hq : q < 4096) (hp : pos < 2 ^ 32) : (queueOk q && fits 32 pos) = true := by
  simp [queueOk, fits, hq, hp, -Nat.reducePow]

namespace State

/-- The youngest store that covers an offset gives its byte. -/
theorem bufferedByte_of_youngest {l m : List QStore} {t : QStore} {o : Nat} (hlo : t.offset ≤ o) (hhi : o < t.offset + t.len)
    (hm : ∀ u ∈ m, ¬(u.offset ≤ o ∧ o < u.offset + u.len)) :
    bufferedByte (l ++ t :: m) o = some (BitVec.ofNat 8 (fld t.data (8 * (o - t.offset)) 8)) := by
  have hnone : m.filter (fun u => decide (u.offset ≤ o) && decide (o < u.offset + u.len)) = [] :=
    List.filter_eq_nil_iff.mpr fun u hu h => hm u hu (by simpa using h)
  simp [bufferedByte, List.filter_append, hlo, hhi, hnone]

section load
variable {s : State} {q pos : Nat} {e : QEntry} (hm : s.mayIssue q pos 1 true = some e)
  (hl : (s.earlier q pos).any (fun b => b.isLoad && !b.ended) = false)
include hm hl

/-- A load that meets no buffered store goes to the home. -/
theorem issueRead_of_unmet (hs : (s.queueAt q).stores.any (fun t => t.meets e.addr0 e.length) = false) (ht : s.processorTakes q = true) :
    s.issueRead q pos = ((s.modEntryAt q pos fun e => { e with issued := true }).countQueue q 0).submitOp q pos 0 (sectorOf e.addr0) .read
      { cls := .rdNc, off := e.addr0 % 64, len := e.length } := by
  simp only [issueRead, hm, hl, hs, ht, Bool.not_false, Bool.not_true, Bool.false_eq_true, if_false, if_true]

section met
variable (hs : (s.queueAt q).stores.any (fun t => t.meets e.addr0 e.length) = true)
include hs

/-- In strict service a load that overlaps a buffered store waits. -/
theorem issueRead_of_strict (hx : s.strictService q = true) : s.issueRead q pos = s := by
  simp only [issueRead, hm, hl, hs, hx, Bool.not_true, Bool.false_eq_true, if_false, if_true]

/-- A load that the buffer covers in part waits. -/
theorem issueRead_of_uncovered {i : Nat} (hi : i < e.length) (hb : bufferedByte (s.queueAt q).stores (e.addr0 + i) = none) :
    s.issueRead q pos = s := by
  have hn : ((List.range e.length).map fun i => bufferedByte (s.queueAt q).stores (e.addr0 + i)).any (·.isNone) = true :=
    List.any_eq_true.mpr ⟨none, List.mem_map.mpr ⟨i, List.mem_range.mpr hi, hb⟩, rfl⟩
  simp only [issueRead, hm, hl, hs, hn, Bool.not_true, Bool.false_eq_true, if_false, if_true, ite_self]

section covered
variable (hx : s.strictService q = false) {b : List Byte}
  (hb : ((List.range e.length).map fun i => bufferedByte (s.queueAt q).stores (e.addr0 + i)) = b.map some)
include hx hb

/-- In normal service a load that the buffer covers takes its bytes from it and does not go to the home. -/
theorem issueRead_of_covered (hp : e.pair = false) :
    s.issueRead q pos = (((((s.countQueue q 0).countQueue q 6).modEntryAt q pos fun e => { e with
      issued := true, split := e.length == 32 && e.addr0 % 32 == 0 }).deliverResult q e.addr1 b false).endEntry q pos 0 0).post q := by
  simp [issueRead, hm, hl, hs, hx, hb, hp]

/-- With PAIR such a load goes on to the home for the test of its target, with the bytes that the buffer gave. -/
theorem issueRead_of_pairCovered (hp : e.pair = true) (ht : s.processorTakes q = true) :
    s.issueRead q pos = (((s.modEntryAt q pos fun e => { e with issued := true }).countQueue q 0).countQueue q 6).submitOp q pos 0
      (sectorOf e.addr0) .read { cls := .rdNc, off := e.addr0 % 64, len := e.length }
      (some { data := BitVec.ofNat 512 (ofLe b * 2 ^ (8 * (e.addr0 % 64))) }) := by
  simp [issueRead, hm, hl, hs, hx, hb, hp, ht]

end covered
end met
end load

section store
variable {s : State} {q pos : Nat} {e : QEntry}

/-- A store waits for room in a full buffer. -/
theorem issueWrite_of_full (hm : s.mayIssue q pos 2 true = some e) (hf : 16 ≤ (s.queueAt q).stores.length) : s.issueWrite q pos = s := by
  simp [issueWrite, hm, hf]

/-- A store enters the buffer and is counted. -/
theorem issueWrite_of_room (hm : s.mayIssue q pos 2 true = some e) (hr : (s.queueAt q).stores.length < 16) (hi : s.issuedBefore q e = false) :
    s.issueWrite q pos = (s.modQueue q fun x => { x with
      stores := x.stores ++ [{ pos := pos, offset := e.addr0, len := e.length, data := e.data }] }).countQueue q 1 := by
  simp [issueWrite, hm, Nat.not_le.mpr hr, hi]

variable {opcode : Nat} {op : QEntry → AtomicOp}

/-- An atomic waits for the buffer to be empty. -/
theorem issueAtomic_of_buffered (hs : (s.queueAt q).stores ≠ []) : s.issueAtomic q pos opcode op = s := by
  have hs' : (s.queueAt q).stores.isEmpty = false := by simpa using hs
  simp only [issueAtomic, hs', Bool.not_false, Bool.true_or, if_true]
  split <;> rfl

/-- An atomic goes to the home when the buffer is empty and every earlier load has ended. -/
theorem issueAtomic_of_ready (hm : s.mayIssue q pos opcode true = some e) (hs : (s.queueAt q).stores = [])
    (hl : (s.earlier q pos).any (fun b => b.isLoad && !b.ended) = false) (ht : s.processorTakes q = true) :
    s.issueAtomic q pos opcode op = ((s.modEntryAt q pos fun e => { e with issued := true }).countQueue q 2).submitOp q pos 0 e.addr0 .atomic
      { cls := .atomic, op := some (op e), len := e.length } := by
  simp only [issueAtomic, hm, hs, hl, ht, List.isEmpty_nil, Bool.not_true, Bool.or_self, Bool.false_eq_true, if_false]

end store
end State

/-- Settles O52: each clause is one branch of the issue of a load, a store or an atomic. -/
theorem storeBufferForwards : Obligations.StoreBufferForwards := by
  refine ⟨fun l m t o hlo hhi hm => State.bufferedByte_of_youngest hlo hhi hm, fun s q pos e ha hq hp => ?_⟩
  have hok := posOk_of_lt hq hp
  have load := fun {g : State → State} => exec_completes (g := g) (exec_read q pos s) hok ha
  refine ⟨fun hf => ?_, fun hm hl hs => ⟨fun hx => ?_, fun i hi hb => ?_, fun b hx hpr hb => ?_, fun b hx hpr ht hb => ?_⟩,
    fun hm hl hs ht => load (State.issueRead_of_unmet hm hl hs ht)⟩
  · have hne : (s.queueAt q).stores ≠ [] := fun h => by simp [h] at hf
    exact ⟨fun hm => exec_completes (exec_write q pos s) hok ha (State.issueWrite_of_full hm hf),
      exec_completes (exec_cas128 q pos s) hok ha (State.issueAtomic_of_buffered hne),
      exec_completes (exec_swap128 q pos s) hok ha (State.issueAtomic_of_buffered hne),
      exec_completes (exec_fadd64 q pos s) hok ha (State.issueAtomic_of_buffered hne)⟩
  · exact load (State.issueRead_of_strict hm hl hs hx)
  · exact load (State.issueRead_of_uncovered hm hl hs hi hb)
  · exact load (State.issueRead_of_covered (s := { s with pending := [], out := [] }) hm hl hs hx hb hpr)
  · exact load (State.issueRead_of_pairCovered (s := { s with pending := [], out := [] }) hm hl hs hx hb hpr ht)

/-! ### Chamber RAM under a stop of the device and an error report -/

/-- What every step of a fold keeps, the fold keeps. -/
theorem foldl_keeps {σ α β : Type} (g : σ → β) {f : σ → α → σ} (h : ∀ s a, g (f s a) = g s) (l : List α) (s : σ) : g (l.foldl f s) = g s := by
  induction l generalizing s with
  | nil => rfl
  | cons a l ih => rw [List.foldl_cons, ih, h]

namespace State

theorem endCmd_queue (s : State) (ticket code : Nat) (data : List Byte) : (s.endCmd ticket code data).queue = s.queue := by
  have hcase : ∀ (u : State) (b : Bool) (o : Out), (if b then u.emit o else u).queue = u.queue := fun u b o => by cases b <;> rfl
  simp only [endCmd]
  split
  · rfl
  · simp only [sendCmdDone, hcase]
    rfl

theorem answerStopped_queue (s : State) (r : Req) : (s.answerStopped r).queue = s.queue := by
  have hsend : ∀ (p t c : Nat) (d : Option Sector) (x : Bool) (n : Option Ndr), (s.sendS2m p t c d x n).queue = s.queue := fun _ _ _ _ _ _ => by
    simp only [sendS2m]
    split <;> rfl
  simp only [answerStopped]
  split
  · rfl
  · split
    · split <;> exact hsend ..
    · split <;> rfl
    · rfl

/-- A device that stops serving drops what its queues hold, and keeps Chamber RAM. -/
theorem stopServing_chamber (s : State) (dead : Bool) : (s.stopServing dead).queue.chamber = s.queue.chamber := by
  have departs : ∀ (l : List Nat) (u : State), (l.foldl (fun s d => s.emit (.mgmt d 4 [s.deviceNumber, 4])) u).queue = u.queue :=
    fun l u => foldl_keeps queue (by intros; rfl) l u
  have ends : ∀ u : State, (u.endAllCmds 0x0013).queue = u.queue := fun u => foldl_keeps queue (fun u _ => endCmd_queue u ..) _ u
  have counts : ∀ (l : List (Nat × CtxAccount)) (u : State),
      (l.foldl (fun s p => if p.2.held = 0 then s else s.countCtx p.1 0 p.2.held) u).queue = u.queue :=
    fun l u => foldl_keeps queue (by intros; split <;> rfl) l u
  have answers : (s.outstanding.foldl answerStopped s).queue = s.queue := foldl_keeps queue answerStopped_queue _ s
  simp only [stopServing, departs, ends, counts]
  rw [← answers]
  rfl

theorem markFatal_chamber (s : State) (r : LogRecord) (dead : Bool) : (s.markFatal r dead).queue.chamber = s.queue.chamber := by
  simp only [markFatal]
  split
  · rw [stopServing_chamber]
    split <;> rfl
  · rfl

theorem markAlert_queue (s : State) (r : LogRecord) : (s.markAlert r).queue = s.queue := by
  simp only [markAlert]
  split <;> rfl

theorem writeLogWords_queue (s : State) (n : Nat) : (s.writeLogWords n).queue = s.queue := by
  rw [writeLogWords_ras]

theorem markNotify_queue (s : State) (r : LogRecord) : (s.markNotify r).queue = s.queue := rfl

theorem logEvent_chamber (s : State) (e : Event) : (s.logEvent e).queue.chamber = s.queue.chamber := by
  simp only [logEvent]
  split
  · rfl
  · rw [markFatal_chamber, markAlert_queue, markNotify_queue, writeLogWords_queue]
    rfl

theorem bucketAdd_queue (s : State) (b : Nat) (ue : Bool) : (s.bucketAdd b ue).1.queue = s.queue := by
  simp only [bucketAdd]
  split <;> rfl

theorem reportError_chamber (s : State) (b : Nat) (ue : Bool) (e : Event) (index syndrome : Nat) :
    (s.reportError b ue e index syndrome).queue.chamber = s.queue.chamber := by
  rw [← bucketAdd_queue s b ue]
  simp only [reportError]
  split <;> exact logEvent_chamber ..

/-- An error of class NOTE is reported without a stop. -/
theorem reportError_note_queue (s : State) (b : Nat) (ue : Bool) {e : Event} (he : e.cls = .note) (index syndrome : Nat) :
    (s.reportError b ue e index syndrome).queue = s.queue := by
  rw [← bucketAdd_queue s b ue]
  simp only [reportError]
  split
  · rw [logEvent_quiet _ (by simp)]
  · rw [logEvent_quiet _ (by simp [he])]

theorem control_undamaged {s : State} {b : Nat} (h : s.damageAt b controlWord = 0) : s.control b = (s, true) := if_pos h

theorem payloadWord_chamber (s : State) (b w : Nat) (ctl : Bool) : (s.payloadWord b w ctl).1.queue.chamber = s.queue.chamber := by
  simp only [payloadWord]
  split
  · rfl
  · exact reportError_chamber ..
  · exact reportError_chamber ..

/-- A word whose error its checker removes leaves the queues as they are. -/
theorem payloadWord_queue {s : State} {b w : Nat} {ctl : Bool} (h : ∀ y p, (s.payloadWord b w ctl).2 ≠ .uncorrectable y p) :
    (s.payloadWord b w ctl).1.queue = s.queue := by
  revert h
  simp only [payloadWord]
  split
  · exact fun _ => rfl
  · exact fun _ => reportError_note_queue _ _ _ rfl _ _
  · rename_i hv
    exact fun h => absurd hv (h _ _)

theorem control_chamber (s : State) (b : Nat) : (s.control b).1.queue.chamber = s.queue.chamber := by
  simp only [control]
  split
  · rfl
  · exact payloadWord_chamber ..

/-- A control word that goes on leaves the queues as they are. -/
theorem control_known_queue {s : State} {b : Nat} (h : (s.control b).2 = true) : (s.control b).1.queue = s.queue := by
  revert h
  simp only [control]
  split
  · exact fun _ => rfl
  · refine fun h => payloadWord_queue fun y p hv => ?_
    rw [hv] at h
    exact absurd h (by simp)

/-! ### Undamaged crossings and words (R277) -/

/-- Bytes cross a pound whose words are undamaged as they are. -/
theorem payloadBytes_undamaged {s : State} {b : Nat} (h : ∀ w, s.damageAt b w = 0) (bytes : List Byte) :
    s.payloadBytes b bytes = (s, bytes, false) :=
  List.foldl_fixed' (fun w => if_pos (h w)) _

/-- Reading undamaged words changes nothing. -/
theorem chamberRead_undamaged {s : State} (h : ∀ w, s.damageAt 368 w = 0) (a n : Nat) : (s.chamberRead a n).1 = s := by
  have hword : ∀ w, (s.checkChamber w .access).1 = s := fun w => by simp [checkChamber, h w]
  have hfold : ∀ (l : List Nat) (bad : Bool), (l.foldl (fun (x : State × Bool) w =>
      ((x.1.checkChamber w .access).1, x.2 || (x.1.checkChamber w .access).2)) (s, bad)).1 = s := by
    intro l
    induction l with
    | nil => exact fun _ => rfl
    | cons w l ih =>
      intro bad
      rw [List.foldl_cons, hword w]
      exact ih _
  exact hfold _ _

/-- The words of Chamber RAM that are still to be written have no error, and the table of errors is canonical. -/
def cleanFor (s : State) (l : List Nat) : Prop := Table.wf 0 s.ras.damage = true ∧ ∀ w ∈ l, s.damageAt 368 w = 0

theorem cleanFor_of_undamaged {s : State} (h : s.ras.damage = []) (l : List Nat) : s.cleanFor l := by
  simp [cleanFor, damageAt, h, Table.wf, Table.above]

theorem cleanFor_setDamage_zero {s : State} {l : List Nat} (h : s.cleanFor l) (b w : Nat) : (s.setDamage b w 0).cleanFor l := by
  refine ⟨Table.wf_set h.1 _ _, fun x hx => ?_⟩
  by_cases he : damageKey 368 x = damageKey b w
  · rw [damageAt, he]
    exact Table.get_set_self h.1 _ _
  · exact (Table.get_set_of_ne _ _ he).trans (h.2 x hx)

theorem cleanFor_setDamage_of_notMem {s : State} {l : List Nat} {w : Nat} (h : s.cleanFor l) (hw : w ∉ l) (e : BitVec 138) :
    (s.setDamage 368 w e).cleanFor l := by
  refine ⟨Table.wf_set h.1 _ _, fun x hx => ?_⟩
  have hne : x ≠ w := fun he => hw (he ▸ hx)
  have he : damageKey 368 x ≠ damageKey 368 w := by
    unfold damageKey
    omega
  exact (Table.get_set_of_ne _ _ he).trans (h.2 x hx)

theorem cleanFor_writeLogWords {s : State} {l : List Nat} (h : s.cleanFor l) (n : Nat) : (s.writeLogWords n).cleanFor l := by
  have hstep : ∀ (u : State) (w : Nat), u.cleanFor l → (if u.damageAt 369 w = 0 then u else u.setDamage 369 w 0).cleanFor l := fun u w hu => by
    split
    · exact hu
    · exact cleanFor_setDamage_zero hu ..
  exact hstep _ _ (hstep _ _ h)

theorem cleanFor_markNotify {s : State} {l : List Nat} (h : s.cleanFor l) (r : LogRecord) : (s.markNotify r).cleanFor l := h

theorem cleanFor_markAlert {s : State} {l : List Nat} (h : s.cleanFor l) (r : LogRecord) : (s.markAlert r).cleanFor l := by
  simp only [markAlert]
  split <;> exact h

theorem cleanFor_logEvent {s : State} {l : List Nat} (h : s.cleanFor l) {e : Event} (hc : e.cls ≠ .deviceFatal) : (s.logEvent e).cleanFor l := by
  simp only [logEvent]
  split
  · exact h
  · rw [markFatal_of_below (r := s.newRecord e) hc]
    have ha : (s.appendRecord (s.newRecord e)).cleanFor l := h
    exact cleanFor_markAlert (cleanFor_markNotify (cleanFor_writeLogWords ha _) _) _

theorem cleanFor_wordWritten {s : State} {l : List Nat} {w : Nat} (h : s.cleanFor l) (hw : w ∉ l) : (s.wordWritten 368 w).cleanFor l := by
  have hset : (if s.damageAt 368 w = 0 then s else s.setDamage 368 w 0).cleanFor l := by
    split
    · exact h
    · exact cleanFor_setDamage_zero h ..
  simp only [wordWritten]
  generalize (if s.damageAt 368 w = 0 then s else s.setDamage 368 w 0) = u at hset ⊢
  split
  · exact cleanFor_setDamage_of_notMem hset hw _
  · exact hset

theorem wordWritten_queue (s : State) (b w : Nat) : (s.wordWritten b w).queue = s.queue := by
  simp only [wordWritten]
  split <;> split <;> rfl

/-- Preparing the write of an undamaged word changes no byte, and no word that is still to be written. -/
theorem chamberTouch_clean {s : State} {w : Nat} {l : List Nat} (h : s.cleanFor (w :: l)) (hw : w ∉ l) (a n : Nat) (p : Bool) :
    (s.chamberTouch a n p w).queue.chamber = s.queue.chamber ∧ (s.chamberTouch a n p w).cleanFor l := by
  obtain ⟨hwf, hall⟩ := h
  have hd : s.damageAt 368 w = 0 := hall w List.mem_cons_self
  have hl : s.cleanFor l := ⟨hwf, fun x hx => hall x (List.mem_cons_of_mem _ hx)⟩
  have hmark : ∀ (u : State) (x : Bool), u.cleanFor l →
      ((u.wordWritten 368 w).setChamberPoison w x).queue.chamber = u.queue.chamber ∧
        ((u.wordWritten 368 w).setChamberPoison w x).cleanFor l := fun u x hu =>
    ⟨by rw [← wordWritten_queue u 368 w]; rfl, cleanFor_wordWritten hu hw⟩
  have hcheck : s.checkChamber w .access = (s, s.chamberPoisoned w) := if_pos hd
  simp only [chamberTouch, hcheck, hd, bne_self_eq_false, Bool.false_eq_true, if_false]
  split
  · exact hmark s p hl
  · split
    · obtain ⟨hq, hc⟩ := hmark _ (p || s.chamberPoisoned w) (cleanFor_logEvent hl (e := {
        code := 0x7003, cls := .contained, detail := .location 368 w 0 0, source := s.errSource 368 w .access }) (by simp))
      exact ⟨hq.trans (logEvent_chamber ..), hc⟩
    · exact hmark s _ hl

theorem foldl_chamberTouch_clean (a n : Nat) (p : Bool) (l : List Nat) : ∀ s : State, s.cleanFor l → l.Nodup →
    (l.foldl (fun s w => s.chamberTouch a n p w) s).queue.chamber = s.queue.chamber := by
  induction l with
  | nil => exact fun _ _ _ => rfl
  | cons w l ih =>
    intro s h hn
    obtain ⟨hw, hn⟩ := List.nodup_cons.mp hn
    obtain ⟨hq, hc⟩ := chamberTouch_clean h hw a n p
    exact (ih _ hc hn).trans hq

theorem nodup_chamberWords (a n : Nat) : (chamberWords a n).Nodup :=
  List.Nodup.map (fun _ _ h => Nat.add_left_cancel h) List.nodup_range

/-- A write of undamaged words stores its bytes. -/
theorem chamberWrite_undamaged {s : State} (h : s.ras.damage = []) (a : Nat) (b : List Byte) (p : Bool) :
    (s.chamberWrite a b p).queue.chamber = memWrite s.queue.chamber a b := by
  have hf := foldl_chamberTouch_clean a b.length p _ s (cleanFor_of_undamaged h (chamberWords a b.length)) (nodup_chamberWords a b.length)
  simp only [chamberWrite, hf]

end State

theorem memRead_eq_map (m : List Host.Cell) (a n : Nat) : memRead m a n = (List.range n).map fun i => memByte m (a + i) := by
  induction n generalizing a with
  | zero => rfl
  | succ n ih =>
    rw [memRead, ih, List.range_succ_eq_map, List.map_cons, List.map_map]
    simp [Function.comp_def, Nat.add_assoc, Nat.add_comm 1]

/-- Bytes written read as written. -/
theorem memRead_memWrite {m : List Host.Cell} (h : Memory.wf m = true) (a : Nat) (b : List Byte) : memRead (memWrite m a b) a b.length = b := by
  rw [memRead_eq_map]
  refine List.ext_getElem (by simp) fun i hi _ => ?_
  simp only [List.length_map, List.length_range] at hi
  simp [memByte_memWrite_inside h a b hi]

/-! ### The window (R139, R277) -/

namespace State

section window
variable {s : State} {p off len : Nat}

/-- Every byte of an access lies in an area of the port. -/
theorem window_all_reached {l : List (Nat × Nat)} (h : ∀ i < len, ∃ a ∈ l, a.1 ≤ off + i ∧ off + i < a.1 + a.2) :
    (List.range len).all (fun i => l.any fun a => decide (a.1 ≤ off + i) && decide (off + i < a.1 + a.2)) = true := by
  simpa [List.all_eq_true, List.any_eq_true] using h

section crossed
variable (hc : s.damageAt 374 controlWord = 0)
include hc

/-- A write whose control word crosses, and every byte of which lies in an area of the port, is stored. -/
theorem windowAccess_write_of_reached {b : List Byte} (ha : ∀ i < b.length, ∃ a ∈ s.portAreas p false, a.1 ≤ off + i ∧ off + i < a.1 + a.2) :
    s.windowAccess p off len (some b) =
      (s.payloadBytes 374 b).1.chamberWrite off (s.payloadBytes 374 b).2.1 (s.payloadBytes 374 b).2.2 := by
  simp only [windowAccess, control_undamaged hc, Option.map_some, Option.getD_some, Option.isNone_some, window_all_reached ha, Bool.not_true,
    Bool.false_eq_true, if_false, if_true]

/-- Such a read is answered. -/
theorem windowAccess_read_of_reached (ha : ∀ i < len, ∃ a ∈ s.portAreas p true, a.1 ≤ off + i ∧ off + i < a.1 + a.2) :
    s.windowAccess p off len none =
      let (s, b, poison) := s.chamberRead off len
      let (s, b, lost) := s.payloadBytes 370 b
      s.emit (.barRead p off b (poison || lost)) := by
  simp only [windowAccess, control_undamaged hc, Option.map_none, Option.getD_none, Option.isNone_none, window_all_reached ha, Bool.not_true,
    Bool.false_eq_true, if_false, if_true]

end crossed

/-- A write of which a byte lies outside every area of the port stores nothing. -/
theorem windowAccess_outside_chamber {b : List Byte} {i : Nat} (hi : i < b.length)
    (ha : ∀ a ∈ s.portAreas p false, off + i < a.1 ∨ a.1 + a.2 ≤ off + i) :
    (s.windowAccess p off len (some b)).queue.chamber = s.queue.chamber := by
  by_cases hk : (s.control 374).2 = true
  · have hareas : (s.control 374).1.portAreas p false = s.portAreas p false := by
      simp only [portAreas, control_known_queue hk, Bool.false_eq_true, if_false]
    have hall : (List.range b.length).all (fun i =>
        (s.portAreas p false).any fun a => decide (a.1 ≤ off + i) && decide (off + i < a.1 + a.2)) = false := by
      refine List.all_eq_false.mpr ⟨i, List.mem_range.mpr hi, ?_⟩
      simpa [List.any_eq_true] using fun x y hxy hle => (ha (x, y) hxy).resolve_left (Nat.not_lt.mpr hle)
    simp only [windowAccess, hk, Option.map_some, Option.getD_some, Option.isNone_some, hareas, hall, Bool.not_true, Bool.false_eq_true, if_false]
    exact (logEvent_chamber ..).trans (control_chamber s 374)
  · simp only [windowAccess, hk, Bool.not_false, if_true]
    exact control_chamber s 374

/-- A read with no damaged word leaves Chamber RAM as it is. -/
theorem windowAccess_read_chamber (h : ∀ b w, s.damageAt b w = 0) : (s.windowAccess p off len none).queue.chamber = s.queue.chamber := by
  simp only [windowAccess, control_undamaged (h 374 controlWord), Bool.not_true, Bool.false_eq_true, if_false]
  split
  · rw [chamberRead_undamaged (h 368), payloadBytes_undamaged (h 370)]
    rfl
  · exact logEvent_chamber ..

end window
end State

/-- Settles O53: a write with no damaged word prepares its words without changing a byte and then stores its own; what is refused, and a read, store nothing. -/
theorem windowWritesItsBytes : Obligations.WindowWritesItsBytes := by
  intro s t port off hwf
  have kept : ∀ (len : Nat) (w : Option (List Byte)),
      (State.windowAccess { s with pending := [], out := [] } port off len w).queue.chamber = s.queue.chamber →
      exec (.chamberWindowAccess port off len w) s = .next t → ∀ a, memByte t.queue.chamber a = memByte s.queue.chamber a := by
    intro len w hk h a
    obtain rfl | rfl := exec_next_cases (exec_chamberWindowAccess port off len w s) rfl h
    · rfl
    · rw [State.after_chamber, hk, Memory.canon_of_wf hwf]
  refine ⟨fun b h ha hd hin => ?_, fun b i h hi hout => kept _ _ (State.windowAccess_outside_chamber hi hout) h,
    fun len h hd => kept _ _ (State.windowAccess_read_chamber fun b w => by simp [State.damageAt, hd]) h⟩
  have hdam : ∀ b w, s.damageAt b w = 0 := fun b w => by simp [State.damageAt, hd]
  have hstored : t.queue.chamber = memWrite s.queue.chamber off b := by
    rw [exec_next_after (exec_chamberWindowAccess port off b.length (some b) s) ha h, State.after_chamber,
      State.windowAccess_write_of_reached (s := { s with pending := [], out := [] }) (hdam 374 controlWord) hin,
      State.payloadBytes_undamaged (s := { s with pending := [], out := [] }) (hdam 374),
      State.chamberWrite_undamaged (s := { s with pending := [], out := [] }) hd]
    exact Memory.canon_of_wf (memWrite_wf hwf off b)
  rw [hstored]
  exact ⟨memRead_memWrite hwf off b, fun a hout => memByte_memWrite_outside _ off b hout⟩

/-! ### The steps of a queue (R135 to R153) -/

namespace State
variable {s : State} {q : Nat}

/-- A DRAINING queue with no entry left is DISABLED. -/
theorem queueDrained_of_draining (he : (s.queueAt q).entries = []) (hs : (s.queueAt q).st = .draining)
    (hd : (s.queueAt q).deferredEnable = false) :
    s.queueDrained q = s.modQueue q fun x => { x with st := .disabled, deferredEnable := false } := by
  simp [queueDrained, he, hs, hd]

/-- An entry that is read from host memory joins the queue whose turn it is. -/
theorem fetchEntry_of_host {w : Sector} (hr : s.queuesRun = true) (hn : s.nextServed (q % 32) = some q) (hh : qcHost (s.queueAt q).cfg = true) :
    s.fetchEntry q (some w) =
      let s := { s with queue := { s.queue with rotation := Table.set 0 s.queue.rotation (q % 32) (q / 32) } }
      let x := s.queueAt q
      (s.emit (.hostRead (qcPort x.cfg) (x.sqBase + x.sqHead % x.sqSize * 64) 64)).enterEntry q w := by
  have hh' : qcHost (State.queueAt { s with queue := { s.queue with
      rotation := Table.set 0 s.queue.rotation (q % 32) (q / 32) } } q).cfg = true := hh
  simp only [fetchEntry, hr, hn, hh', Bool.not_true, bne_self_eq_false, Bool.or_self, Bool.false_eq_true, if_false, if_true]

/-- The oldest store of the buffer goes to the home when every earlier load is served. -/
theorem issueStore_of_oldest {t : QStore} {rest : List QStore} (hs : (s.queueAt q).stores = t :: rest) (hr : s.queuesRun = true)
    (hi : t.issued = false) (hl : (s.earlier q t.pos).any (fun b => b.isLoad && !b.ended) = false) (ht : s.processorTakes q = true) :
    s.issueStore q = (s.modQueue q fun x => { x with
        stores := mapIf (·.pos == t.pos) (fun t => { t with issued := true }) x.stores
        entries := mapIf (·.pos == t.pos) (fun e => { e with issued := true }) x.entries }).submitOp q t.pos 0 (sectorOf t.offset) .write
          { cls := .wrNc, w := placeBytes t.offset t.len t.data, off := t.offset % 64, len := t.len } := by
  simp only [issueStore, hs, hr, hi, hl, ht, Bool.not_true, Bool.or_self, Bool.false_eq_true, if_false]

/-- The oldest response of a queue processor's queues goes to the entry that it answers. -/
theorem queueResponse_of_found {p : Nat} {r : QResponse} (h : s.queue.responses.find? (·.queue % 32 == p) = some r) :
    s.queueResponse p = ({ s with queue := { s.queue with responses := s.queue.responses.erase r } } : State).answerEntry r := by
  simp only [queueResponse, h]

end State

/-- Settles O28: each step finds what it is about at the state in which it acts. -/
theorem queueSteps : Obligations.QueueSteps := by
  intro s q port ha hq hp
  have hqok : queueOk q = true := by simp [queueOk, hq]
  have hpok : portOk port = true := by simp [portOk, hp]
  have hok : (portOk port && queueOk q) = true := by rw [hpok, hqok]; rfl
  have window : ∀ {off len : Nat} {w : Option (List Byte)} {g : State → State}, off < 2 ^ 64 →
      State.windowAccess { s with pending := [], out := [] } port off len w = g { s with pending := [], out := [] } →
      exec (.chamberWindowAccess port off len w) s = .next (s.after (.chamberWindowAccess port off len w) g) := fun {off len w g} ho hg => by
    have hwf : (Instr.chamberWindowAccess port off len w).wellFormed = true := by simp [Instr.wellFormed, hpok, fits, ho, -Nat.reducePow]
    exact exec_completes (exec_chamberWindowAccess port off len w s) hwf ha hg
  refine ⟨fun he hs hd => ?_, fun v hc hf => ⟨fun hn hr => ?_, fun hn hr => ?_⟩, fun off b hd ho _ _ hin => ?_,
    fun off len hd ho _ _ hin => ?_, fun w hr hn hh => ?_, fun t rest hs hr hi hl ht => ?_, fun p r hp hr => ?_⟩
  · exact exec_completes (exec_queueDrainDone q s) hqok ha (State.queueDrained_of_draining he hs hd)
  · exact exec_completes (exec_sqTailDoorbell_rings port q v s) hok ha (State.rings_of_inRange hc hf hn hr)
  · exact exec_completes (exec_cqHeadDoorbell_rings port q v s) hok ha (State.rings_of_inRange hc hf hn hr)
  · exact window ho (State.windowAccess_write_of_reached (s := { s with pending := [], out := [] }) hd hin)
  · exact window ho (State.windowAccess_read_of_reached hd hin)
  · exact exec_completes (exec_entryFetch q (some w) s) hqok ha (State.fetchEntry_of_host hr hn hh)
  · exact exec_completes (exec_storeBufferIssue q s) hqok ha (State.issueStore_of_oldest hs hr hi hl ht)
  · exact exec_completes (exec_queueResponse p s) (by simpa [Instr.wellFormed] using hp) ha (State.queueResponse_of_found hr)

/-! ### The commands of a queue (R145 to R157) -/

namespace State
variable {s : State} {q pos : Nat} {e : QEntry}

/-- ZERO and COPY are taken up. -/
theorem issueBulk_of_mayIssue {opcode : Nat} (hm : s.mayIssue q pos opcode false = some e) :
    s.issueBulk q pos opcode = s.modEntryAt q pos fun e => { e with issued := true } := by
  simp only [issueBulk, hm]

section search
variable (hm : s.mayIssue q pos 0x30 false = some e) (ha : s.chartAllowed q e.chart false = true) (hv : cdValid (s.chart e.chart).desc1 = true)
include hm ha hv

/-- A SEARCH in a chart of the narrow width takes one key of each 128 bits. -/
theorem issueSearchEntry_of_narrow (hw : cdWidth (s.chart e.chart).desc1 = 0) :
    s.issueSearchEntry q pos = s.startSearch q pos ((List.range e.length).map fun i => BitVec.ofNat 512 (fld e.data (128 * i) 128)) := by
  simp only [issueSearchEntry, hm, ha, hv, hw, Bool.not_true, Bool.false_eq_true, if_false]

/-- A SEARCH in a chart of the next width takes all its data as one key. -/
theorem issueSearchEntry_of_wide (hw : cdWidth (s.chart e.chart).desc1 = 1) (hl : e.length = 1) :
    s.issueSearchEntry q pos = s.startSearch q pos [BitVec.ofNat 512 e.data.toNat] := by
  simp only [issueSearchEntry, hm, ha, hv, hw, hl, Bool.not_true, Bool.false_eq_true, if_false, if_true]

end search

/-- A SEARCH_BURST of a queue in host memory reads its key list there. -/
theorem issueBurst_of_host {keys : List Byte} (hm : s.mayIssue q pos 0x31 false = some e) (ha : s.chartAllowed q e.chart false = true)
    (hv : cdValid (s.chart e.chart).desc1 = true) (hh : qcHost (s.queueAt q).cfg = true) :
    s.issueBurst q pos keys =
      (s.emit (.hostRead (qcPort (s.queueAt q).cfg) e.addr0 (keyBits (cdWidth (s.chart e.chart).desc1) / 8 * e.length))).startSearch q pos
        (splitKeys keys (keyBits (cdWidth (s.chart e.chart).desc1) / 8) e.length) := by
  simp only [issueBurst, hm, ha, hv, hh, Bool.not_true, Bool.false_eq_true, if_false, if_true]

/-- A TABLE command of a queue in host memory reads its block there, and a block of the right length goes to firmware. -/
theorem issueTable_of_host {block : List Byte} (hm : s.mayIssue q pos 0x32 false = some e) (ha : s.chartAllowed q e.chart true = true)
    (hh : qcHost (s.queueAt q).cfg = true) (hb : block.length = e.length) (hl : s.tableLengthOk e.chart block = true) :
    s.issueTable q pos block =
      (((s.emit (.hostRead (qcPort (s.queueAt q).cfg) e.addr0 e.length)).modEntryAt q pos fun e => { e with issued := true }).countQueue q
        4).submitTable (.queue q pos) e.chart block := by
  have htake : block.take e.length = block := List.take_of_length_le hb.le
  have hlen : ∀ o : Out, (s.emit o).tableLengthOk e.chart block = true := fun _ => hl
  simp only [issueTable, hm, ha, hh, htake, hb, hlen, Bool.not_true, Bool.false_and, Bool.false_eq_true, if_false, if_true, ne_eq,
    not_true_eq_false, decide_false, Bool.or_self]

/-- A fence that no entry stands before ends once no store of its queue is left in a write buffer; FENCE.L looks at loads alone. -/
theorem issueFence_of_first {opcode : Nat} (he : s.entryIn q pos = some e) (hb : s.earlier q pos = []) (hr : s.queuesRun = true)
    (hs : (s.queueAt q).st ≠ .disabled) (hn : e.ended = false) (ho : e.opcode = opcode) (hw : opcode = 0x40 ∨ s.storesRetired q [] = true) :
    s.issueFence q pos opcode = ((s.modEntryAt q pos fun e => { e with issued := true }).expireStores).endFence q pos opcode := by
  have hgo : ((s.queueAt q).st == .disabled) = false := by simpa using hs
  have hstores : (decide (opcode = 0x40) ||
      ((s.modEntryAt q pos fun e => { e with issued := true }).expireStores).storesRetired q []) = true := by
    rcases hw with hw | hw
    · simp [hw]
    · rw [expireStores_retired (s := s.modEntryAt q pos fun e => { e with issued := true }) hw, Bool.or_true]
  simp only [issueFence, he, hb, hr, hgo, hn, ho, hstores, loadsServed, List.any_nil, List.all_nil, ne_eq, not_true_eq_false, decide_false,
    Bool.not_true, Bool.or_self, Bool.or_true, Bool.and_self, Bool.false_eq_true, if_false, if_true]

end State

/-- Settles O29: an entry that may issue takes the branch of its command that nothing holds back. -/
theorem queueCommands : Obligations.QueueCommands := by
  intro s q pos e ha hq hp
  have hok := posOk_of_lt hq hp
  refine ⟨fun hm hl hs ht => ?_, fun f hm hl hs hx hpr hb => ?_, fun hm hr hi => ?_, fun hs hl ht => ⟨fun hm => ?_, fun hm => ?_, fun hm => ?_⟩,
    fun hm => ?_, fun hm => ?_, fun hm hc hv => ⟨fun hw => ?_, fun hw hl => ?_⟩, fun keys hm hc hv hh _ => ?_,
    fun block hm hc hh hb _ hl => ?_, fun he hb hr hs hn => ⟨fun ho => ?_, fun ho hw => ?_, fun ho hw => ?_⟩⟩
  · have hnone : (s.queueAt q).stores.any (fun t => t.meets e.addr0 e.length) = false := by rw [hs, List.any_nil]
    exact exec_completes (exec_read q pos s) hok ha (State.issueRead_of_unmet hm hl hnone ht)
  · have hbytes : ((List.range e.length).map fun i => State.bufferedByte (s.queueAt q).stores (e.addr0 + i)) =
        ((List.range e.length).map f).map some := by
      rw [List.map_map]
      exact List.map_congr_left fun i hi => hb i (List.mem_range.mp hi)
    exact exec_completes (exec_read q pos s) hok ha
      (State.issueRead_of_covered (s := { s with pending := [], out := [] }) hm hl hs hx hbytes hpr)
  · exact exec_completes (exec_write q pos s) hok ha (State.issueWrite_of_room hm hr hi)
  · exact exec_completes (exec_cas128 q pos s) hok ha (State.issueAtomic_of_ready hm hs hl ht)
  · exact exec_completes (exec_swap128 q pos s) hok ha (State.issueAtomic_of_ready hm hs hl ht)
  · exact exec_completes (exec_fadd64 q pos s) hok ha (State.issueAtomic_of_ready hm hs hl ht)
  · exact exec_completes (exec_zero q pos s) hok ha (State.issueBulk_of_mayIssue hm)
  · exact exec_completes (exec_copy q pos s) hok ha (State.issueBulk_of_mayIssue hm)
  · exact exec_completes (exec_search q pos s) hok ha (State.issueSearchEntry_of_narrow hm hc hv hw)
  · exact exec_completes (exec_search q pos s) hok ha (State.issueSearchEntry_of_wide hm hc hv hw hl)
  · exact exec_completes (exec_searchBurst q pos keys s) hok ha (State.issueBurst_of_host hm hc hv hh)
  · exact exec_completes (exec_table q pos block s) hok ha (State.issueTable_of_host hm hc hh hb hl)
  · exact exec_completes (exec_fenceL q pos s) hok ha (State.issueFence_of_first he hb hr hs hn ho (.inl rfl))
  · exact exec_completes (exec_fenceS q pos s) hok ha (State.issueFence_of_first he hb hr hs hn ho (.inr hw))
  · exact exec_completes (exec_fenceF q pos s) hok ha (State.issueFence_of_first he hb hr hs hn ho (.inr hw))

/-! ### Queue and dump-ring control (R136, R137, R322, R325) -/

@[simp] theorem State.touchClient_power (s : State) (c : Client) : (s.touchClient c).power = s.power := by
  obtain ⟨clients, lost, ras, h⟩ := s.touchClient_eq (c := c)
  rw [h]

section control
variable (s : State) (c : Client) (sel : Selector) (v : Nat)

theorem State.writeNum_queueControl :
    s.writeNum c sel 0x2600 4 v = match s.queueControl (sel 0x2600 1) v with
      | some t => .ok t
      | none => .error abortInvalidValue := rfl

theorem State.writeNum_dumpControl :
    s.writeNum c sel 0x4621 3 v = if s.power.windowOpen && v = 1 then .error abortInvalidValue
      else match s.ringControl (sel 0x4621 1) v with
        | some t => .ok t
        | none => .error abortInvalidValue := rfl

theorem State.writeNum_dumpHead : s.writeNum c sel 0x4621 5 v = .ok (s.moveHead (sel 0x4621 1) v) := rfl

end control

/-- A write of QUEUE_CONTROL that nothing bars completes with the effect that the queue's state gives it. -/
theorem exec_queueControl {s : State} {i : Instr} {c : Client} {q v : Nat} {f : State → State}
    (he : exec i s = run i s fun u => u.namedWrite c 0x2600 4 (fieldBytes v 1) (some (0x2600, q))) (hi : i.wellFormed = true)
    (hc : c.ok = true) (hq : q < 4096) (hm : s.mayWrite c 0x2600 4 (some (0x2600, q)) = true) (hv : 1 ≤ v ∧ v ≤ 3)
    (hf : State.queueControl { s.touchClient c with pending := [], out := [] } q v = some (f { s.touchClient c with pending := [], out := [] })) :
    exec i s = .next (s.after i (State.wrote c 0x2600 4 (leBytes v 1) f)) := by
  refine exec_numberWrite ⟨0x2600, 4, .u8, .wo, 0, 1, 3⟩ he hi hc hm (by decide) (windowShows_of_lt rfl hq) hv ?_
  rintro u rfl
  rw [State.writeTables_of_none rfl, State.writeNum_queueControl, State.picked_window, hf]

/-- A write of DUMP_CONTROL outside the start-up window completes with the effect that the ring's state gives it. -/
theorem exec_dumpControl {s : State} {i : Instr} {c : Client} {r v : Nat} {f : State → State}
    (he : exec i s = run i s fun u => u.namedWrite c 0x4621 3 (fieldBytes v 1) (some (0x4621, r))) (hi : i.wellFormed = true)
    (hc : c.ok = true) (hr : r < 16) (hm : s.mayWrite c 0x4621 3 (some (0x4621, r)) = true) (hw : s.power.windowOpen = false) (hv : 1 ≤ v ∧ v ≤ 2)
    (hf : State.ringControl { s.touchClient c with pending := [], out := [] } r v = some (f { s.touchClient c with pending := [], out := [] })) :
    exec i s = .next (s.after i (State.wrote c 0x4621 3 (leBytes v 1) f)) := by
  refine exec_numberWrite ⟨0x4621, 3, .u8, .wo, 0, 1, 2⟩ he hi hc hm (by decide) (windowShows_of_lt rfl hr) hv ?_
  rintro u rfl
  have hw' : (s.touchClient c).power.windowOpen = false := by rw [State.touchClient_power, hw]
  simp only [State.writeTables_of_none (sel := State.picked _ c (some (0x4621, r))) (index := 0x4621) (sub := 3) rfl,
    State.writeNum_dumpControl, State.picked_window, hf, hw', Bool.false_and, Bool.false_eq_true, if_false]

namespace State
variable {s : State} {q : Nat}

/-- What DISABLE does to a queue that fetches: its entries are aborted, the stores not yet issued are dropped, bulk commands of which nothing is out end, and what has ended is posted. -/
def drainQueue (s : State) (q : Nat) : State :=
  ((s.modQueue q fun x => { x with
      st := .draining
      recoveryFlag := if x.st = .recovery then false else x.recoveryFlag
      entries := x.entries.map QEntry.abort
      stores := x.stores.filter (·.issued) }).modQueue q fun x => { x with
        entries := mapIf (fun e => e.stopped && e.out.isEmpty && e.copied.isEmpty && !e.ended)
          (fun e => { e with ended := true, detail := BitVec.ofNat 64 (e.done * 2 ^ 32) }) x.entries }).post q

theorem queueControl_enable_of_disabled (h : (s.queueAt q).st = .disabled) (hc : s.enableOk q = true) :
    s.queueControl q 1 = some (s.enterActive q) := by
  simp only [queueControl, queueEnable, h, hc, if_true]

theorem queueControl_enable_of_fetching (h : (s.queueAt q).st = .active ∨ (s.queueAt q).st = .recovery) : s.queueControl q 1 = some s := by
  rcases h with h | h <;> simp only [queueControl, queueEnable, h]

theorem queueControl_disable_of_fetching (h : (s.queueAt q).st = .active ∨ (s.queueAt q).st = .recovery) :
    s.queueControl q 2 = some (s.drainQueue q) := by
  rcases h with h | h <;> simp only [queueControl, queueDisable, h, drainQueue]

theorem queueControl_disable_of_stopped (h : (s.queueAt q).st = .disabled ∨ (s.queueAt q).st = .halted) : s.queueControl q 2 = some s := by
  rcases h with h | h <;> simp only [queueControl, queueDisable, h]

theorem queueControl_reset_of_disabled (h : (s.queueAt q).st = .disabled) : s.queueControl q 3 = some (s.modQueue q Queue.restart) := by
  simp only [queueControl, queueReset, h]

theorem queueControl_reset_of_halted (h : (s.queueAt q).st = .halted) (he : (s.queueAt q).entries = []) :
    s.queueControl q 3 = some (s.modQueue q Queue.restart) := by
  simp only [queueControl, queueReset, h, he, List.isEmpty_nil, if_true]

/-- Whether ENABLE of a ring is taken depends on nothing that waits or has left. -/
theorem ringEnable_blank_isSome (s : State) (r : Nat) :
    (State.ringEnable { s with pending := [], out := [] } r).isSome = (s.ringEnable r).isSome := by
  have hring : State.ring { s with pending := [], out := [] } r = s.ring r := rfl
  have hok : State.ringOk { s with pending := [], out := [] } r = s.ringOk r := rfl
  simp only [ringEnable, hring, hok]
  split
  · split <;> rfl
  · split
    · rfl
    · split <;> rfl

end State

/-- Settles O14: the state of the queue or ring names one branch of its control write, whose effect is what the statement writes out. -/
theorem queueAndRingWrites : Obligations.QueueAndRingWrites := by
  intro s c q r hc hq hr
  refine ⟨fun hm => ?_, fun hm hw => ⟨fun he => ?_, ?_⟩, fun v hm => ?_⟩
  · have enable := fun {f : State → State} => exec_queueControl (v := 1) (f := f) (exec_queueEnable c q s) hc hc hq hm (by decide)
    have disable := fun {f : State → State} => exec_queueControl (v := 2) (f := f) (exec_queueDisable c q s) hc hc hq hm (by decide)
    have reset := fun {f : State → State} => exec_queueControl (v := 3) (f := f) (exec_queueReset c q s) hc hc hq hm (by decide)
    exact ⟨fun h hok => enable (State.queueControl_enable_of_disabled h hok), fun h => enable (State.queueControl_enable_of_fetching h),
      fun h => disable (State.queueControl_disable_of_fetching h), fun h => disable (State.queueControl_disable_of_stopped h),
      fun h => reset (State.queueControl_reset_of_disabled h), fun h hn => reset (State.queueControl_reset_of_halted h hn)⟩
  · refine exec_dumpControl (v := 1) (exec_dumpEnable c r s) hc hc hr hm hw (by decide) ?_
    rw [← State.ringEnable_blank_isSome] at he
    obtain ⟨t, ht⟩ := Option.isSome_iff_exists.mp he
    simp only [State.ringControl, ht, Option.getD_some]
  · exact exec_dumpControl (v := 2) (exec_dumpDisable c r s) hc hc hr hm hw (by decide) rfl
  · have hlt : v.toNat < 256 ^ 4 := v.isLt
    have hf := exec_dumpHead c r v s
    rw [← fieldBytes_of_lt hlt] at hf
    refine exec_numberWrite ⟨0x4621, 5, .u32, .rw, 0, 0, 0xFFFFFFFF⟩ hf hc hc hm (by decide) (windowShows_of_lt rfl hr)
      ⟨Nat.zero_le _, Nat.le_pred_of_lt v.isLt⟩ fun u _ => ?_
    rw [State.writeTables_of_none rfl, State.writeNum_dumpHead, State.picked_window]

/-! ### The frame of the commands that take up their entry (R147, R153, R318) -/

/-- From one table of queues to another no other queue than `q` changes, and of `q` neither the state and configuration nor the rings and their positions. -/
def EntryOnly (q : Nat) (a b : Table Queue) : Prop :=
  (∀ p, p ≠ q → Table.get {} b p = Table.get {} a p) ∧
    let x := Table.get {} a q
    let y := Table.get {} b q
    y.st = x.st ∧ y.cfg = x.cfg ∧ y.sqBase = x.sqBase ∧ y.cqBase = x.cqBase ∧ y.sqTail = x.sqTail ∧ y.sqHead = x.sqHead ∧
      y.cqTail = x.cqTail ∧ y.cqHead = x.cqHead

theorem entryOnly_refl (q : Nat) (a : Table Queue) : EntryOnly q a a := ⟨fun _ _ => rfl, rfl, rfl, rfl, rfl, rfl, rfl, rfl, rfl⟩

/-- Other entries and stores of a queue that has some are no change of the rest of the queues. -/
theorem entryOnly_modify (a : Table Queue) (q : Nat) (es : Queue → List QEntry) (ss : Queue → List QStore)
    (h : es (Table.get {} a q) ≠ [] ∨ ss (Table.get {} a q) ≠ []) :
    EntryOnly q a (Table.modify {} a q fun x => { x with entries := es x, stores := ss x }) ∧
      (Table.get {} (Table.modify {} a q fun x => { x with entries := es x, stores := ss x }) q).stores = ss (Table.get {} a q) := by
  have hne : ({ Table.get {} a q with entries := es (Table.get {} a q), stores := ss (Table.get {} a q) } : Queue) ≠ {} := fun he =>
    h.elim (fun h => h (congrArg Queue.entries he)) fun h => h (congrArg Queue.stores he)
  have hq := Table.get_set_of_ne_default a q hne
  refine ⟨⟨fun p hp => Table.get_modify_of_ne a _ hp, ?_⟩, ?_⟩
  · rw [Table.modify, hq]
    exact ⟨rfl, rfl, rfl, rfl, rfl, rfl, rfl, rfl⟩
  · rw [Table.modify, hq]

namespace State
variable {s u : State} {q pos : Nat}

/-- An entry that may issue is one of its queue's. -/
theorem entries_ne_nil_of_mayIssue {opcode : Nat} {ordered : Bool} {e : QEntry} (h : u.mayIssue q pos opcode ordered = some e) :
    (u.queueAt q).entries ≠ [] := by
  intro hn
  simp [mayIssue, entryIn, hn] at h

/-- The state with another table of queues. -/
def withQueues (s : State) (qs : Table Queue) : State := { s with queue := { s.queue with queues := qs } }

/-- ZERO and COPY change at most their entry. -/
theorem issueBulk_eq (u : State) (q pos opcode : Nat) : ∃ qs, u.issueBulk q pos opcode = u.withQueues qs ∧
    EntryOnly q u.queue.queues qs ∧ (Table.get {} qs q).stores = (u.queueAt q).stores := by
  cases hm : u.mayIssue q pos opcode false with
  | none => exact ⟨u.queue.queues, by simp only [issueBulk, hm, withQueues], entryOnly_refl .., rfl⟩
  | some e =>
    have hes : mapIf (·.pos == pos) (fun e => { e with issued := true }) (u.queueAt q).entries ≠ [] := by
      simpa [mapIf] using entries_ne_nil_of_mayIssue hm
    obtain ⟨hframe, hstores⟩ := entryOnly_modify u.queue.queues q
      (fun x => mapIf (·.pos == pos) (fun e => { e with issued := true }) x.entries) (·.stores) (.inl hes)
    exact ⟨_, issueBulk_of_mayIssue hm, hframe, hstores⟩

/-- WRITE waits, or takes a place in the store buffer and counts itself. -/
theorem issueWrite_cases (u : State) (q pos : Nat) : u.issueWrite q pos = u ∨
    ∃ qs, u.issueWrite q pos = (u.withQueues qs).countQueue q 1 ∧ EntryOnly q u.queue.queues qs := by
  cases hm : u.mayIssue q pos 2 true with
  | none => exact .inl (by simp only [issueWrite, hm])
  | some e =>
    by_cases hw : (decide (16 ≤ (u.queueAt q).stores.length) || u.issuedBefore q e) = true
    · exact .inl (by simp only [issueWrite, hm, hw, if_true])
    · obtain ⟨hfull, hi⟩ := Bool.or_eq_false_iff.mp (Bool.eq_false_iff.mpr hw)
      have hframe := entryOnly_modify u.queue.queues q (·.entries)
        (fun x => x.stores ++ [{ pos := pos, offset := e.addr0, len := e.length, data := e.data }]) (.inr (by simp))
      exact .inr ⟨_, issueWrite_of_room hm (Nat.lt_of_not_le (by simpa using hfull)) hi, hframe.1⟩

/-- A queue processor's count changes the counters alone. -/
theorem countQueue_eq (u : State) (q n : Nat) : ∃ c, u.countQueue q n = { u with counter := c } := by
  unfold countQueue count countBy
  split <;> exact ⟨_, rfl⟩

/-- The latches change the fault state alone, when an effect has left FAULT_N and the power chapter as they were. -/
theorem latched_eq {t : State} (hs : s.ras.faultN = true → s.isFatal = true) (hn : t.ras.faultN = s.ras.faultN) (hp : t.power = s.power)
    (cold : Bool) : ∃ ras, s.latched t cold = { t with ras := ras } := by
  refine ⟨(s.latched t cold).ras, ?_⟩
  have hfatal : ∀ r, State.isFatal { t with ras := r } = s.isFatal := fun r => by simp only [isFatal, hp]
  have hpower : (s.latched t cold).power = t.power := by
    simp only [latched, hfatal]
    cases hF : s.isFatal
    · have hN : s.ras.faultN = false := Bool.eq_false_iff.mpr fun h => by simp [hs h] at hF
      simp [hn, hN, hp]
    · simp [hp]
  calc s.latched t cold = { t with ras := (s.latched t cold).ras, power := (s.latched t cold).power } := rfl
    _ = { t with ras := (s.latched t cold).ras } := by rw [hpower]

/-- What a command leaves whose effect changes queues and counters: beside them registers and the fault state, where restarted counters are reported. -/
theorem after_of_queuesAndCounters (hs : s.Inv) (i : Instr) {f : State → State} {qs : Table Queue} {c : CounterSt}
    (hf : f { s with pending := [], out := [] } = { State.withQueues { s with pending := [], out := [] } qs with counter := c }) :
    ∃ regs ras counter, s.after i f = { s.withQueues qs with regs := regs, ras := ras, counter := counter } := by
  obtain ⟨hw, hn, -⟩ := hs
  obtain ⟨regs, ras, hr, hfault⟩ := State.noteRestarts_eq (f { s with pending := [], out := [] })
  rw [hf] at hr hfault
  rw [← hf] at hr
  obtain ⟨r, hl⟩ := latched_eq (t := (f { s with pending := [], out := [] }).noteRestarts) hn (by rw [hr]; exact hfault) (by rw [hr, hf]; rfl)
    (resetsCold i)
  refine ⟨regs, r, { c with restarted := [] }, ?_⟩
  rw [State.after, commit, hl, hr, hf]
  simp only [withQueues, Memory.canon_of_wf hw, letsOut_nil, List.append_nil]

end State

/-- ZERO and COPY leave all but the entries of their queue. -/
theorem zeroCopy_frame {s t : State} {q pos : Nat} {i : Instr} (hs : s.Inv) (hi : i = .zero q pos ∨ i = .copy q pos)
    (h : exec i s = .next t) : ∃ qs, t = s.withQueues qs ∧ EntryOnly q s.queue.queues qs ∧ (Table.get {} qs q).stores = (s.queueAt q).stores := by
  have ⟨_, _, hr⟩ := hs
  obtain ⟨opcode, he⟩ : ∃ opcode, exec i s = run i s (·.issueBulk q pos opcode) := by
    rcases hi with rfl | rfl
    · exact ⟨_, exec_zero q pos s⟩
    · exact ⟨_, exec_copy q pos s⟩
  obtain ⟨qs, hf, hframe, hstores⟩ := State.issueBulk_eq { s with pending := [], out := [] } q pos opcode
  rw [he] at h
  obtain ht | ht := run_quiet hs i (·.issueBulk q pos opcode) hf rfl rfl rfl hr rfl h
  · exact ⟨s.queue.queues, ht, entryOnly_refl .., rfl⟩
  · exact ⟨qs, by simpa [State.withQueues] using ht, hframe, hstores⟩

/-- WRITE leaves all but the store buffer of its queue and what its count changes. -/
theorem write_frame {s t : State} {q pos : Nat} (hs : s.Inv) (h : exec (.write q pos) s = .next t) :
    ∃ qs regs ras counter, t = { s.withQueues qs with regs := regs, ras := ras, counter := counter } ∧ EntryOnly q s.queue.queues qs := by
  obtain ht | ht := exec_next_cases (exec_write q pos s) rfl h
  · exact ⟨s.queue.queues, s.regs, s.ras, s.counter, ht, entryOnly_refl ..⟩
  · obtain hf | ⟨qs, hf, hframe⟩ := State.issueWrite_cases { s with pending := [], out := [] } q pos
    · obtain ⟨regs, ras, counter, ha⟩ := State.after_of_queuesAndCounters hs (.write q pos) (f := (·.issueWrite q pos))
        (qs := s.queue.queues) (c := s.counter) hf
      exact ⟨s.queue.queues, regs, ras, counter, ht.trans ha, entryOnly_refl ..⟩
    · obtain ⟨c, hc⟩ := State.countQueue_eq (State.withQueues { s with pending := [], out := [] } qs) q 1
      obtain ⟨regs, ras, counter, ha⟩ := State.after_of_queuesAndCounters hs (.write q pos) (f := (·.issueWrite q pos)) (hf.trans hc)
      exact ⟨qs, regs, ras, counter, ht.trans ha, hframe⟩

/-- With no counter of bad parity, WRITE leaves registers and the fault state, and every counter but its own. -/
theorem write_counts {s t : State} {q pos : Nat} (hs : s.Inv) (hb : s.counter.badParity = []) (h : exec (.write q pos) s = .next t) :
    t.regs = s.regs ∧ t.ras = s.ras ∧
      ∀ n, n ≠ 1280 + 8 * (q % 32) + 1 → Table.get 0 t.counter.counters n = Table.get 0 s.counter.counters n := by
  have ⟨_, _, hr⟩ := hs
  rw [exec_write] at h
  obtain hf | ⟨qs, hf, -⟩ := State.issueWrite_cases { s with pending := [], out := [] } q pos
  · obtain rfl | rfl := run_quiet hs _ (·.issueWrite q pos) hf rfl rfl rfl hr rfl h <;> exact ⟨rfl, rfl, fun _ _ => rfl⟩
  · rw [State.countQueue, State.count_of_goodParity (u := State.withQueues { s with pending := [], out := [] } qs) hb] at hf
    obtain rfl | rfl := run_quiet hs _ (·.issueWrite q pos) hf rfl rfl rfl hr rfl h
    · exact ⟨rfl, rfl, fun _ _ => rfl⟩
    · exact ⟨rfl, rfl, fun n hn => Table.get_modify_of_ne (d := 0) s.counter.counters (· + 1) hn⟩

/-- Settles O56: ZERO and COPY change the entries of their queue alone, WRITE its store buffer and one count. -/
theorem queueEntryFrame : Obligations.QueueEntryFrame := by
  intro s t q pos i hs hi h
  by_cases hw : i = .write q pos
  · subst hw
    have hcounts := fun hb => write_counts hs hb h
    obtain ⟨qs, regs, ras, counter, rfl, hframe⟩ := write_frame hs h
    exact ⟨fun _ => rfl, hframe.1, hframe.2, rfl, rfl, rfl, rfl, rfl, rfl, rfl, rfl, rfl, rfl, rfl, rfl, fun hne => absurd rfl hne, hcounts⟩
  · have hzc : i = .zero q pos ∨ i = .copy q pos := by simpa [hw] using hi
    obtain ⟨qs, rfl, hframe, hstores⟩ := zeroCopy_frame hs hzc h
    exact ⟨fun _ => rfl, hframe.1, hframe.2, rfl, rfl, rfl, rfl, rfl, rfl, rfl, rfl, rfl, rfl, rfl, rfl,
      fun _ => ⟨rfl, rfl, rfl, hstores⟩, fun _ => ⟨rfl, rfl, fun _ _ => rfl⟩⟩

end Sys2Proof.Machine
end

section
/-! SUPPORT. The search engine: the best match of a search and its record, the chart commands, and the steps of the engine. -/

namespace Sys2Proof.Machine

/-! ### The best match (R174)

The clauses of O50 on the best match hold of every table of rows; the one on the whole record holds where the table is canonical. -/

/-- A match goes before another: it has the higher priority or, at the same priority, no higher an index (R174). -/
def Precedes (p q : Nat × Row) : Prop := q.2.priority < p.2.priority ∨ q.2.priority = p.2.priority ∧ p.1 ≤ q.1

theorem Precedes.refl (p : Nat × Row) : Precedes p p := .inr ⟨rfl, Nat.le_refl _⟩

theorem Precedes.trans {p q r : Nat × Row} (h : Precedes p q) (h' : Precedes q r) : Precedes p r := by
  unfold Precedes at *
  omega

/-- A fold that takes up some elements and counts them folds those and has their number. -/
theorem foldl_counting {α β : Type} (p : α → Bool) (f : β → α → β) (l : List α) : ∀ (b : β) (n : Nat),
    l.foldl (fun (x : β × Nat) a => if p a then (f x.1 a, x.2 + 1) else x) (b, n) =
      ((l.filter p).foldl f b, n + (l.filter p).length) := by
  induction l with
  | nil => exact fun _ _ => rfl
  | cons a l ih =>
    intro b n
    by_cases h : p a = true
    · rw [List.foldl_cons, if_pos h, ih, List.filter_cons_of_pos h, List.foldl_cons, List.length_cons]
      congr 1
      omega
    · rw [List.foldl_cons, if_neg h, ih, List.filter_cons_of_neg h]

namespace State

/-- The better of two matches is one of them, and goes before both. -/
theorem betterMatch_some (a b : Nat × Row) :
    ∃ p, betterMatch (some a) b = some p ∧ (p = a ∨ p = b) ∧ Precedes p a ∧ Precedes p b := by
  unfold betterMatch Precedes
  by_cases h : (a.2.priority < b.2.priority || (a.2.priority == b.2.priority && decide (b.1 < a.1))) = true
  · refine ⟨b, if_pos h, .inr rfl, ?_, Precedes.refl b⟩
    simp only [Bool.or_eq_true, Bool.and_eq_true, decide_eq_true_eq, beq_iff_eq] at h
    omega
  · refine ⟨a, if_neg h, .inl rfl, Precedes.refl a, ?_⟩
    simp only [Bool.or_eq_true, Bool.and_eq_true, decide_eq_true_eq, beq_iff_eq] at h
    omega

/-- The best of a list of matches and one more is among them, and goes before each. -/
theorem foldl_betterMatch_some (l : List (Nat × Row)) : ∀ a : Nat × Row,
    ∃ p, l.foldl betterMatch (some a) = some p ∧ p ∈ a :: l ∧ ∀ q ∈ a :: l, Precedes p q := by
  induction l with
  | nil => exact fun a => ⟨a, rfl, List.mem_singleton_self a, fun q hq => List.mem_singleton.mp hq ▸ .refl a⟩
  | cons b l ih =>
    intro a
    obtain ⟨c, hc, hmem, hca, hcb⟩ := betterMatch_some a b
    obtain ⟨p, hp, hin, hbest⟩ := ih c
    have hpc : Precedes p c := hbest c List.mem_cons_self
    refine ⟨p, by rw [List.foldl_cons, hc, hp], ?_, ?_⟩
    · rcases List.mem_cons.mp hin with rfl | hl
      · rcases hmem with rfl | rfl <;> simp
      · simp [hl]
    · simp only [List.forall_mem_cons] at hbest ⊢
      exact ⟨hpc.trans hca, hpc.trans hcb, hbest.2⟩

/-- The rows listed whose entries match in the fired banks. -/
def matchesIn (s : State) (c width : Nat) (banks : List Nat) (key : BitVec 512) : List (Nat × Row) :=
  s.search.rows.filter fun (p : Nat × Row) => banks.contains (rowBank p.1) && s.entryMatches p.1 p.2 c width key

section matched
variable (s : State) (c width : Nat) (banks : List Nat) (key : BitVec 512)

theorem bestMatch_eq :
    s.bestMatch c width banks key =
      ((s.matchesIn c width banks key).foldl betterMatch none, (s.matchesIn c width banks key).length) :=
  (foldl_counting _ betterMatch s.search.rows none 0).trans (by rw [Nat.zero_add]; rfl)

/-- There is no best match exactly when nothing matches. -/
theorem bestMatch_eq_none_iff : (s.bestMatch c width banks key).1 = none ↔ s.matchesIn c width banks key = [] := by
  rw [bestMatch_eq]
  cases s.matchesIn c width banks key with
  | nil => exact ⟨fun _ => rfl, fun _ => rfl⟩
  | cons a l =>
    obtain ⟨p, hp, -⟩ := foldl_betterMatch_some l a
    have hsome : (a :: l).foldl betterMatch none = some p := hp
    simp [hsome]

/-- The best match is a match of its chart, and goes before every match (R174). -/
theorem bestMatch_some {p : Nat × Row} (h : (s.bestMatch c width banks key).1 = some p) :
    p ∈ s.matchesIn c width banks key ∧ p.2.chart = c ∧ ∀ q ∈ s.matchesIn c width banks key, Precedes p q := by
  have hbest : p ∈ s.matchesIn c width banks key ∧ ∀ q ∈ s.matchesIn c width banks key, Precedes p q := by
    rw [bestMatch_eq] at h
    revert h
    cases s.matchesIn c width banks key with
    | nil => exact fun h => absurd h (by simp)
    | cons a l =>
      obtain ⟨q, hq, hin, hall⟩ := foldl_betterMatch_some l a
      intro h
      obtain rfl : q = p := Option.some.inj (hq.symm.trans h)
      exact ⟨hin, hall⟩
  have hm : s.entryMatches p.1 p.2 c width key = true := by
    have := (List.mem_filter.mp hbest.1).2
    simp only [Bool.and_eq_true] at this
    exact this.2
  simp only [entryMatches, Bool.and_eq_true, beq_iff_eq] at hm
  obtain ⟨⟨⟨⟨-, hchart⟩, -⟩, -⟩, -⟩ := hm
  exact ⟨hbest.1, hchart, hbest.2⟩

end matched

/-! ### The record of a search (R195, R196, R198) -/

section undamaged
variable {s : State} (h : s.ras.damage = [])
include h

theorem damageAt_undamaged (b w : Nat) : s.damageAt b w = 0 := by
  rw [damageAt, h, Table.get_nil]

theorem checkKey_undamaged (key : BitVec 512) : s.checkKey key = (s, false, key) :=
  List.foldl_fixed' (fun w => if_pos (damageAt_undamaged h 372 w)) _

theorem checkChartWord_undamaged (c : Nat) : s.checkChartWord c = s := by
  simp [checkChartWord, damageAt_undamaged h]

theorem checkControls_undamaged (c width : Nat) (banks : List Nat) (key : BitVec 512) :
    s.checkControls c width banks key = (s, false) := by
  simp [checkControls, h]

theorem checkDatum_undamaged (i : Nat) : s.checkDatum i = (s, s.search.datumPoison.contains (i / 2)) := by
  simp [checkDatum, damageAt_undamaged h]

/-- The record of a search that finds an entry on a healthy chart: the datum is the one that is read back under the entry's index. -/
theorem searchNow_of_found {c i : Nat} {r : Row} {key : BitVec 512} (hs : s.chartServes c = true) (hw : (s.chart c).badWord = false)
    (hp : i / 2 ∉ s.search.datumPoison)
    (hb : (s.bestMatch c (cdWidth (s.chart c).desc1) (firedBanks (s.chart c).desc1 (s.chart c).gmap key) key).1 = some (i, r)) :
    (s.searchNow c key).2 = mkResult (s.rowAt i).datum r.priority i s.deviceNumber
      (s.bestMatch c (cdWidth (s.chart c).desc1) (firedBanks (s.chart c).desc1 (s.chart c).gmap key) key).2 false false true := by
  have hc : s.control 372 = (s, true) := control_undamaged (damageAt_undamaged h _ _)
  simp only [searchNow, hc, checkKey_undamaged h, checkChartWord_undamaged h, checkControls_undamaged h, checkDatum_undamaged h, hs, hw,
    hb, List.contains_eq_mem, hp, decide_false, Bool.not_true, Bool.or_self, Bool.false_eq_true, if_false]

end undamaged
end State

/-- The keys of a canonical table lie at or above its bound. -/
theorem Table.le_of_mem {α : Type} [DecidableEq α] {d : α} {t : Table α} {b n : Nat} {v : α} (h : Table.above d b t = true)
    (hm : (n, v) ∈ t) : b ≤ n := by
  induction t generalizing b with
  | nil => exact absurd hm List.not_mem_nil
  | cons p t ih =>
    obtain ⟨k, w⟩ := p
    simp only [Table.above, Bool.and_eq_true, decide_eq_true_eq] at h
    obtain ⟨⟨hb, -⟩, ht⟩ := h
    rcases List.mem_cons.mp hm with he | hm
    · exact (Prod.mk.inj he).1 ▸ hb
    · exact (Nat.le_succ_of_le hb).trans (ih ht hm)

/-- In a canonical table every listed value is the one that its key reads. -/
theorem Table.get_of_mem {α : Type} [DecidableEq α] {d : α} {t : Table α} {b n : Nat} {v : α} (h : Table.above d b t = true)
    (hm : (n, v) ∈ t) : Table.get d t n = v := by
  induction t generalizing b with
  | nil => exact absurd hm List.not_mem_nil
  | cons p t ih =>
    obtain ⟨k, w⟩ := p
    simp only [Table.above, Bool.and_eq_true, decide_eq_true_eq] at h
    rcases List.mem_cons.mp hm with he | hm
    · obtain ⟨rfl, rfl⟩ := Prod.mk.inj he
      exact if_pos rfl
    · have hk : k ≠ n := Nat.ne_of_lt (Table.le_of_mem h.2 hm)
      rw [Table.get, if_neg hk]
      exact ih h.2 hm

/-- Where the table of rows is canonical the record gives the best match's own datum (R195). -/
theorem State.searchNow_of_canonicalRows {s : State} {c i : Nat} {r : Row} {key : BitVec 512} (hr : Table.wf {} s.search.rows = true)
    (hd : s.ras.damage = []) (hs : s.chartServes c = true) (hw : (s.chart c).badWord = false) (hp : i / 2 ∉ s.search.datumPoison)
    (hb : (s.bestMatch c (cdWidth (s.chart c).desc1) (firedBanks (s.chart c).desc1 (s.chart c).gmap key) key).1 = some (i, r)) :
    (s.searchNow c key).2 = mkResult r.datum r.priority i s.deviceNumber
      (s.bestMatch c (cdWidth (s.chart c).desc1) (firedBanks (s.chart c).desc1 (s.chart c).gmap key) key).2 false false true := by
  have hrow : s.rowAt i = r := Table.get_of_mem hr (List.mem_of_mem_filter (s.bestMatch_some _ _ _ _ hb).1)
  rw [searchNow_of_found hd hs hw hp hb, hrow]

/-- A LOCAL chart whose rows list index 65,536 twice, with different data. -/
def listedTwice : State where
  search := {
    charts := [(255, { desc1 := BitVec.ofNat 128 (2 ^ 127 + 4 * 2 ^ 115 + 2 ^ 107 + 2 ^ 102), st := .valid })]
    rows := [(65536, { valid := true, chart := 255, datum := 1 }), (65536, { valid := true, chart := 255, priority := 9, datum := 2 })] }

/-- Refutes O50 in its last clause: the statement takes any table of rows, and where one lists an index twice the record has the datum of the row listed first, not the best match's. -/
theorem not_bestMatchWins : ¬ Obligations.BestMatchWins := by
  intro h
  have hb : (listedTwice.bestMatch 255 (cdWidth (listedTwice.chart 255).desc1)
      (firedBanks (listedTwice.chart 255).desc1 (listedTwice.chart 255).gmap 0) 0).1 =
      some (65536, { valid := true, chart := 255, priority := 9, datum := 2 }) := by decide +kernel
  obtain ⟨-, -, -, hrecord⟩ := h listedTwice 255 0 [] 0
  have hclaimed := hrecord _ _ rfl rfl rfl (by decide) hb
  rw [State.searchNow_of_found rfl rfl rfl (by decide) hb] at hclaimed
  exact absurd hclaimed (by decide +kernel)

/-! ### The chart commands (R183, R184, R211, R214 to R216) -/

@[simp] theorem Chart.openStage_st (x : Chart) : x.openStage.st = x.st := by unfold Chart.openStage; split <;> rfl
@[simp] theorem Chart.openStage_desc1 (x : Chart) : x.openStage.desc1 = x.desc1 := by unfold Chart.openStage; split <;> rfl
@[simp] theorem Chart.openStage_desc0 (x : Chart) : x.openStage.desc0 = x.desc0 := by unfold Chart.openStage; split <;> rfl
@[simp] theorem Chart.openStage_dmap (x : Chart) : x.openStage.dmap = x.dmap := by unfold Chart.openStage; split <;> rfl

namespace State
variable {s : State} {t n : Nat}

/-- The first commit of a LOCAL chart waits for its mark behind the groups in the engine's hands (R183, R184). -/
theorem commitChart_of_local (h0 : n ≠ 0) (hb : s.chartBusy n = false) (he : s.chartEmpty n = true)
    (hv : cdValid (s.chart n).openStage.staged1 = true)
    (hd : s.descriptorCheck (s.chart n).openStage.staged1 (s.chart n).openStage.staged0 (s.chart n).openStage.stagedGmap = none)
    (hs : cdSpan (s.chart n).openStage.staged1 = 0) (ho : cdValid (s.chart n).desc1 = false) :
    s.commitChart t n = (s.modChart n fun _ => { (s.chart n).openStage with st := .committing, hasStaged := true }).handGroup
      { applies := [], after := .commit n t } := by
  simp [commitChart, h0, hb, he, hv, hd, hs, ho]

theorem dropChart_of_local (h0 : n ≠ 0) (hb : s.chartBusy n = false)
    (hl : cdValid (s.chart n).desc1 = false ∨ cdSpan (s.chart n).desc1 = 0) : s.dropChart t n = s.enterDropping n (some t) := by
  have hspan : (cdValid (s.chart n).desc1 && cdSpan (s.chart n).desc1 != 0) = false := by
    rcases hl with hl | hl <;> simp [hl]
  simp [dropChart, h0, hb, hspan]

/-- Where entries find places depends on the rows in use alone. -/
theorem placeAll_congr (s u : State) (w1 : Word128) (gmap : Table Nat) (l : List (Nat × EntryRec)) :
    ∀ used : List Nat, s.placeAll w1 gmap l used = u.placeAll w1 gmap l used := by
  induction l with
  | nil => exact fun _ => rfl
  | cons p l ih =>
    intro used
    simp only [placeAll, allocate, ih]

/-- CHART_MOVE whose checks pass and whose entries have places writes them there (R211). -/
theorem moveChart_of_places {w1 : Word128} {places : List (Nat × List Nat)} (h0 : n ≠ 0) (hb : s.chartBusy n = false)
    (hw : (s.chart n).openStage.staged1 = w1) (hv : (s.chart n).st = .valid) (hm : moveBits w1 = moveBits (s.chart n).desc1)
    (h0' : setFld (s.chart n).openStage.staged0 44 12 0 = setFld (s.chart n).desc0 44 12 0)
    (hmap : (s.chart n).openStage.stagedDmap = (s.chart n).dmap)
    (hd : s.descriptorCheck w1 (s.chart n).openStage.staged0 (s.chart n).openStage.stagedGmap = none)
    (hbanks : (((List.range (cdBankCount w1)).map (cdBankFirst w1 + ·)).any
      ((List.range (cdBankCount (s.chart n).desc1)).map (cdBankFirst (s.chart n).desc1 + ·)).contains) = false)
    (hp : s.placeAll w1 (s.chart n).openStage.stagedGmap
      (s.search.entries.filter fun (p : Nat × EntryRec) => p.2.chart == n && !p.2.rows.isEmpty) s.usedRows = some places) :
    s.moveChart t n = s.moveEntries t n w1 places := by
  subst hw
  simp only [moveChart, h0, hb, hv, hm, h0', hmap, hd, hbanks, hp, Chart.openStage_st, Chart.openStage_desc1, Chart.openStage_desc0,
    Chart.openStage_dmap, bne_self_eq_false, Bool.or_self, Bool.false_eq_true, if_false]

section members
variable {d : Nat} (hb : s.chartBusy n = false) (hv : (s.chart n).st = .valid) (hs : cdSpan (s.chart n).desc1 ≠ 0) (hr : s.spanReady = true)
  (hg : s.goodMember d = true)
include hb hv hs hr hg

/-- CHART_ADMIT of a good member, which for a FLIGHT chart is of this flight, runs the span command with it (R214 to R216). -/
theorem changeMembers_admits (hf : cdSpan (s.chart n).desc1 = 2 → d / 32 = s.flight) :
    s.changeMembers t n d true =
      ({ s with search := { s.search with released := s.search.released.filter (· != (n, d)) } } : State).startSpan t n
        (s.chart n).desc1 (s.chart n).desc0 (dmapList (s.chart n).dmap) ((s.chart n).members.filter (· != d) ++ [d]) false false [] := by
  have hflight : (cdSpan (s.chart n).desc1 == 2 && d / 32 != s.flight) = false := by
    by_cases h : cdSpan (s.chart n).desc1 = 2 <;> simp [h, hf]
  simp [changeMembers, hb, hv, hs, hr, hg, hflight]

/-- CHART_RELEASE of another member that no device-map entry uses runs the span command without it, and tells it (R214 to R216). -/
theorem changeMembers_releases (ho : d ≠ s.deviceNumber) (hm : (s.chart n).members.contains d = true)
    (hu : (usedDevices (s.chart n).desc1 (s.chart n).dmap).contains d = false) :
    s.changeMembers t n d false =
      ({ s with search := { s.search with released := s.search.released.filter (· != (n, d)) } } : State).startSpan t n
        (s.chart n).desc1 (s.chart n).desc0 (dmapList (s.chart n).dmap) ((s.chart n).members.filter (· != d)) false false [(d, true)] := by
  simp only [List.contains_eq_mem, decide_eq_true_eq, decide_eq_false_iff_not] at hm hu
  simp [changeMembers, hb, hv, hs, hr, hg, ho, hm, hu]

end members
end State

section startChartCommand
variable (u s : State) (c : Client) (g : Nat) {n : Nat} (hn : n < 256)
include hn

theorem param_chart : param (leBytes n 1) 0 1 = n := (param_leBytes n 1).trans (Nat.mod_eq_of_lt hn)

theorem startCommand_chartCommit : u.startCommand (heldCommand s c 0x3001 g (leBytes n 1)) = u.commitChart s.mgmt.nextTicket n :=
  congrArg (u.commitChart s.mgmt.nextTicket) (param_chart hn)

theorem startCommand_chartDrop : u.startCommand (heldCommand s c 0x3002 g (leBytes n 1)) = u.dropChart s.mgmt.nextTicket n :=
  congrArg (u.dropChart s.mgmt.nextTicket) (param_chart hn)

theorem startCommand_chartMove : u.startCommand (heldCommand s c 0x3003 g (leBytes n 1)) = u.moveChart s.mgmt.nextTicket n :=
  congrArg (u.moveChart s.mgmt.nextTicket) (param_chart hn)

/-- The parameters of the member commands: the chart and its zero byte, and the device. -/
theorem param_member {d : Nat} (hd : d < 1024) :
    param (leBytes n 2 ++ leBytes d 2) 0 1 = n ∧ param (leBytes n 2 ++ leBytes d 2) 2 2 = d :=
  ⟨param_chart hn, (param_leBytes d 2).trans (Nat.mod_eq_of_lt (by omega))⟩

theorem startCommand_chartAdmit {d : Nat} (hd : d < 1024) :
    u.startCommand (heldCommand s c 0x3004 g (leBytes n 2 ++ leBytes d 2)) = u.changeMembers s.mgmt.nextTicket n d true :=
  congrArg₂ (u.changeMembers s.mgmt.nextTicket · · true) (param_member hn hd).1 (param_member hn hd).2

theorem startCommand_chartRelease {d : Nat} (hd : d < 1024) :
    u.startCommand (heldCommand s c 0x3005 g (leBytes n 2 ++ leBytes d 2)) = u.changeMembers s.mgmt.nextTicket n d false :=
  congrArg₂ (u.changeMembers s.mgmt.nextTicket · · false) (param_member hn hd).1 (param_member hn hd).2

theorem startCommand_tableExec (b : List Byte) :
    u.startCommand (heldCommand s c 0x3101 g (leBytes n 16 ++ b)) = u.submitTable (.ticket s.mgmt.nextTicket) n b :=
  congrArg (u.submitTable (.ticket s.mgmt.nextTicket) · b) (param_chart hn)

end startChartCommand

/-- Settles O8: a submission leaves the charts, the canal and the engine as they are, so that the checks of a chart command come out as in the state before it. -/
theorem chartCommands : Obligations.ChartCommands := by
  intro s c g n hc hn
  have hb {k : Nat} (hk : k ≠ 0) : fieldBytes n k = leBytes n k := fieldBytes_of_lt (hn.trans_le (Nat.le_self_pow hk 256))
  have hb1 : fieldBytes n 1 = leBytes n 1 := hb (by decide)
  have hb2 {d : Nat} (hd : d < 1024) : fieldBytes n 2 ++ fieldBytes d 2 = leBytes n 2 ++ leBytes d 2 := by
    rw [hb (by decide), fieldBytes_of_lt (by omega : d < 256 ^ 2)]
  refine ⟨fun ht h0 hbusy he hv hd hs ho => ?_, fun ht h0 hbusy hl => ?_, fun w1 places ht h0 hbusy hw hv hm hw0 hmap hd hbanks hp => ?_,
    fun d hd ht hbusy hv hs hr hg hf => ?_, fun d hd ht hbusy hv hs hr ho hg hm hu => ?_, fun b ht => ?_⟩
  · exact exec_command_running (hb1 ▸ exec_chartCommit c g n s) hc hc rfl (by decide) ht fun _ _ _ =>
      (startCommand_chartCommit _ _ _ _ hn).trans (State.commitChart_of_local h0 hbusy he hv hd hs ho)
  · exact exec_command_running (hb1 ▸ exec_chartDrop c g n s) hc hc rfl (by decide) ht fun _ _ _ =>
      (startCommand_chartDrop _ _ _ _ hn).trans (State.dropChart_of_local h0 hbusy hl)
  · exact exec_command_running (hb1 ▸ exec_chartMove c g n s) hc hc rfl (by decide) ht fun _ _ _ =>
      (startCommand_chartMove _ _ _ _ hn).trans (State.moveChart_of_places h0 hbusy hw hv hm hw0 hmap hd hbanks
        ((State.placeAll_congr ..).trans hp))
  · exact exec_command_running (hb2 hd ▸ exec_chartAdmit c g n d s) hc hc rfl (by decide) ht fun _ _ _ =>
      (startCommand_chartAdmit _ _ _ _ hn hd).trans (State.changeMembers_admits hbusy hv hs hr hg hf)
  · exact exec_command_running (hb2 hd ▸ exec_chartRelease c g n d s) hc hc rfl (by decide) ht fun _ _ _ =>
      (startCommand_chartRelease _ _ _ _ hn hd).trans (State.changeMembers_releases hbusy hv hs hr hg ho hm hu)
  · exact exec_command_running (hb (k := 16) (by decide) ▸ exec_tableExec c g n b s) hc hc rfl (by decide) ht fun _ _ _ =>
      startCommand_tableExec _ _ _ _ hn b

/-! ### The steps of the search engine (R184, R188, R193, R194, R212) -/

namespace State
variable {s : State}

section delivered
variable {id q pos part : Nat} {r : SearchRun}
  (hf : s.search.runs.find? (fun r => r.id == id && r.source != SearchFor.cascade 0) = some r) (hq : r.source = .queue q pos part)
include hf hq

/-- A result that is delivered 28 ns after its issue is in its window (R188). -/
theorem searchResult_of_due (hn : s.now = r.issued + 28) :
    s.searchResult id = ({ s with search := { s.search with runs := s.search.runs.filter (·.id != id) } } : State).toQueue
      { queue := q, pos := pos, part := part, record := some r.result } := by
  simp [searchResult, hf, hq, hn]

/-- A result that is delivered later has missed its window (R293). -/
theorem searchResult_of_late (hn : r.issued + 28 < s.now) :
    s.searchResult id = (({ s with search := { s.search with runs := s.search.runs.filter (·.id != id) } } : State).windowMissed r.chart
      s.deviceNumber 5).toQueue { queue := q, pos := pos, part := part, record := some r.result } := by
  simp only [searchResult, hf, hq, hn, Nat.not_lt.mpr hn.le, decide_true, Bool.and_self, if_false, if_true]
  rfl

end delivered

/-- The group at the head of APPLY is written when nothing fires its banks, and the marks behind it pass (R193). -/
theorem applyHead_of_ready {g : ApplyGroup} {rest : List ApplyGroup} (hg : s.search.groups = g :: rest) (hr : s.groupReady g = true)
    (ha : g.applies ≠ []) (hn : g.after ≠ .region) :
    s.applyHead = passMarks (rest.length + 1) (((s.writeGroup g).count 1538).afterApply g.after) := by
  simp [applyHead, applyGroup, hg, hr, ha, hn]

/-- At the mark of its commit the staged descriptor and maps of a COMMITTING chart apply (R184). -/
theorem applyHead_of_commit {c ticket : Nat} (hs : (s.chart c).st = .committing)
    (hg : s.search.groups = [{ applies := [], after := .commit c ticket }]) :
    s.applyHead = passMarks 1 (((s.writeGroup { applies := [], after := .commit c ticket }).modChart c fun x => { x with
      desc1 := x.staged1, desc0 := withLatency x.staged1 x.staged0, gmap := x.stagedGmap, dmap := x.stagedDmap
      st := .valid, hasStaged := false, members := [] }).endCmd ticket 0) := by
  have hst : ((s.writeGroup { applies := [], after := .commit c ticket }).chart c).st = .committing := hs
  simp [applyHead, applyGroup, groupReady, afterApply, commitDone, hg, hst]

/-- A sweep read moves on to the next row of its banks, and after the last begins the next pass (R194). -/
theorem sweepOnce_sweepPos (hf : s.fits 1 ((List.range 8).map (8 * (s.search.sweepPos / 16384) + ·)) = true) :
    s.sweepOnce.search.sweepPos = if s.search.sweepPos + 1 < 262144 then s.search.sweepPos + 1 else 0 := by
  simp only [sweepOnce, hf, Bool.not_true, Bool.false_eq_true, if_false]
  split <;> rfl

/-- SWEEP_PERIOD that passes is reported once in a pass (R212, R293). -/
theorem sweepMissed_of_due (hl : s.search.sweepLate = false) (hn : s.search.sweepBegan + s.reg 0x3001 1 * 1000000 ≤ s.now) :
    s.sweepMissed = ((({ s with search := { s.search with sweepLate := true } } : State).deadlineMiss 2).bump32 0x3440 3).raise 0x5105
      .degraded (.count s.search.sweepPos 0) := by
  simp [sweepMissed, hl, Nat.not_lt.mpr hn]

@[simp] theorem noteRestarts_search (s : State) : s.noteRestarts.search = s.search := by
  obtain ⟨regs, ras, h, -⟩ := s.noteRestarts_eq
  rw [h]

/-- A command leaves the search engine as its effect left it. -/
theorem after_search (s : State) (i : Instr) (f : State → State) :
    (s.after i f).search = (f { s with pending := [], out := [] }).search :=
  noteRestarts_search (f _)

end State

/-- Settles O23: each step finds what it is about, and when it is due, at the state in which it acts. -/
theorem searchSteps : Obligations.SearchSteps := by
  intro s ha
  refine ⟨exec_completes (exec_searchIssue s) rfl ha rfl, fun id q pos part r hf hq => ⟨fun hn => ?_, fun hn => ?_⟩,
    fun g rest hg hr hne hn => ?_, fun c ticket hs hg => ?_, fun hf => ?_, fun hl hn => ?_, fun chart hc => ?_⟩
  · exact exec_completes (exec_searchResult id s) rfl ha (State.searchResult_of_due hf hq hn)
  · exact exec_completes (exec_searchResult id s) rfl ha (State.searchResult_of_late hf hq hn)
  · exact exec_completes (exec_applyGroupWrite s) rfl ha (State.applyHead_of_ready hg hr hne hn)
  · exact exec_completes (exec_applyGroupWrite s) rfl ha (State.applyHead_of_commit hs hg)
  · have hrun : exec .sweepRead s = .next (s.after .sweepRead (·.sweepOnce)) := exec_completes (exec_sweepRead s) rfl ha rfl
    refine ⟨hrun, _, hrun, ?_⟩
    rw [State.after_search]
    exact State.sweepOnce_sweepPos hf
  · exact exec_completes (exec_sweepPeriodMiss s) rfl ha (State.sweepMissed_of_due hl hn)
  · have hok : (Instr.chartWordReload chart).wellFormed = true := by simpa [Instr.wellFormed, chartOk] using hc
    exact exec_completes (exec_chartWordReload chart s) hok ha rfl

end Sys2Proof.Machine
end


section
/-! SUPPORT. Charts and cascade search: the start of table commands, the messages between an owner and its holders, the span changes, and the parts of a cascade search. -/

namespace Sys2Proof.Machine

/-! ### A table command whose turn has come (R203, R210) -/

namespace State
variable {s : State} {n : Nat} {c : TableCmd}

/-- The command that is first in its chart's queue starts under its own operation once nothing holds its chart back (R210). -/
theorem startTable_of_turn {op : Nat} {f : State → TableCmd → State}
    (hc : s.search.cmds.find? (fun c => c.chart == n && c.phase == .queued) = some c) (hr : s.tableRuns n = false)
    (hp : spanPending (s.chart n) = false) (hl : s.runningCharts.length < 4) (hv : (s.chart n).st = .valid) (ho : thOp c.header = op) :
    s.startTable n op f = f (s.readRecordWord (entryRecord (thEntry c.header))) c := by
  have hgo : ¬ (thOp c.header ≠ op || s.tableRuns n || spanPending (s.chart n) || decide (4 ≤ s.runningCharts.length)) = true := by
    simp [ho, hr, hp, hl]
  have hvalid : ¬ ((s.chart n).st != .valid) = true := by simp [hv]
  simp only [startTable, hc]
  rw [if_neg hgo, if_neg hvalid]

end State

/-- Settles O24: the turn of the command has come, and each of the four commands starts the one of its own operation. -/
theorem tableCommands : Obligations.TableCommands := by
  intro s n c ha hn hc hr hp hl hv
  have hok : chartOk n = true := by simpa [chartOk] using hn
  refine ⟨fun ho => ?_, fun ho => ?_, fun ho => ?_, fun ho => ?_⟩
  · exact exec_completes (exec_insert n s) hok ha (congrArg State.settleCharts (State.startTable_of_turn hc hr hp hl hv ho))
  · exact exec_completes (exec_delete n s) hok ha (congrArg State.settleCharts (State.startTable_of_turn hc hr hp hl hv ho))
  · exact exec_completes (exec_modify n s) hok ha (congrArg State.settleCharts (State.startTable_of_turn hc hr hp hl hv ho))
  · exact exec_completes (exec_readback n s) hok ha (congrArg State.settleCharts (State.startTable_of_turn hc hr hp hl hv ho))

/-! ### Sub-operations at a holder (R206 to R209) -/

/-- The sub-operations on the copies of an entry that another device owns. -/
def onCopies : SubOp → Bool
  | .command _ | .undo | .lost | .pending _ _ => false
  | _ => true

/-- An operation on copies carries no device number whose range is to be checked. -/
theorem wellFormed_tableSubOperation {owner n tag id prio : Nat} {op : SubOp} {v m : BitVec 512} {d : BitVec 64} (ho : owner < 1024)
    (hn : n < 256) (ht : tag < 2 ^ 16) (hi : id < 2 ^ 32) (hp : prio < 2 ^ 20) (hop : ∀ d still, op ≠ .pending d still) :
    (Instr.tableSubOperation owner n { tag := tag, op := op } id v m prio d).wellFormed = true := by
  cases op with
  | pending d still => exact absurd rfl (hop d still)
  | _ => simp [Instr.wellFormed, deviceOk, chartOk, fits, ho, hn, ht, hi, hp, -Nat.reducePow]

namespace State
variable {s : State} {owner n tag id : Nat} {op : SubOp} {e : EntryRec}

/-- The record with which a sub-operation of an owner is answered, while one is kept (R209). -/
def knownSub (s : State) (owner tag : Nat) : Option SubRec :=
  s.search.subsDone.find? fun r => (r.owner == owner && r.tag == tag) && (r.answer.isNone || decide (s.now < r.ended + 64000))

/-- A sub-operation is taken on record, and the records that DEDUP_HOLD has passed since go (R209). -/
def noteSub (s : State) (owner tag : Nat) : State :=
  { s with search := { s.search with
      subsDone := (s.search.subsDone.filter fun r => !(r.owner == owner && r.tag == tag) &&
        (r.answer.isNone || decide (s.now < r.ended + s.reg 0x3400 2 * 1000000))) ++ [{ owner := owner, tag := tag }] } }

theorem takeSub_onCopies (hop : onCopies op = true) (hid : id / 2 ^ 22 ≠ s.deviceNumber) (hm : (s.chart n).st ≠ .moving) :
    s.takeSub owner n tag op id e = s.holderDoes owner n tag op id e := by
  have hst : ¬ ((s.chart n).st == .moving) = true := by simpa using hm
  cases op with
  | command | undo | lost | pending => cases hop
  | _ => exact (if_neg hid).trans (if_neg hst)

/-- A sub-operation on copies that has not been received before is done once it is on record, its value under its mask. -/
theorem subOperation_onCopies (hk : s.knownSub owner tag = none) (hop : onCopies op = true) (hid : id / 2 ^ 22 ≠ s.deviceNumber)
    (hm : (s.chart n).st ≠ .moving) :
    s.subOperation owner n tag op id e = (s.noteSub owner tag).holderDoes owner n tag op id { e with value := e.value &&& e.mask } := by
  rw [← takeSub_onCopies (s := s.noteSub owner tag) hop hid hm]
  rw [knownSub] at hk
  simp only [subOperation, hk]
  cases op with
  | command => cases hop
  | _ => rfl

/-- A forwarded command that has not been received before joins the queue of its chart, once it is on record (R204). -/
theorem subOperation_command {h : BitVec 256} (hk : s.knownSub owner tag = none) :
    s.subOperation owner n tag (.command h) id e = (s.noteSub owner tag).fresh.2.enqueueTable
      { id := (s.noteSub owner tag).fresh.1, source := .peer owner tag, chart := n, header := h, value := e.value, mask := e.mask } := by
  rw [knownSub] at hk
  simp only [subOperation, hk]
  rfl

/-- A copy of a sub-operation that was answered is answered as the first one was (R209). -/
theorem subOperation_known {r : SubRec} {words : List Nat} (hk : s.knownSub owner tag = some r) (hw : r.answer = some words) :
    s.subOperation owner n tag op id e = s.sendMgmt owner mkTableConfirm (tag :: words) := by
  rw [knownSub] at hk
  simp only [subOperation, hk, hw]

section valid
variable (hv : (s.chart n).st = .valid)
include hv

theorem holderDoes_reserve : s.holderDoes owner n tag .reserve id e = s.holderReserve owner tag id e := by
  simp [holderDoes, hv]

theorem holderDoes_apply :
    s.holderDoes owner n tag .apply id e = s.holderApply owner tag id e (.confirm owner tag n id) := by
  simp [holderDoes, hv]

theorem holderDoes_rewrite : s.holderDoes owner n tag .rewrite id e = s.holderRewrite owner tag id e := by
  simp [holderDoes, hv]

end valid

/-! ### Confirmations and pending updates (R206, R208) -/

/-- A confirmation that concerns no pending update carries on the command that waits for it. -/
theorem holderConfirmed_of_confirming {holder index rows : Nat} {c : TableCmd}
    (hu : s.search.updates.find? (fun u => u.device == holder && u.tag == tag) = none)
    (hc : s.search.cmds.find? (fun c => c.unconfirmed.any fun a => a.device == holder && a.tag == tag) = some c)
    (hf : c.forwarded = false) (hp : c.phase = .confirming) :
    s.holderConfirmed holder tag true index rows [] = (s.modTable c.id fun k => { k with
      unconfirmed := k.unconfirmed.filter fun a => !(a.device == holder && a.tag == tag) }).progress c.id := by
  have hd : s.updateDone holder tag = s := by simp only [updateDone, hu]
  simp [holderConfirmed, hd, hc, hf, hp]

theorem holderConfirmed_of_idle {holder index rows : Nat} {l : List Byte} (hc : s.search.cmds = []) :
    s.holderConfirmed holder tag false index rows l = s := by
  simp [holderConfirmed, hc]

section timeout
variable {c : TableCmd}
  (hc : s.search.cmds.find? (fun c => c.entry == id && c.phase != .queued && !c.unconfirmed.isEmpty &&
    decide (c.asked + 1000000 ≤ s.now)) = some c) (hf : c.forwarded = false)
include hc hf

/-- Reservations that are not confirmed within 1 ms are undone (R208). -/
theorem confirmTimeout_of_reserving (hp : c.phase = .reserving) : s.confirmTimeout id = (s.rollBack c).refuseTable c 7 := by
  simp [confirmTimeout, hc, hf, hp]

/-- A DELETE that is not confirmed within 1 ms keeps what it has done, and leaves the rest pending (R208). -/
theorem confirmTimeout_of_delete (hp : c.phase = .confirming) (ho : thOp c.header = 2) :
    s.confirmTimeout id = ((((s.raise 0x5108 .contained (.peer ((c.unconfirmed.map (·.device)).headD 0) c.chart 0 c.entry 0)).deleteEntry
      c.entry).keepUpdates c.chart c.entry (c.unconfirmed.map fun a => (a.device, a.op))).refuseTable c 7) := by
  simp [confirmTimeout, hc, hf, leavePending, openUpdates, hp, ho]

end timeout

/-- The one pending update is sent again when it was last sent 1 ms ago (R208). -/
theorem resendUpdates_of_due {u : PendingUpdate} (hu : s.search.updates = [u]) (hd : u.sent + 1000000 ≤ s.now) :
    s.resendUpdates =
      let s' := s.sendSub u.device u.tag u.op u.entry { s.entryAt u.entry with chart := u.chart }
      { s' with search := { s'.search with
          updates := mapIf (fun u => decide (u.sent + 1000000 ≤ s.now)) (fun u => { u with sent := s.now }) s'.search.updates } } := by
  have hfilter : s.search.updates.filter (fun u => decide (u.sent + 1000000 ≤ s.now)) = [u] := by simp [hu, hd]
  simp only [resendUpdates, hfilter, List.foldl_cons, List.foldl_nil]

end State

/-- Settles O25: what is on record decides whether a sub-operation is done, the command that waits what a confirmation or its lack does. -/
theorem tableMessages : Obligations.TableMessages := by
  intro s n owner tag id prio v m d ha hn ho ht hi hp
  have hok {op : SubOp} (hop : ∀ d still, op ≠ .pending d still) := wellFormed_tableSubOperation (v := v) (m := m) (d := d) ho hn ht hi hp hop
  have hconfirm {ok : Bool} {index rows : Nat} (hx : index < 2 ^ 21) (hr : rows < 2 ^ 15) :
      (Instr.holderConfirm owner tag ok index rows []).wellFormed = true := by
    simp [Instr.wellFormed, deviceOk, fits, ho, ht, hx, hr, -Nat.reducePow]
  refine ⟨fun hk hv hid => ?_, fun h hk => ?_, fun r words hk hw => ?_, fun index rows c hx hr hu hc hf hph => ?_, fun hc => ?_,
    fun c hc hf => ⟨fun hph => ?_, fun hph hop => ?_⟩, fun u hu hd => ?_, fun client cseq => ?_⟩
  · have hm : (s.chart n).st ≠ .moving := by simp [hv]
    have hdone (op : SubOp) (hop : onCopies op = true) := State.subOperation_onCopies
      (s := { s with pending := [], out := [] }) (n := n) (e := { chart := n, value := v, mask := m, priority := prio, datum := d }) hk hop hid hm
    exact ⟨exec_completes (exec_tableSubOperation ..) (hok (by simp)) ha ((hdone .reserve rfl).trans (State.holderDoes_reserve hv)),
      exec_completes (exec_tableSubOperation ..) (hok (by simp)) ha ((hdone .apply rfl).trans (State.holderDoes_apply hv)),
      exec_completes (exec_tableSubOperation ..) (hok (by simp)) ha (hdone .remove rfl),
      exec_completes (exec_tableSubOperation ..) (hok (by simp)) ha ((hdone .rewrite rfl).trans (State.holderDoes_rewrite hv)),
      exec_completes (exec_tableSubOperation ..) (hok (by simp)) ha (hdone .trim rfl),
      exec_completes (exec_tableSubOperation ..) (hok (by simp)) ha (hdone .discard rfl)⟩
  · exact exec_completes (exec_tableSubOperation ..) (hok (by simp)) ha
      (State.subOperation_command hk)
  · exact exec_completes (exec_tableSubOperation ..) (hok (by simp)) ha
      (State.subOperation_known hk hw)
  · exact exec_completes (exec_holderConfirm ..) (hconfirm hx hr) ha
      (congrArg State.settleCharts (State.holderConfirmed_of_confirming hu hc hf hph))
  · exact exec_completes (exec_holderConfirm ..) (hconfirm (by decide) (by decide)) ha
      (congrArg State.settleCharts (State.holderConfirmed_of_idle hc))
  · exact exec_completes (exec_holderConfirmTimeout id s) rfl ha
      (congrArg State.settleCharts (State.confirmTimeout_of_reserving hc hf hph))
  · exact exec_completes (exec_holderConfirmTimeout id s) rfl ha
      (congrArg State.settleCharts (State.confirmTimeout_of_delete hc hf hph hop))
  · exact exec_completes (exec_pendingUpdateResend s) rfl ha (State.resendUpdates_of_due hu hd)
  · exact exec_completes (exec_dedupRecordExpiry client cseq s) rfl ha rfl

/-! ### Span changes (R210, R215) -/

namespace State
variable {s : State} {n : Nat} {j : SpanJob}

/-- PREPARE waits for the table command that runs on the chart (R210). -/
theorem prepared_of_works (hw : s.chartWorks n = true) (hb : s.chartBusy n = false) :
    s.prepared n j = s.modChart n fun x => { x with prepare := some j } := by
  simp [prepared, hw, hb]

theorem prepared_refused {code : Nat} (hw : s.chartWorks n = false) (hc : s.memberCheck n j = some code) :
    s.prepared n j = s.sendMgmt j.coordinator mkReady [n, 1, code] := by
  simp [prepared, answerPrepare, hw, hc]

/-- A member whose checks pass holds the change until its instant, and is READY (R215, step 3). -/
theorem prepared_ready (hw : s.chartWorks n = false) (hc : s.memberCheck n j = none) :
    s.prepared n j = (s.modChart n fun x => { x with
      span := some j, st := if !j.drop && !memberChange (s.chart n) j then .committing else x.st }).sendMgmt j.coordinator mkReady
        [n, 0, 0] := by
  simp only [prepared, answerPrepare, hw, hc, Bool.false_and, Bool.false_eq_true, if_false]

section job
variable (hj : (s.chart n).span = some j)
include hj

section coordinator
variable (hl : j.coordinator = s.deviceNumber)
include hl

theorem readyFrom_ready {m : Nat} (ht : s.canalTime + 20000 ≤ j.instant) :
    s.readyFrom m n .ready = s.modChart n fun x => { x with
      span := some { j with ready := if j.ready.contains m then j.ready else j.ready ++ [m] } } := by
  simp [readyFrom, hj, hl, Nat.not_lt.mpr ht]

theorem appliedBy_of_lead {m : Nat} :
    s.appliedBy m n = (s.modChart n fun x => { x with
      span := some { j with applied := if j.applied.contains m then j.applied else j.applied ++ [m] } }).spanDone n false := by
  simp [appliedBy, hj, hl]

/-- A change that is not whole 5 µs before its instant is aborted (R215, step 4). -/
theorem readyDeadline_of_lacking (ht : j.instant ≤ s.canalTime + 20000) (hr : allReady j = false) :
    s.readyDeadline n = s.abortSpan n j (spanCode (s.chart n) j) := by
  simp [readyDeadline, hj, hl, Nat.not_lt.mpr ht, hr]

/-- 45 µs after its start a change ends without the members that have not confirmed it (R215, step 6). -/
theorem spanTimeout_of_due (hd : j.done = true) (ht : j.started + 45000 ≤ s.now) :
    s.spanTimeout n = ((j.members.filter fun d => !j.applied.contains d).foldl
      (fun s d => s.raise 0x5109 .degraded (.peer d n 0 0 0)) s).spanDone n true := by
  simp [spanTimeout, hj, hl, hd, Nat.not_lt.mpr ht]

end coordinator

theorem aborted_of_prepared (hl : j.coordinator ≠ s.deviceNumber) (hp : (s.chart n).prepare = none) :
    s.aborted n j.generation = s.modChart n fun x => { x with span := none, st := x.resting } := by
  simp [aborted, hp, hj, hl]

/-- A change whose instant has come applies, at its coordinator only when every member is READY (R215, step 5). -/
theorem applySpan_of_due (ht : j.instant ≤ s.canalTime) (hd : j.done = false)
    (hr : j.coordinator = s.deviceNumber → allReady j = true) : s.applySpan n = s.applySpanJob n j := by
  have hgo : ¬ (s.canalTime < j.instant || j.done || (j.coordinator == s.deviceNumber && !allReady j)) = true := by
    simpa [Nat.not_lt.mpr ht, hd] using hr
  simp only [applySpan, hj]
  exact if_neg hgo

end job
end State

/-- Settles O26: the chart's job, its instant and its coordinator say what each step does. -/
theorem spanSteps : Obligations.SpanSteps := by
  intro s n j ha hn
  have hok : chartOk n = true := by simpa [chartOk] using hn
  refine ⟨fun coord g w1 w0 dmap members drop t hco hg hlen hms => ?_, fun m hj hl hm => ⟨fun ht => ?_, ?_⟩, fun hj hl ht hr => ?_,
    fun hj hl hg hp => ?_, fun hj ht hd hr => ?_, fun hj hl hd ht => ?_⟩
  · have hwf : (Instr.prepare coord n g w1 w0 dmap members drop t).wellFormed = true := by
      simp [Instr.wellFormed, deviceOk, hok, fits, hco, hg, hlen, hms, -Nat.reducePow, -List.all_eq_true]
    exact ⟨fun hw hb => exec_completes (exec_prepare ..) hwf ha (State.prepared_of_works hw hb),
      fun code hw hc => exec_completes (exec_prepare ..) hwf ha (State.prepared_refused hw hc),
      fun hw hc => exec_completes (exec_prepare ..) hwf ha (State.prepared_ready hw hc)⟩
  · have hwf : (Instr.ready m n .ready).wellFormed = true := by simp [Instr.wellFormed, deviceOk, hm, hok]
    exact exec_completes (exec_ready m n .ready s) hwf ha (State.readyFrom_ready (s := { s with pending := [], out := [] }) hj hl ht)
  · have hwf : (Instr.applied m n).wellFormed = true := by simp [Instr.wellFormed, deviceOk, hm, hok]
    exact exec_completes (exec_applied m n s) hwf ha (State.appliedBy_of_lead (s := { s with pending := [], out := [] }) hj hl)
  · exact exec_completes (exec_spanReadyDeadline n s) hok ha
      (State.readyDeadline_of_lacking hj hl ht hr)
  · have hwf : (Instr.abort n j.generation).wellFormed = true := by simp [Instr.wellFormed, hok, fits, hg, -Nat.reducePow]
    exact exec_completes (exec_abort n j.generation s) hwf ha
      (State.aborted_of_prepared hj hl hp)
  · exact exec_completes (exec_spanApply n s) hok ha (State.applySpan_of_due hj ht hd hr)
  · exact exec_completes (exec_spanConfirmTimeout n s) hok ha
      (State.spanTimeout_of_due hj hl hd ht)

/-! ### The parts of a cascade search (R217 to R219) -/

namespace State
variable {s : State} {id link launch : Nat}

theorem launch_of_waiting {r : SearchReq} (hr : s.search.waiting.find? (fun r => r.id == id && s.isSpan r) = some r) :
    s.launch id = s.launchSearch r := by
  simp only [launch, hr]

section flightPart
variable {n gen : Nat} {stamp : BitVec 32} {key : BitVec 512} (hl : link < 62) (ht : launch < 4096)
  (hw : s.power.device ≠ .warmResetting) (ha : s.partAccepted n gen stamp = true) (hs : cdSpan (s.chart n).desc1 = 3)
include hl ht hw ha hs

/-- The first part of a launch of a CANAL chart that comes on a flight link is searched here (R218). -/
theorem partArrives_first (h0 : (s.noteFlightPart (s.flightPeer link) n launch).2 = 0) :
    s.partArrives link n gen stamp launch key =
      (s.noteFlightPart (s.flightPeer link) n launch).1.servePart (some link) none n launch key := by
  have hreach : ¬ 62 ≤ link := Nat.not_le.mpr hl
  simp [partArrives, hw, ha, hs, Nat.mod_eq_of_lt ht, hreach, h0]

/-- A later one is passed on: its number among them says to which of the flights that its origin reaches over this device (R218, R352). -/
theorem partArrives_next {k f : Nat} (hk : (s.noteFlightPart (s.flightPeer link) n launch).2 = k + 1)
    (hf : ((s.noteFlightPart (s.flightPeer link) n launch).1.detoursFor (s.flightPeer link) (s.chart n))[k]? = some f) :
    s.partArrives link n gen stamp launch key =
      let t := (s.noteFlightPart (s.flightPeer link) n launch).1
      t.relayPart link n launch key [(f * 32 + t.position, t.reachSrch f)] false true := by
  have hreach : ¬ 62 ≤ link := Nat.not_le.mpr hl
  simp [partArrives, hw, ha, hs, Nat.mod_eq_of_lt ht, hreach, hk, hf]

end flightPart

/-- A part that no pipe has taken within 8 cycles is answered NO_SLOT (R218). -/
theorem partNoSlot_of_due {r : SearchReq} (hr : s.search.waiting.find? (fun r => r.id == id && r.cls == .cascade) = some r)
    (ht : r.arrived + 8 ≤ s.now) :
    s.partNoSlot id = (({ s with search := { s.search with
      waiting := s.search.waiting.filter (·.id != id) } } : State).bump64 0x3430 4).partDone id { result := 0, reason := 4, lacked := 0 } := by
  simp only [partNoSlot, hr]
  exact if_neg (Nat.not_lt.mpr ht)

/-- An answer in time to a launch of this device joins it, when no relayed part is here that it could be for (R218, R219). -/
theorem partAnswered_of_launch {member : Nat} {a : PartAnswer} {l : Launch} (hp : s.search.parts = [])
    (hl : s.search.launches.find? (fun l => launchField l.launch == launch % 4096 && l.waiting.contains member) = some l)
    (ht : s.inTime l = true) :
    s.partAnswered link member launch a =
      (s.modLink link fun k => { k with srchOut := k.srchOut.erase (member, launch % 4096) }).launchGets l.id member a := by
  have hin : (s.modLink link fun k => { k with srchOut := k.srchOut.erase (member, launch % 4096) }).inTime l = true := ht
  simp only [partAnswered, modLink_search, hp, List.find?_nil, hl, hin, if_true]

/-- A relay whose deadline has come drops what it still searches for the part, and answers with what it has (R218). -/
theorem relayDue_of_due {p : Part} (hp : s.search.parts.find? (fun p => p.id == id && p.relay && p.answer.isNone) = some p)
    (hl : relayLimit (s.chart p.chart) p ≤ (s.canalTime + 16384 - p.launch * 4) % 16384)
    (hu : (s.canalTime + 16384 - p.launch * 4) % 16384 < 8192) :
    s.relayDue id = ({ s with search := { s.search with
      waiting := s.search.waiting.filter fun r => !(s.search.parts.any fun q => q.parent == some id && q.id == r.id)
      parts := s.search.parts.filter fun q => q.parent != some id } } : State).relayAnswer p := by
  simp only [relayDue, hp]
  exact if_neg (by simp [Nat.not_lt.mpr hl, Nat.not_le.mpr hu])

theorem release_of_due {l : Launch} (hl : s.search.launches.find? (·.id == id) = some l) (ht : s.releaseAt l ≤ s.canalTime) :
    s.release id = s.releaseLaunch l := by
  simp only [release, hl]
  exact if_neg (Nat.not_lt.mpr ht)

end State

/-- Settles O27: each step finds the search, the part or the launch that it is about, and its time. -/
theorem cascadeSteps : Obligations.CascadeSteps := by
  intro s id ha
  refine ⟨fun r hr => ?_, fun link n gen launch stamp key hl hn hg ht hw hacc hs => ?_, fun r hr ht => ?_,
    fun link member launch a l hli hm hla hp hl ht => ?_, fun p hp hl hu => ?_, fun l hl ht => ?_⟩
  · exact exec_completes (exec_cascadeLaunch id s) rfl ha (State.launch_of_waiting hr)
  · have hwf : (Instr.partRequest link n gen stamp launch key).wellFormed = true := by
      simp [Instr.wellFormed, portOk, chartOk, fits, hn, hg, (by omega : link < 128), (by omega : launch < 2 ^ 64), -Nat.reducePow]
    exact ⟨fun h0 => exec_completes (exec_partRequest ..) hwf ha
        (State.partArrives_first (s := { s with pending := [], out := [] }) hl ht hw hacc hs h0),
      fun k f hk hf => exec_completes (exec_partRequest ..) hwf ha
        (State.partArrives_next (s := { s with pending := [], out := [] }) hl ht hw hacc hs hk hf)⟩
  · exact exec_completes (exec_partNoSlot id s) rfl ha (State.partNoSlot_of_due hr ht)
  · have hwf : (Instr.partAnswer link member launch a).wellFormed = true := by
      simp [Instr.wellFormed, portOk, deviceOk, fits, hli, hm, hla, -Nat.reducePow]
    exact exec_completes (exec_partAnswer link member launch a s) hwf ha
      (State.partAnswered_of_launch hp hl ht)
  · exact exec_completes (exec_relayDeadline id s) rfl ha (State.relayDue_of_due hp hl hu)
  · exact exec_completes (exec_cascadeRelease id s) rfl ha (State.release_of_due hl ht)

end Sys2Proof.Machine
end


section
/-! SUPPORT. Memory protection: the protection and key commands, the steps of the counter nodes and key slots, and the steps of the re-knitting engine. -/

namespace Sys2Proof.Machine

/-! ### A command that starts alone (R403) -/

/-- In the state in which a command starts it is the one command held. -/
theorem started_eq_alone (s : State) (c : Client) (op ctag : Nat) (params : List Byte) : ∃ (m : MgmtSt) (x : RasSt) (o : List Out),
    s.started c op ctag params = { s with mgmt := m, ras := x, out := o } ∧ m.cmds.map (·.opcode) = [op] := by
  obtain ⟨m, x, o, h⟩ := started_eq s c op ctag params
  refine ⟨m, x, o, h, ?_⟩
  have hm : (s.started c op ctag params).mgmt = m := congrArg State.mgmt h
  exact hm ▸ rfl

/-- A command whose start looks at the commands that are held finds itself alone. -/
theorem exec_command_running_alone {s : State} {i : Instr} {c : Client} {op ctag : Nat} {params : List Byte} {f : Nat → State → State}
    (he : exec i s = run i s fun u => u.command c op ctag params) (hi : i.wellFormed = true) (hc : cmdOk c ctag = true)
    (ho : (cmdArea op).isSome = true) (ho' : op < 2 ^ 16) (ht : s.takes c op params = true)
    (hf : ∀ (m : MgmtSt) (x : RasSt) (o : List Out), m.cmds.map (·.opcode) = [op] →
      State.startCommand { s with pending := [], mgmt := m, ras := x, out := o } (heldCommand s c op ctag params) =
        f s.mgmt.nextTicket { s with pending := [], mgmt := m, ras := x, out := o }) :
    exec i s = .next (s.after i (State.running c op ctag params f)) := by
  refine exec_completes he hi (State.takes_awake ht) ?_
  rw [command_takes _ c op ctag params ho ho' hc ((takes_blank s c op params).trans ht), State.running]
  obtain ⟨m, x, o, h, hm⟩ := started_eq_alone { s with pending := [], out := [] } c op ctag params
  rw [h]
  exact hf m x o hm

theorem State.takes_cmds {s : State} {c : Client} {op : Nat} {params : List Byte} (h : s.takes c op params = true) : s.mgmt.cmds = [] := by
  simp only [State.takes, Bool.and_eq_true, List.isEmpty_iff] at h
  tauto

/-! ### The protection and key commands (R253, R254, R258, R266 to R270) -/

namespace State
variable {s : State} {t r k : Nat}

/-- Only a region command holds the commands of a root back. -/
theorem regionCmdOn_of_opcodes (h : ∀ c ∈ s.mgmt.cmds, 0x2004 < c.opcode) : s.regionCmdOn r = false := by
  rw [regionCmdOn, List.any_eq_false]
  intro c hc
  have hop : ¬ c.opcode ≤ 0x2004 := Nat.not_le.mpr (h c hc)
  simp [hop]

theorem regionCmdOn_of_idle (h : s.mgmt.cmds = []) : s.regionCmdOn r = false :=
  regionCmdOn_of_opcodes (by simp [h])

theorem regionCmdOn_of_alone {op : Nat} (h : s.mgmt.cmds.map (·.opcode) = [op]) (ho : 0x2004 < op) : s.regionCmdOn r = false :=
  regionCmdOn_of_opcodes fun c hc => by
    have hop : c.opcode ∈ s.mgmt.cmds.map (·.opcode) := List.mem_map_of_mem hc
    rw [h, List.mem_singleton] at hop
    exact hop ▸ ho

/-- Of what a submission changes, the checks of PROT_INIT look at the commands that are held alone. -/
theorem protInitCheck_congr {m : MgmtSt} {x : RasSt} {o : List Out} {l : List Instr}
    (h : regionCmdOn { s with pending := l, mgmt := m, ras := x, out := o } r = s.regionCmdOn r) :
    protInitCheck { s with pending := l, mgmt := m, ras := x, out := o } r = s.protInitCheck r := by
  simp only [protInitCheck, h]
  rfl

/-- PROT_INIT whose checks pass waits for the pool accesses of its range (R266, step 1). -/
theorem protInit_of_passing (hr : r < 4096) (h : s.protInitCheck r = 0) :
    s.protInit t r = ({ s with prot := { s.prot with job := some (t, r, true) } } : State).jobStep := by
  simp only [protInit, h, Nat.not_le.mpr hr, if_false]

theorem protRelease_of_empty (hr : r < 4096) (h : (s.protRegion r).st = .empty) : s.protRelease t r = s.endCmd t 0 := by
  simp [protRelease, Nat.not_le.mpr hr, h]

theorem protRelease_of_staged (hr : r < 4096) (h : (s.protRegion r).st = .staged) :
    s.protRelease t r = (s.modProtRegion r fun x => { x with st := .empty, staged1 := 0, staged0 := 0 }).endCmd t 0 := by
  simp [protRelease, Nat.not_le.mpr hr, h]

/-- PROT_RELEASE of an ACTIVE region that nothing binds waits for the pool accesses of its range (R267). -/
theorem protRelease_of_active (hr : r < 4096) (h : (s.protRegion r).st = .active) (he : s.prot.st = .enabled)
    (hk : (s.protRegion r).reknitting = false) (hb : s.rootBound r = false)
    (hd : s.retiredOver (pdBase (s.protRegion r).desc1) (pdSize (s.protRegion r).desc1) = false) (hc : s.regionCmdOn r = false) :
    s.protRelease t r = ({ s with prot := { s.prot with job := some (t, r, false) } } : State).jobStep := by
  simp [protRelease, Nat.not_le.mpr hr, h, he, hk, hb, hd, hc]

/-- PROT_REKNIT binds its FRESH slot to the region, and the engine starts at the region's base (R270). -/
theorem protReknit_starts (hr : r < 4096) (hk : k < 4096) (h : (s.protRegion r).st = .active) (hn : s.prot.reknitRoot = none)
    (hf : (s.keySlot k).st = .fresh) :
    s.protReknit t r k =
      let s' := (s.modProtRegion r fun x => { x with reknitting := true, newSlot := k, needle := s.regBase r }).modKeySlot k fun x =>
        { x with st := .bound, root := some r }
      ({ s' with prot := { s'.prot with
        reknitRoot := some r, rkNext := s.regBase r, watch := [], needleAt := s.now, stallLogged := false } } : State).endCmd t 1 := by
  simp only [protReknit, Nat.not_le.mpr hr, Nat.not_le.mpr hk, h, hn, hf, decide_false, Bool.or_self, bne_self_eq_false,
    Option.isSome_none, Bool.false_eq_true, if_false]
  rfl

theorem protEnable_of_enabled (h : s.prot.st = .enabled) : s.protEnable t = s.endCmd t 0 := by
  simp only [protEnable, h]

theorem protEnable_of_undeferred (h : s.prot.st = .flushing) (hd : s.prot.deferredEnable = false) :
    s.protEnable t = ({ s with prot := { s.prot with deferredEnable := true } } : State).endCmd t 2 := by
  simp only [protEnable, h, hd, Bool.false_eq_true, if_false]

theorem protEnable_of_deferred (h : s.prot.st = .flushing) (hd : s.prot.deferredEnable = true) : s.protEnable t = s.endCmd t 0x4017 := by
  simp only [protEnable, h, hd, if_true]

theorem protEnable_of_disabled (h : s.prot.st = .disabled) : s.protEnable t = s.protOn.endCmd t 0 := by
  simp only [protEnable, h]

/-- PROT_DISABLE starts the flush when no ACTIVE host region is protected and nothing is re-knitted (R268). -/
theorem protDisable_of_enabled (h : s.prot.st = .enabled)
    (hp : (s.tenant.regions.any fun (g : Nat × Region) => g.2.st == .active && rdProtect g.2.desc1) = false) (hn : s.prot.reknitRoot = none) :
    s.protDisable t = ({ s with prot := { s.prot with st := .flushing } } : State).flushNodes.endCmd t 1 := by
  simp only [protDisable, h, hp, hn, Option.isSome_none, Bool.false_eq_true, if_false]

theorem protDisable_of_flushing (h : s.prot.st = .flushing) :
    s.protDisable t = ({ s with prot := { s.prot with deferredEnable := false } } : State).endCmd t 1 := by
  simp only [protDisable, h]

theorem protDisable_of_disabled (h : s.prot.st = .disabled) : s.protDisable t = s.endCmd t 0 := by
  simp only [protDisable, h]

theorem kekEstablish_of_point {key : List Byte} {p : Nat × Nat} (h : parsePoint key = some p) :
    s.kekEstablish t key = ({ s with prot := { s.prot with kek := some (ecdhKek p) } } : State).endCmd t 0 := by
  simp only [kekEstablish, h]

theorem kekEstablish_of_none {key : List Byte} (h : parsePoint key = none) : s.kekEstablish t key = s.endCmd t 0x4020 := by
  simp only [kekEstablish, h]

theorem keyLoad_of_used {wrapped : List Byte} (h : (s.keySlot k).st ≠ .empty) : s.keyLoad t k wrapped = s.endCmd t 0x4023 := by
  simp [keyLoad, h]

section emptySlot
variable {wrapped : List Byte} (hk : k < 4096) (h : (s.keySlot k).st = .empty)
include hk h

theorem keyLoad_without_kek (hn : s.prot.kek = none) : s.keyLoad t k wrapped = s.endCmd t 0x4021 := by
  simp [keyLoad, Nat.not_le.mpr hk, h, hn]

variable {kek : BitVec 256} (hs : s.prot.kek = some kek)
include hs

theorem keyLoad_of_unwrap_none (hu : keyUnwrap kek wrapped = none) :
    s.keyLoad t k wrapped = (s.raise 0x600F .note (.count k 0)).endCmd t 0x4022 := by
  simp [keyLoad, Nat.not_le.mpr hk, h, hs, hu]

/-- KEY_LOAD of a key that unwraps puts it in its slot, which is then FRESH, in both pounds (R254). -/
theorem keyLoad_of_unwrap {key : BitVec 256} (hu : keyUnwrap kek wrapped = some key) :
    s.keyLoad t k wrapped = ((s.modKeySlot k fun x => { x with st := .fresh, key := key, root := none }).slotWritten k).endCmd t 0 := by
  simp [keyLoad, Nat.not_le.mpr hk, h, hs, hu]

end emptySlot

theorem keyErase_of_bound (hk : k < 4096) (h : (s.keySlot k).st = .bound) : s.keyErase t k = s.endCmd t 0x4024 := by
  simp [keyErase, Nat.not_le.mpr hk, h]

theorem keyErase_of_unbound (hk : k < 4096) (h : (s.keySlot k).st ≠ .bound) :
    s.keyErase t k = ((s.modKeySlot k fun _ => {}).slotWritten k).endCmd t 0 := by
  simp [keyErase, Nat.not_le.mpr hk, h]

end State

section startProtCommand
variable (u s : State) (c : Client) (g : Nat)

theorem startCommand_protEnable : u.startCommand (heldCommand s c 0x4004 g []) = u.protEnable s.mgmt.nextTicket := Eq.refl _

theorem startCommand_protDisable : u.startCommand (heldCommand s c 0x4005 g []) = u.protDisable s.mgmt.nextTicket := Eq.refl _

theorem startCommand_kekEstablish (key : List Byte) :
    u.startCommand (heldCommand s c 0x4006 g key) = u.kekEstablish s.mgmt.nextTicket key := Eq.refl _

theorem startCommand_kekClear : u.startCommand (heldCommand s c 0x4007 g []) = u.kekClear s.mgmt.nextTicket := Eq.refl _

variable {r k : Nat} (hr : r < 4096) (hk : k < 4096)

section root
include hr

/-- The first parameter of the commands of a root or of a key slot is its number. -/
theorem param_root (l : List Byte) : param (leBytes r 2 ++ l) 0 2 = r := by
  rw [param, List.drop_zero, List.take_append_of_le_length (by simp), List.take_of_length_le (by simp), ofLe_leBytes]
  exact Nat.mod_eq_of_lt (by omega)

theorem param_root_alone : param (leBytes r 2) 0 2 = r := (param_leBytes r 2).trans (Nat.mod_eq_of_lt (by omega))

theorem startCommand_protInit : u.startCommand (heldCommand s c 0x4001 g (leBytes r 2)) = u.protInit s.mgmt.nextTicket r :=
  congrArg (u.protInit s.mgmt.nextTicket) (param_root_alone hr)

theorem startCommand_protRelease : u.startCommand (heldCommand s c 0x4002 g (leBytes r 2)) = u.protRelease s.mgmt.nextTicket r :=
  congrArg (u.protRelease s.mgmt.nextTicket) (param_root_alone hr)

end root

include hk

theorem startCommand_protReknit (hr : r < 4096) :
    u.startCommand (heldCommand s c 0x4003 g (leBytes r 2 ++ leBytes k 2)) = u.protReknit s.mgmt.nextTicket r k :=
  congrArg₂ (u.protReknit s.mgmt.nextTicket) (param_root hr _) (param_root_alone hk)

theorem startCommand_keyLoad (wrapped : List Byte) :
    u.startCommand (heldCommand s c 0x4008 g (leBytes k 2 ++ wrapped)) = u.keyLoad s.mgmt.nextTicket k wrapped :=
  congrArg (u.keyLoad s.mgmt.nextTicket · wrapped) (param_root hk wrapped)

theorem startCommand_keyErase : u.startCommand (heldCommand s c 0x4009 g (leBytes k 2)) = u.keyErase s.mgmt.nextTicket k :=
  congrArg (u.keyErase s.mgmt.nextTicket) (param_root_alone hk)

end startProtCommand

/-- Settles O9: a submission leaves protection, the regions and the reverse map as they are, and no region command is held beside the command, so that its checks come out as in the state before it. -/
theorem protectionCommands : Obligations.ProtectionCommands := by
  intro s c g r k hc hr hk
  have hb {n : Nat} (hn : n < 4096) : fieldBytes n 2 = leBytes n 2 := fieldBytes_of_lt (by omega)
  refine ⟨fun ht h => ?_, fun ht => ⟨fun h => ?_, fun h => ?_, fun h he hn hu hd => ?_⟩, fun ht h hn hf => ?_, fun ht => ?_, fun ht => ?_,
    fun key hl ht => ?_, fun ht => ?_, fun wrapped hl ht => ?_, fun ht => ?_⟩
  · refine exec_command_running_alone (hb hr ▸ exec_protInit c g r s) hc hc rfl (by decide) ht fun m x o hm =>
      (startCommand_protInit _ _ _ _ hr).trans (State.protInit_of_passing hr ?_)
    have hidle : s.regionCmdOn r = false := State.regionCmdOn_of_idle (State.takes_cmds ht)
    exact (State.protInitCheck_congr ((State.regionCmdOn_of_alone hm (by decide)).trans hidle.symm)).trans h
  · exact exec_command_ending (hb hr ▸ exec_protRelease c g r s) hc hc rfl (by decide) ht fun _ _ _ =>
      (startCommand_protRelease _ _ _ _ hr).trans (State.protRelease_of_empty hr h)
  · exact exec_command_ending (hb hr ▸ exec_protRelease c g r s) hc hc rfl (by decide) ht fun _ _ _ =>
      (startCommand_protRelease _ _ _ _ hr).trans (State.protRelease_of_staged hr h)
  · exact exec_command_running_alone (hb hr ▸ exec_protRelease c g r s) hc hc rfl (by decide) ht fun _ _ _ hm =>
      (startCommand_protRelease _ _ _ _ hr).trans
        (State.protRelease_of_active hr h he hn hu hd (State.regionCmdOn_of_alone hm (by decide)))
  · exact exec_command_ending (hb hr ▸ hb hk ▸ exec_protReknit c g r k s) hc hc rfl (by decide) ht fun _ _ _ =>
      (startCommand_protReknit _ _ _ _ hk hr).trans (State.protReknit_starts hr hk h hn hf)
  · have ends {code f} := exec_command_ending (code := code) (f := f) (exec_protEnable c g s) hc hc rfl (by decide) ht
    have starts (u : State) := startCommand_protEnable u s c g
    exact ⟨fun h => ends fun _ _ _ => (starts _).trans (State.protEnable_of_enabled h),
      fun h hd => ends fun _ _ _ => (starts _).trans (State.protEnable_of_undeferred h hd),
      fun h hd => ends fun _ _ _ => (starts _).trans (State.protEnable_of_deferred h hd),
      fun h => ends fun _ _ _ => (starts _).trans (State.protEnable_of_disabled h)⟩
  · have ends {code f} := exec_command_ending (code := code) (f := f) (exec_protDisable c g s) hc hc rfl (by decide) ht
    have starts (u : State) := startCommand_protDisable u s c g
    exact ⟨fun h hp hn => ends fun _ _ _ => (starts _).trans (State.protDisable_of_enabled h hp hn),
      fun h => ends fun _ _ _ => (starts _).trans (State.protDisable_of_flushing h),
      fun h => ends fun _ _ _ => (starts _).trans (State.protDisable_of_disabled h)⟩
  · have ends {code f} := exec_command_ending (code := code) (f := f) (exec_kekEstablish c g key s) hc hc rfl (by decide) ht
    have starts (u : State) := startCommand_kekEstablish u s c g key
    exact ⟨fun p h => ends fun _ _ _ => (starts _).trans (State.kekEstablish_of_point h),
      fun h => ends fun _ _ _ => (starts _).trans (State.kekEstablish_of_none h)⟩
  · exact exec_command_ending (exec_kekClear c g s) hc hc rfl (by decide) ht fun _ _ _ => startCommand_kekClear _ _ _ _
  · have hexec : exec (.keyLoad c g k wrapped) s = run (.keyLoad c g k wrapped) s fun u => u.command c 0x4008 g (leBytes k 2 ++ wrapped) :=
      hb hk ▸ exec_keyLoad c g k wrapped s
    have ends {code f} := exec_command_ending (code := code) (f := f) hexec hc hc rfl (by decide) ht
    have starts (u : State) := startCommand_keyLoad u s c g hk wrapped
    exact ⟨fun h => ends fun _ _ _ => (starts _).trans (State.keyLoad_of_used h),
      fun h hn => ends fun _ _ _ => (starts _).trans (State.keyLoad_without_kek hk h hn),
      fun kek h hs hu => ends fun _ _ _ => (starts _).trans (State.keyLoad_of_unwrap_none hk h hs hu),
      fun kek key h hs hu => ends fun m x o => (starts _).trans
        (State.keyLoad_of_unwrap (s := { s with pending := [], mgmt := m, ras := x, out := o }) hk h hs hu)⟩
  · have hexec : exec (.keyErase c g k) s = run (.keyErase c g k) s fun u => u.command c 0x4009 g (leBytes k 2) :=
      hb hk ▸ exec_keyErase c g k s
    have ends {code f} := exec_command_ending (code := code) (f := f) hexec hc hc rfl (by decide) ht
    have starts (u : State) := startCommand_keyErase u s c g hk
    exact ⟨fun h => ends fun _ _ _ => (starts _).trans (State.keyErase_of_bound hk h),
      fun h => ends fun _ _ _ => (starts _).trans (State.keyErase_of_unbound hk h)⟩

/-! ### The counter nodes and key slots (R241, R245, R249, R251, R268) -/

namespace State
variable {s : State}

section walk
variable {id : Nat} {w : Walk} {answers : List PoolAnswer} (hf : s.prot.walks.find? (·.id == id) = some w)
  (hm : s.metaWaits (.walk id) = false) (hp : s.power.device ≠ .pfDraining)
include hf hm hp

theorem nodeReads_of_walk (ho : w.overflow = none) (hb : s.walkBlocked w = false) :
    s.nodeReads id answers = ((s.walkDoneReads w answers).resumeWalks).jobStep := by
  simp [nodeReads, hf, hm, hp, ho, hb]

theorem nodeReads_of_overflow {level index : Nat} (ho : w.overflow = some (level, index)) :
    s.nodeReads id answers = (s.overflowReads w level index answers).jobStep := by
  simp [nodeReads, hf, hm, hp, ho]

end walk

section node
variable {r l i : Nat} {b : CcBlock} (hc : s.childWriter r l i = none) (hb : s.ccAt r l i = some b)
include hc hb

/-- A write-back that succeeds frees an evicted block, and leaves another clean (R245). -/
theorem writebackDone_of_ok (hw : b.writing = true) (hm : s.metaWaits (.node r l i) = false) :
    s.writebackDone r l i true =
      ((if b.evicting then s.ccDrop r l i else s.ccPut r l i { b with writing := false, failed := none, pinned := false }).metaDone
        (.node r l i)).resumeWalks.jobStep := by
  simp only [writebackDone, hc, hb, hw, hm, nodeWritten, Bool.false_and, Bool.false_eq_true, if_false, if_true]

/-- A write-back that fails leaves its block dirty and pinned, and is reported the first time (R251). -/
theorem writebackDone_of_failed (hw : b.writing = true) (hf : b.failed = none) :
    s.writebackDone r l i false =
      (((s.ccPut r l i { b with
        writing := false, evicting := false, doomed := false, dirty := true, pinned := true, failed := some s.now }).raise 0x600C .contained
          (.memory 0 0 0 r 0 0)).metaDone (.node r l i)).resumeWalks.jobStep := by
  simp only [writebackDone, hc, hb, hw, hf, nodeWritten, Bool.and_false, Option.isSome_none, Bool.false_eq_true, if_false, if_true]

theorem retryNode_of_due {t : Nat} (hf : b.failed = some t) (hw : b.writing = false) (hd : t + s.reg 0x4040 1 * 1000 ≤ s.now) :
    s.retryNode r l i = s.writeBackNode r l i false := by
  simp [retryNode, hc, hb, hf, hw, Nat.not_lt.mpr hd]

end node

theorem flushNodes_of_nil (h : s.prot.cc = []) : s.flushNodes = s := by
  simp [flushNodes, h]

/-- A flush with no node left disables protection, and the ACTIVE regions become DORMANT (R268). -/
theorem protFlushDone_of_nil (hs : s.prot.st = .flushing) (hc : s.prot.cc = []) (hd : s.prot.deferredEnable = false) :
    s.protFlushDone = { s with prot := { s.prot with
      st := .disabled, cc := []
      regions := Table.mapVals {} (fun x => { x with st := if x.st == .active then .dormant else x.st }) s.prot.regions } } := by
  simp only [protFlushDone, flushNodes_of_nil hc, hs, hc, hd, bne_self_eq_false, List.any_nil, Bool.false_eq_true, if_false]

/-- A slot that its pound restores is undamaged there, and the accesses that waited for it go on (R251). -/
theorem keyRestored_of_restoring {pound slot : Nat} (h : (s.keySlot slot).restoring = some pound) :
    s.keyRestored pound slot =
      let s := ((s.modKeySlot slot fun x => { x with restoring := none }).setDamage (356 + pound) (2 * slot) 0).setDamage (356 + pound)
        (2 * slot + 1) 0
      let mine (o : PoolOp) : Bool := o.root.any fun r => r % 2 == pound
      let s := (s.prot.ops.filter fun o => mine o && o.stage == .walking && !s.prot.walks.any fun w => w.ops.contains o.id).foldl
        (fun s o => s.afterWalk (o.root.getD 0) .done o.id) s
      (s.releaseHeld mine).jobStep :=
  if_neg (by simp [h])

end State

/-- Settles O21: each step finds the walk, the block, the flush or the slot that it is about, in the state that it ends. -/
theorem nodeSteps : Obligations.NodeSteps := by
  intro s r l i b ha
  refine ⟨fun id w answers hf hm hp => ⟨fun ho hb => ?_, fun level index ho => ?_⟩, fun hc hb hw hm => ?_, fun hc hb hw hf => ?_,
    fun t hc hb hf hw hd => ?_, fun hs hc hd => ?_, fun pound slot hp hk h => ?_⟩
  · exact exec_completes (exec_nodeReadResponse id answers s) rfl ha (State.nodeReads_of_walk (s := { s with pending := [], out := [] }) hf hm hp ho hb)
  · exact exec_completes (exec_nodeReadResponse id answers s) rfl ha (State.nodeReads_of_overflow (s := { s with pending := [], out := [] }) hf hm hp ho)
  · exact exec_completes (exec_nodeWritebackDone r l i true s) rfl ha (State.writebackDone_of_ok hc hb hw hm)
  · exact exec_completes (exec_nodeWritebackDone r l i false s) rfl ha (State.writebackDone_of_failed hc hb hw hf)
  · exact exec_completes (exec_nodeRetry r l i s) rfl ha (State.retryNode_of_due hc hb hf hw hd)
  · exact exec_completes (exec_protFlushDone s) rfl ha (State.protFlushDone_of_nil hs hc hd)
  · have hwf : (Instr.keySlotRestore pound slot).wellFormed = true := by simp [Instr.wellFormed, hp, hk]
    exact exec_completes (exec_keySlotRestore pound slot s) hwf ha (State.keyRestored_of_restoring h)

/-! ### The re-knitting engine (R258 to R264) -/

namespace State
variable {s : State} {r : Nat}

/-- A resident node whose words are undamaged is read as it stands (R251). -/
theorem ccRead_of_ready {l i : Nat} {b : CcBlock} (h : s.nodeReady r l i b = true) : s.ccRead r l i = (s, some b.bits) := by
  simp only [nodeReady, Bool.and_eq_true, beq_iff_eq, Bool.not_eq_true', List.all_eq_true] at h
  obtain ⟨⟨hat, he⟩, hd⟩ := h
  simp only [ccRead, hat, he, Bool.false_eq_true, if_false]
  refine List.foldlRecOn (motive := fun p => p = (s, some b.bits)) (List.range 4) _ rfl ?_
  rintro _ rfl w hw
  exact if_pos (hd w hw)

/-- A key slot that its pound does not restore and whose words are undamaged gives its key at once (R251). -/
theorem useKey_of_ready {pound slot : Nat} (h : s.keyReady pound slot = true) : s.useKey pound slot = (s, true) := by
  simp only [keyReady, Bool.and_eq_true, Bool.not_eq_true', beq_iff_eq, List.all_eq_true] at h
  obtain ⟨hr, hd⟩ := h
  simp only [useKey, hr, Bool.false_eq_true, if_false]
  refine List.foldlRecOn (motive := fun p => p = (s, true)) (List.range 2) _ rfl ?_
  rintro _ rfl w hw
  exact if_pos (by simp [hd w hw])

section engine
variable (he : s.engineRoot = some r)
include he

/-- A conversion that was cancelled is read again, before any other sector (R258). -/
theorem rkRead_again {w : WatchEntry} (hw : s.prot.watch.find? (fun w => !w.reading && w.value.isNone) = some w) :
    s.rkRead = ({ s with prot := { s.prot with
      watch := mapIf (·.dpa == w.dpa) (fun w => { w with reading := true, dirty := false, watched := false }) s.prot.watch } } :
        State).sendRkRead w.dpa := by
  simp only [rkRead, he, hw]

/-- A sector past the needle is read when no page is being converted as a unit (R260, R262). -/
theorem rkRead_of_past (hw : s.prot.watch.find? (fun w => !w.reading && w.value.isNone) = none)
    (hn : (s.protRegion r).needle < s.prot.rkNext) (hr : s.prot.rkNext < s.regEnd r)
    (hp : (s.prot.pages.any fun j => j.root == r && j.convert) = false) : s.rkRead = s.rkReadAt r s.prot.rkNext false := by
  have hmax : max s.prot.rkNext (s.protRegion r).needle = s.prot.rkNext := max_eq_left hn.le
  simp only [rkRead, he, hw, hmax, hn.ne', hp, Nat.not_le.mpr hr, beq_false_of_ne hn.ne', Bool.false_eq_true, if_false]

/-- The RK write that the needle has come to is encrypted when its leaf and the new key are at hand and its version can be raised (R258, step 5). -/
theorem rkWriteEncrypt_of_ready {o : PoolOp} {b : CcBlock}
    (ho : s.prot.ops.find? (fun o => o.rk && !o.encrypted && o.root == some r && decide (o.dpa ≤ (s.protRegion r).needle) &&
      (o.stage == .toPound || o.stage == .held)) = some o)
    (ht : s.prot.rkPace ≤ s.now * 100) (hp : s.pageHeld r (s.regSector r o.dpa) = false)
    (hu : s.underDamage r (s.regSector r o.dpa) = false) (hb : s.nodeReady r 1 (s.regSector r o.dpa / 64) b = true)
    (hk : s.keyReady (r % 2) (s.protRegion r).newSlot = true) (ha : (s.protRegion r).st = .active)
    (hv : ¬ (cbMinor b.bits (s.regSector r o.dpa % 64) = 127 ∧ cbMajor b.bits = 2 ^ 64 - 1)) :
    s.rkWriteEncrypt = s.encryptRk r o b.bits := by
  have hgo : (decide (s.now * 100 < s.prot.rkPace) || s.pageHeld r (s.regSector r o.dpa)) = false := by
    simp [hp, Nat.not_lt.mpr ht]
  have hversion : (decide (cbMinor b.bits (s.regSector r o.dpa % 64) = 127) && decide (cbMajor b.bits = 2 ^ 64 - 1)) = false := by
    rwa [← Bool.decide_and, decide_eq_false_iff_not]
  simp only [rkWriteEncrypt, he, ho, hgo, hu, ccRead_of_ready hb, useKey_of_ready hk, ha, hversion, bne_self_eq_false, Bool.not_true,
    Bool.or_self, Bool.false_eq_true, if_false]

end engine

/-- With nothing of its sector buffered an RK write is ordered, or a DIRTY watch cancels it (R258, step 4; R259). -/
theorem rkWriteStart_of_free {dpa : Nat} {w : WatchEntry}
    (hw : s.prot.watch.find? (fun w => w.dpa == sectorOf dpa && w.sent && !w.ordered) = some w)
    (hb : s.wbHolds (homeSlice (sectorOf dpa)) (sectorOf dpa) = false) (hm : (s.slice (homeSlice (sectorOf dpa))).mergeBuf = [])
    (ht : s.trackerOf (sectorOf dpa) = none) (hr : s.wbRoom (homeSlice (sectorOf dpa)) = true) :
    s.rkWriteStart dpa =
      if w.dirty then
        ({ s with prot := { s.prot with
          watch := mapIf (·.dpa == sectorOf dpa) (fun _ => { dpa := sectorOf dpa }) s.prot.watch } } : State).bump64 0x4030 4
      else s.orderRkWrite (sectorOf dpa) w := by
  simp only [rkWriteStart, hw, hb, hm, ht, hr, List.any_nil, Option.isSome_none, Bool.not_true, Bool.or_self, Bool.false_eq_true, if_false]

/-- A needle that has not advanced within REKNIT_STALL_LIMIT is reported once (R264). -/
theorem reknitStall_of_due (hn : s.prot.reknitRoot = some r) (h0 : s.reg 0x4030 1 ≠ 0) (hl : s.prot.stallLogged = false)
    (hd : s.prot.needleAt + s.reg 0x4030 2 * 1000000 ≤ s.now) :
    s.reknitStall = (({ s with prot := { s.prot with stallLogged := true } } : State).deadlineMiss 7).raise 0x600D .degraded
      (.memory 0 0 0 r 0 0) := by
  simp [reknitStall, hn, h0, hl, Nat.not_lt.mpr hd]

end State

/-- Settles O22: the watch and the needle say which sector a step is about, and nothing that the step would wait for is left. -/
theorem reknitSteps : Obligations.ReknitSteps := by
  intro s r ha hn
  refine ⟨fun w he hw => ?_, fun next he hw hnext hlt hend hp => ?_, fun dpa hd => ?_, fun dpa w hd hw hb hm ht hr => ?_,
    fun o b he ho ht hp hu hb hk hact hv => ?_, fun h0 hl hd => ?_⟩
  · exact exec_completes (exec_rkRead s) rfl ha (State.rkRead_again (s := { s with pending := [], out := [] }) he hw)
  · subst hnext
    exact exec_completes (exec_rkRead s) rfl ha (State.rkRead_of_past (s := { s with pending := [], out := [] }) he hw hlt hend hp)
  · exact exec_completes (exec_rkValue dpa s) (decide_eq_true hd) ha rfl
  · exact exec_completes (exec_rkWriteStart dpa s) (decide_eq_true hd) ha (State.rkWriteStart_of_free hw hb hm ht hr)
  · exact exec_completes (exec_rkWriteEncrypt s) rfl ha
      (State.rkWriteEncrypt_of_ready (s := { s with pending := [], out := [] }) he ho ht hp hu hb hk hact hv)
  · exact exec_completes (exec_reknitStall s) rfl ha (State.reknitStall_of_due hn h0 hl hd)

end Sys2Proof.Machine
end

section
/-! SUPPORT. Integrity and faults: what every step keeps, what a stopped device still sends, the stop of the device and the event log, FAULT_N and its latch, the code of a word, and the writes and steps of fault handling. -/

namespace Sys2Proof.Machine

/-! ### What every step keeps (R297, R298, R318) -/

theorem State.noteRestarts_restarted (s : State) : s.noteRestarts.counter.restarted = [] := by
  obtain ⟨regs, ras, h, -⟩ := s.noteRestarts_eq
  rw [h]

/-- A commit establishes the invariant once the restarted counters are reported. -/
theorem commit_inv (s t : State) (cold : Bool) : (commit s t.noteRestarts cold).Inv :=
  ⟨commit_chamber_wf .., fun h => s.latched_isFatal_of_faultN _ cold h, t.noteRestarts_restarted⟩

/-- A device out of reset commits what its cycle brings, with the counters reported that it restarted. -/
theorem State.tick_eq_commit {s : State} (h : s.awake) : ∃ t : State, s.tick = commit s t.noteRestarts := by
  have hd : ¬ (s.power.device == .starting) = true := by simpa using h
  exact ⟨_, if_neg hd⟩

/-- Everything that a step can do: leave the state but for the command that it took, let time pass in reset, or commit an effect, one of a cold reset only for the commands of a cold reset. -/
theorem step_cases {s t : State} (h : step s = .next t) :
    (∃ l, t = { s with pending := l }) ∨ t = s.passTime ∨
      ∃ (l : List Instr) (u : State) (cold : Bool), t = commit { s with pending := l } u.noteRestarts cold ∧
        (cold = true → ∃ c ∈ s.pending.head?, resetsCold c = true) := by
  cases hp : s.pending with
  | nil =>
    obtain rfl : s.tick = t := by simpa [step, hp] using h
    by_cases ha : s.power.device = .starting
    · exact .inr (.inl (State.tick_of_starting ha))
    · obtain ⟨u, hu⟩ := State.tick_eq_commit ha
      exact .inr (.inr ⟨[], u, false, by rw [hu, ← hp], by simp⟩)
  | cons c cs =>
    have h : exec c { s with pending := cs } = .next t := by simpa [step, hp] using h
    rcases exec_cases c { s with pending := cs } with he | he | ⟨f, he⟩
    · exact absurd (he.symm.trans h) (by simp)
    · exact .inl ⟨cs, by simpa using (he.symm.trans h).symm⟩
    · refine .inr (.inr ⟨cs, f { s with pending := [], out := [] }, resetsCold c, ?_, fun hc => ⟨c, by simp, hc⟩⟩)
      simpa [State.after] using (he.symm.trans h).symm

/-- Settles O40: a commit establishes the invariant, and what does not commit leaves what it speaks of. -/
theorem stepKeepsInvariant : Obligations.StepKeepsInvariant := by
  intro s t hs h
  rcases step_cases h with ⟨l, rfl⟩ | rfl | ⟨l, u, cold, rfl, -⟩
  · exact hs
  · obtain ⟨time, slew, ht⟩ := s.passTime_eq
    rw [ht]
    exact hs
  · exact commit_inv ..

/-- Settles O39: no byte of Chamber RAM is listed, FAULT_N is released and no counter was restarted. -/
theorem resetHoldsInvariant : Obligations.ResetHoldsInvariant :=
  ⟨rfl, fun h => absurd (show false = true from h) (by simp), rfl⟩

/-! ### A stopped device (R298, R428, R429) -/

theorem afterFatal_of_mem_letsOut {s : State} {l : List Out} {o : Out} (hs : s.isFatal = true) (h : o ∈ s.letsOut l) :
    o.afterFatal = true := by
  rw [State.letsOut, if_pos hs] at h
  exact (List.mem_filter.1 h).2

theorem afterPowerFail_of_mem_letsOut {s : State} {l : List Out} {o : Out} (hs : s.power.device = .pfDraining) (h : o ∈ s.letsOut l) :
    o.afterPowerFail = true := by
  rw [State.letsOut, if_neg (by simp [State.isFatal, hs]), if_pos (by simp [hs])] at h
  exact (List.mem_filter.1 h).2

/-- What leaves in a step has passed the filter of the state before it. -/
theorem step_out {s t : State} (h : step s = .next t) : ∃ l, t.out = s.out ++ s.letsOut l := by
  rcases step_cases h with ⟨l, rfl⟩ | rfl | ⟨l, u, cold, rfl, -⟩
  · exact ⟨[], by simp⟩
  · obtain ⟨time, slew, ht⟩ := s.passTime_eq
    exact ⟨[], by simp [ht]⟩
  · exact ⟨u.noteRestarts.out, rfl⟩

/-- Settles O43: what a step sends has passed the filter of a fatal or a draining device. -/
theorem stoppedDeviceIsQuiet : Obligations.StoppedDeviceIsQuiet := by
  intro s t h
  obtain ⟨l, ho⟩ := step_out h
  refine ⟨fun hf => ⟨_, ho, fun o hm => ?_⟩, fun hd => ⟨_, ho, fun o hm => ?_⟩⟩
  · have hk := afterFatal_of_mem_letsOut hf hm
    exact ⟨by rintro p a rfl; exact absurd hk Bool.false_ne_true, by rintro p a d m x rfl; exact absurd hk Bool.false_ne_true,
      by rintro p k h rfl; exact absurd hk Bool.false_ne_true⟩
  · have hk := afterPowerFail_of_mem_letsOut hd hm
    rintro p a rfl
    exact absurd hk Bool.false_ne_true

/-! ### The stop of the device (R298, R407) -/

namespace State

/-- Sending a response to a host changes nothing but what has left the device. -/
theorem sendS2m_eq (s : State) (port tag ctx : Nat) (data : Option Sector) (poison : Bool) (ndr : Option Ndr) :
    ∃ o, s.sendS2m port tag ctx data poison ndr = { s with out := o } := by
  unfold sendS2m
  split <;> exact ⟨_, rfl⟩

/-- The answer of a stopped device changes nothing but what has left it. -/
theorem answerStopped_eq (s : State) (r : Req) : ∃ o, s.answerStopped r = { s with out := o } := by
  unfold answerStopped
  split
  · exact ⟨_, rfl⟩
  · split
    · split <;> exact sendS2m_eq ..
    · split <;> exact ⟨_, rfl⟩
    · exact ⟨_, rfl⟩

/-- CMD_DONE changes nothing but what has left the device. -/
theorem sendCmdDone_eq (s : State) (c : Cmd) (code : Nat) : ∃ o, s.sendCmdDone c code = { s with out := o } := by
  simp only [sendCmdDone]
  split <;> split <;> exact ⟨_, rfl⟩

/-- Ending a command takes it from those held, changes the management state alone, and sends at most CMD_DONE. -/
theorem endCmd_eq (s : State) (ticket code : Nat) (data : List Byte) : ∃ (m : MgmtSt) (o : List Out),
    s.endCmd ticket code data = { s with mgmt := m, out := o } ∧ m.cmds = s.mgmt.cmds.filter (·.ticket ≠ ticket) := by
  unfold endCmd
  split
  · next hn =>
    refine ⟨_, _, rfl, (List.filter_eq_self.2 fun c hc => ?_).symm⟩
    simpa using List.find?_eq_none.1 hn c hc
  · next c _ =>
    obtain ⟨o, ho⟩ := sendCmdDone_eq (storeResult { s with mgmt := { s.mgmt with cmds := s.mgmt.cmds.filter (·.ticket ≠ ticket) } } {
      ticket := c.ticket, client := c.client, opcode := c.opcode, ctag := c.ctag, code := code
      acceptedCanal := if c.running then c.acceptedCanal else s.canalTime
      micros := if c.running then (s.now - c.accepted) / 1000 else 0
      data := data, notified := c.notify && c.buses != 0 }) c code
    exact ⟨_, o, ho, rfl⟩

theorem endCmd_cmds (s : State) (ticket code : Nat) (data : List Byte) :
    (s.endCmd ticket code data).mgmt.cmds = s.mgmt.cmds.filter (·.ticket ≠ ticket) := by
  obtain ⟨m, o, h, hm⟩ := s.endCmd_eq ticket code data
  rw [h, ← hm]

theorem answerStopped_ras (s : State) (r : Req) : (s.answerStopped r).ras = s.ras := by
  obtain ⟨o, h⟩ := s.answerStopped_eq r
  rw [h]

theorem endCmd_ras (s : State) (ticket code : Nat) (data : List Byte) : (s.endCmd ticket code data).ras = s.ras := by
  obtain ⟨m, o, h, -⟩ := s.endCmd_eq ticket code data
  rw [h]

theorem endCmd_power (s : State) (ticket code : Nat) (data : List Byte) : (s.endCmd ticket code data).power = s.power := by
  obtain ⟨m, o, h, -⟩ := s.endCmd_eq ticket code data
  rw [h]

/-- A device that stops serving logs nothing: its requests are answered, its counters run and its commands end without a record. -/
theorem stopServing_ras (s : State) (dead : Bool) : (s.stopServing dead).ras = s.ras := by
  have answers : (s.outstanding.foldl answerStopped s).ras = s.ras := foldl_keeps ras answerStopped_ras _ s
  have counts : ∀ (l : List (Nat × CtxAccount)) (u : State),
      (l.foldl (fun s p => if p.2.held = 0 then s else s.countCtx p.1 0 p.2.held) u).ras = u.ras :=
    fun l u => foldl_keeps ras (by intros; split <;> rfl) l u
  have ends : ∀ u : State, (u.endAllCmds 0x0013).ras = u.ras := fun u => foldl_keeps ras (fun u _ => endCmd_ras u ..) _ u
  have departs : ∀ (l : List Nat) (u : State), (l.foldl (fun s d => s.emit (.mgmt d 4 [s.deviceNumber, 4])) u).ras = u.ras :=
    fun l u => foldl_keeps ras (by intros; rfl) l u
  simp only [stopServing, departs, ends, counts]
  exact answers

/-- A device that stops serving enters the fatal state, which the end of its commands and its departure keep. -/
theorem stopServing_device (s : State) (dead : Bool) : (s.stopServing dead).power.device = .fatal := by
  have ends : ∀ u : State, (u.endAllCmds 0x0013).power = u.power := fun u => foldl_keeps power (fun u _ => endCmd_power u ..) _ u
  have departs : ∀ (l : List Nat) (u : State), (l.foldl (fun s d => s.emit (.mgmt d 4 [s.deviceNumber, 4])) u).power = u.power :=
    fun l u => foldl_keeps power (by intros; rfl) l u
  simp only [stopServing, departs, ends]

/-! ### The event log (R285, R294 to R297) -/

/-- The records of the main log and the next sequence number. -/
def records (s : State) : List LogRecord × Nat := (s.ras.log, s.ras.nextSeq)

theorem writeLogWords_records (s : State) (n : Nat) : (s.writeLogWords n).records = s.records := by
  simp only [writeLogWords, List.foldl_cons, List.foldl_nil]
  split <;> split <;> rfl

theorem markNotify_records (s : State) (r : LogRecord) : (s.markNotify r).records = s.records := rfl

theorem markAlert_records (s : State) (r : LogRecord) : (s.markAlert r).records = s.records := by
  unfold markAlert
  split <;> rfl

theorem markFatal_records (s : State) (r : LogRecord) (dead : Bool) : (s.markFatal r dead).records = s.records := by
  simp only [markFatal]
  split
  · simp only [records, stopServing_ras]
    split <;> rfl
  · rfl

/-- The first record of class DEVICE-FATAL asserts FAULT_N, latches its event and time, and stops the device. -/
theorem markFatal_of_first {s : State} {r : LogRecord} {dead : Bool} (hc : r.cls = .deviceFatal) (hf : s.ras.faultN = false) :
    s.markFatal r dead =
      ({ s with ras := { s.ras with faultN := true, fatalEvent := r.event, fatalTime := r.time } } : State).stopServing dead := by
  simp [markFatal, hc, hf]

theorem foldsInto_iff {s : State} {e : Event} {r : LogRecord} : s.foldsInto e r = true ↔
    (e.cls = .note ∨ e.cls = .contained) ∧ e.ownInterval = false ∧
      r.event = e.code ∧ r.detail = e.detail ∧ s.now < r.at_ + s.reg 0x4220 1 * 1000000 := by
  simp only [foldsInto, Bool.and_eq_true, Bool.or_eq_true, beq_iff_eq, Bool.not_eq_true', decide_eq_true_eq, and_assoc]
  exact Iff.rfl

/-- An occurrence that folds into a record of the log changes the log alone. -/
theorem logEvent_of_folds {s : State} {e : Event} (h : s.ras.log.any (s.foldsInto e) = true) :
    s.logEvent e = { s with ras := { s.ras with
      log := mapIf (s.foldsInto e) (fun r => { r with count := min (r.count + 1) 65535 }) s.ras.log } } := if_pos h

/-- An occurrence that folds into no record makes one, on which the notifications and pins act. -/
theorem logEvent_of_new {s : State} {e : Event} (h : ∀ r ∈ s.ras.log, s.foldsInto e r ≠ true) :
    s.logEvent e = ((((s.appendRecord (s.newRecord e)).writeLogWords s.ras.nextSeq).markNotify (s.newRecord e)).markAlert
      (s.newRecord e)).markFatal (s.newRecord e) (e.code == 0x7006) :=
  if_neg (by simpa using h)

/-- An occurrence that folds into no record makes one at the end of the log of 4,096. -/
theorem logEvent_records {s : State} {e : Event} (h : ∀ r ∈ s.ras.log, s.foldsInto e r ≠ true) :
    (s.logEvent e).records =
      ((if 4096 ≤ s.ras.log.length then s.ras.log.drop 1 else s.ras.log) ++ [s.newRecord e], s.ras.nextSeq + 1) := by
  rw [logEvent_of_new h, markFatal_records, markAlert_records, markNotify_records, writeLogWords_records]
  simp only [records, appendRecord]

/-- An occurrence of class DEVICE-FATAL folds into no record. -/
theorem not_foldsInto_of_deviceFatal {s : State} {e : Event} (h : e.cls = .deviceFatal) (r : LogRecord) : s.foldsInto e r ≠ true := by
  rw [Ne, foldsInto_iff]
  simp [h]

end State

/-- Where one element of a list passes the test, it alone changes. -/
theorem mapIf_single {α : Type} {p : α → Bool} {f : α → α} {a b : List α} {r : α} (hr : p r = true) (h : ∀ x ∈ a ++ b, p x ≠ true) :
    mapIf p f (a ++ r :: b) = a ++ f r :: b := by
  have keep : ∀ l : List α, (∀ x ∈ l, p x ≠ true) → mapIf p f l = l := fun l hl =>
    (List.map_congr_left fun x hx => if_neg (hl x hx)).trans (List.map_id' l)
  rw [List.forall_mem_append] at h
  have ha := keep a h.1
  have hb := keep b h.2
  simp only [mapIf] at ha hb ⊢
  rw [List.map_append, List.map_cons, ha, hb, if_pos hr]

/-- Settles O55: whether an occurrence folds is decided by the records that it repeats within the interval. -/
theorem repeatsFold : Obligations.RepeatsFold := by
  intro s e
  refine ⟨fun a b r hl hc ho hcode hd hn hx => ?_, fun h => ?_⟩
  · have hr : s.foldsInto e r = true := State.foldsInto_iff.2 ⟨hc, ho, hcode, hd, hn⟩
    have hothers : ∀ x ∈ a ++ b, s.foldsInto e x ≠ true := fun x hm hf => hx x hm (State.foldsInto_iff.1 hf).2.2
    rw [State.logEvent_of_folds (List.any_eq_true.2 ⟨r, by simp [hl], hr⟩), hl, mapIf_single hr hothers]
  · have hnew : ∀ r ∈ s.ras.log, s.foldsInto e r ≠ true := fun r hm hf => by
      obtain ⟨hc, ho, hrest⟩ := State.foldsInto_iff.1 hf
      rcases h with h | h | h
      · exact hc.elim h.1 h.2
      · exact absurd (ho.symm.trans h) (by simp)
      · exact h r hm hrest
    exact Prod.mk.inj (State.logEvent_records hnew)

/-! ### FAULT_N and its latch (R297, R407) -/

namespace State

theorem latched_fatalEvent_of_warm (s t : State) (h : s.ras.faultN = true) :
    (s.latched t false).ras.fatalEvent = s.ras.fatalEvent := by
  simp [latched, h]

theorem latched_fatalTime_of_warm (s t : State) (h : s.ras.faultN = true) :
    (s.latched t false).ras.fatalTime = s.ras.fatalTime := by
  simp [latched, h]

/-- The first occurrence of class DEVICE-FATAL asserts FAULT_N with its latch, and the device serves as in the fatal state. -/
theorem logEvent_of_firstFatal {s : State} {e : Event} (hc : e.cls = .deviceFatal) (hf : s.ras.faultN = false) :
    (s.logEvent e).ras.faultN = true ∧ (s.logEvent e).ras.fatalEvent = e.code ∧ (s.logEvent e).ras.fatalTime = s.canalTime ∧
      (s.logEvent e).isFatal = true := by
  rw [logEvent_of_new fun r _ => not_foldsInto_of_deviceFatal hc r, markFatal_of_first hc]
  · refine ⟨?_, ?_, ?_, ?_⟩
    · rw [stopServing_ras]
    · rw [stopServing_ras]; rfl
    · rw [stopServing_ras]; rfl
    · simp [isFatal, stopServing_device]
  · rw [markAlert_faultN, markNotify_faultN, writeLogWords_faultN]
    exact hf

/-- A command record that a client may write is answered with the ticket that its submission takes. -/
theorem namedWrite_submission {s u : State} {c : Client} {record : List Byte} {t : Nat} (hc : c.ok = true)
    (hm : s.mayWrite c 0x1F00 1 none = true) (h16 : 16 ≤ record.length) (h240 : record.length ≤ 240)
    (hs : (s.touchClient c).submitCommand (clientKey c) (busBit c.transport) record = (u, some t)) :
    s.namedWrite c 0x1F00 1 record none =
      u.reply c.transport (writeHeader c 0x1F00 1 record.length) { kind := 0xA, arg := t } := by
  simp only [mayWrite, Bool.and_eq_true, bne_iff_ne, ne_eq, Bool.not_eq_true'] at hm
  obtain ⟨⟨⟨⟨-, hear⟩, busy⟩, hn⟩, hb⟩ := hm
  have hb : (s.touchClient c).writeBarred c.transport ((s.touchClient c).picked c none) ⟨0x1F00, 1, .domain, .wo, 0, 0x10, 0x400⟩ = none := by
    simpa [show objDef 0x1F00 1 = some ⟨0x1F00, 1, .domain, .wo, 0, 0x10, 0x400⟩ from rfl] using hb
  have hl : record.length ≤ frameLimit c.transport := h240.trans (frameLimit_ge c.transport)
  obtain ⟨-, -, -, -, -, hindex, hsub, -⟩ := writeHeader_fields (index := 0x1F00) (sub := 1) (len := record.length)
    (Client.number_lt hc) (by decide) (by decide) (limit_lt hl)
  have hclient := namedFrame_client (pick := none) hc (show 0x1F00 < 2 ^ 16 by decide) (show 1 < 2 ^ 8 by decide) hl
  rw [namedWrite_serves rfl hc hn hear busy (by decide) (by decide) hl, writeFrame, namedFrame_header, hindex, hsub,
    if_pos (by decide)]
  have hrecord : (s.touchClient c).submitRecord (namedFrame c 0x1F00 1 record none) ((s.touchClient c).picked c none) record = (u, .ok t) := by
    simp only [submitRecord, hclient]
    simp only [namedFrame, hb, hs]
    rw [if_neg (by omega), if_neg (by omega)]
  simp only [namedFrame, answered] at hrecord ⊢
  rw [hrecord]

/-- A response leaves the commands that are held. -/
theorem reply_cmds (s : State) (t : Transport) (h : Word128) (r : Reply) : (s.reply t h r).mgmt.cmds = s.mgmt.cmds := by
  simp only [reply]
  split <;> rfl

/-- The state in which a client's command has just taken its ticket and is the one held (R403). -/
def withHeld (s : State) (c : Client) (op g : Nat) (params : List Byte) : State :=
  let t := s.touchClient c
  { t with mgmt := { t.mgmt with nextTicket := (s.mgmt.nextTicket + 1) % 2 ^ 32, cmds := [heldCommand s c op g params] } }

/-- In the fatal state a client's command that it may write ends at once with CMD_FATAL, and its response carries the ticket that it had. -/
theorem command_of_fatal {s : State} {c : Client} {op g : Nat} {params : List Byte} (ho : op < 2 ^ 16) (hc : cmdOk c g = true)
    (hp : params.length ≤ 224) (hm : s.mayWrite c 0x1F00 1 none = true) (hf : s.power.device = .fatal) (h0 : s.mgmt.cmds = []) :
    s.command c op g params =
      ((s.withHeld c op g params).endCmd s.mgmt.nextTicket 0x0013).reply c.transport
        (writeHeader c 0x1F00 1 (16 + params.length)) { kind := 0xA, arg := s.mgmt.nextTicket } := by
  simp only [cmdOk, Sys2Proof.fits, Bool.and_eq_true, decide_eq_true_eq] at hc
  obtain ⟨hcl, hg⟩ := hc
  have hl := cmdRecord_length op g params
  obtain ⟨hop, hflags, -, hctag, -⟩ := cmdRecord_fields op g params ho hg (by omega)
  obtain ⟨clients, lost, r, ht⟩ := s.touchClient_eq (c := c)
  have hrefused : ∀ (m : MgmtSt) (x : Cmd) (h : Nat), State.refusedAtOnce { s with mgmt := m, ras := r } x h = some 0x0013 := fun m x h => by
    simp [refusedAtOnce, isFatal, hf]
  have hsubmit : (s.touchClient c).submitCommand (clientKey c) (busBit c.transport) (cmdRecord op g false params) =
      ((s.withHeld c op g params).endCmd s.mgmt.nextTicket 0x0013, some s.mgmt.nextTicket) := by
    simp only [withHeld, ht, submitCommand, h0, List.length_nil, hop, hflags, hctag, cmdRecord_params, Nat.zero_testBit, hrefused, heldCommand]
    rw [if_neg (by decide)]
    rfl
  rw [command, namedWrite_submission hcl hm (by omega) (by omega) hsubmit, hl]
  have hnone : ∀ (h : Word128) (x : Reply),
      (((s.withHeld c op g params).endCmd s.mgmt.nextTicket 0x0013).reply c.transport h x).mgmt.cmds = [] := fun h x => by
    rw [reply_cmds, endCmd_cmds]
    simp [withHeld, heldCommand]
  simp only [hnone, List.find?_nil]

end State

/-- Settles O44: the first DEVICE-FATAL record asserts FAULT_N, the latches of a commit keep what has been asserted, and a fatal device refuses the command. -/
theorem faultNStands : Obligations.FaultNStands := by
  refine ⟨fun s e hc hf => State.logEvent_of_firstFatal hc hf, fun s t hwarm h => ?_, fun s c g hc hm hf h0 => ?_⟩
  · rcases step_cases h with ⟨l, rfl⟩ | rfl | ⟨l, u, cold, rfl, hcold⟩
    · exact ⟨fun hN => ⟨hN, rfl, rfl⟩, id⟩
    · obtain ⟨time, slew, ht⟩ := s.passTime_eq
      rw [ht]
      exact ⟨fun hN => ⟨hN, rfl, rfl⟩, id⟩
    · obtain rfl : cold = false := by
        by_contra hne
        obtain ⟨c, hm, hc⟩ := hcold (by simpa using hne)
        exact absurd ((hwarm c hm).symm.trans hc) (by simp)
      let v : State := { s with pending := l }
      exact ⟨fun hN => ⟨v.latched_faultN_of_warm _ hN, v.latched_fatalEvent_of_warm _ hN, v.latched_fatalTime_of_warm _ hN⟩,
        v.latched_isFatal_of_warm _⟩
  · have ha : s.awake := by simp [State.awake, hf]
    exact exec_completes (exec_warmReset c g s) hc ha
      (State.command_of_fatal (by decide) hc (Nat.zero_le _) (State.mayWrite_blank.trans hm) hf h0)

/-! ### The (138,128) code (R273, R274) -/

/-- The flipped positions are the one rising list of the bits that are set. -/
theorem flippedPos_eq {e : BitVec 138} {l : List Nat} (hl : l.Pairwise (· < ·)) (h : ∀ i, i ∈ l ↔ e.getLsbD i = true) :
    flippedPos e = l := by
  refine List.Pairwise.eq_of_mem_iff (List.pairwise_lt_range.filter _) hl fun i => ?_
  rw [flippedPos, List.mem_filter, List.mem_range, h]
  exact and_iff_right_of_imp BitVec.lt_of_getLsbD

theorem flippedPos_zero : flippedPos 0 = [] := flippedPos_eq .nil (by simp)

theorem flippedPos_one {p : Nat} (hp : p < 138) : flippedPos (BitVec.ofNat 138 (2 ^ p)) = [p] := by
  refine flippedPos_eq (List.pairwise_singleton ..) fun i => ?_
  rw [List.mem_singleton, BitVec.getLsbD_ofNat, Nat.testBit_two_pow, Bool.and_eq_true, decide_eq_true_eq, decide_eq_true_eq]
  omega

theorem flippedPos_two {p q : Nat} (hpq : p < q) (hq : q < 138) : flippedPos (BitVec.ofNat 138 (2 ^ p + 2 ^ q)) = [p, q] := by
  refine flippedPos_eq (List.pairwise_pair.2 hpq) fun i => ?_
  have hor : 2 ^ p + 2 ^ q = 2 ^ q ||| 2 ^ p := by
    have h := Nat.two_pow_add_eq_or_of_lt (Nat.pow_lt_pow_right (by decide : 1 < 2) hpq) 1
    rwa [Nat.mul_one, Nat.add_comm] at h
  rw [hor, BitVec.getLsbD_ofNat, Nat.testBit_or, Nat.testBit_two_pow, Nat.testBit_two_pow, List.mem_pair, Bool.and_eq_true,
    Bool.or_eq_true, decide_eq_true_eq, decide_eq_true_eq, decide_eq_true_eq]
  omega

theorem eccCheck_of_none {e : BitVec 138} (h : flippedPos e = []) : eccCheck e = .clean := by
  simp [eccCheck, eccSyndrome, eccParity, h]

theorem eccCheck_of_one {e : BitVec 138} {p : Nat} (h : flippedPos e = [p]) (hp : p < 138) : eccCheck e = .correctable p := by
  have hs : [p].foldl Nat.xor 0 = p := Nat.zero_xor p
  simp [eccCheck, eccSyndrome, eccParity, h, hs, hp]

theorem eccCheck_of_two {e : BitVec 138} {p q : Nat} (h : flippedPos e = [p, q]) (hx : Nat.xor p q ≠ 0) :
    eccCheck e = .uncorrectable (Nat.xor p q) 0 := by
  have hs : [p, q].foldl Nat.xor 0 = Nat.xor p q := congrArg (Nat.xor · q) (Nat.zero_xor p)
  simp only [eccCheck, eccSyndrome, eccParity, h, hs, hx, List.length_cons, List.length_nil]
  rfl

/-- Two different positions have a syndrome that is not 0. -/
theorem xor_ne_zero_of_lt {p q : Nat} (h : p < q) : Nat.xor p q ≠ 0 := fun hx => h.ne (Nat.xor_eq_zero_iff.1 hx)

/-- Settles O49: the syndrome is the exclusive-or of the flipped positions, and the parity says how many there are. -/
theorem codeCorrectsOneDetectsTwo : Obligations.CodeCorrectsOneDetectsTwo := by
  refine ⟨eccCheck_of_none flippedPos_zero, fun p hp => ?_, fun p q hpq hq => ?_⟩
  · have hcheck := eccCheck_of_one (flippedPos_one hp) hp
    exact ⟨hcheck, by simp only [eccResidue, hcheck, BitVec.xor_self]; rfl⟩
  · exact ⟨eccCheck_of_two (flippedPos_two hpq hq) (xor_ne_zero_of_lt hpq), xor_ne_zero_of_lt hpq⟩

/-! ### Writes of fault-handling objects (R286, R292, R299, R303) -/

section rules
variable (s : State) (c : Client) (sel : Selector) (v : Nat)

theorem State.writeNum_alertAck : s.writeNum c sel 0x7030 3 v = .ok (s.ackAlert v) := rfl

theorem State.writeNum_summaryClear : s.writeNum c sel 0x7000 2 v = .ok s.clearSummary := rfl

theorem State.writeNum_fatalLogClear : s.writeNum c sel 0x7002 4 v = .ok s.clearFatalLog := rfl

theorem State.writeNum_injectArm : s.writeNum c sel 0x4230 4 v = s.armInjection := rfl

theorem State.writeNum_injectBucket : s.writeNum c sel 0x4230 2 v = s.writeInjectBucket v := rfl

theorem State.writeNum_scrubEnable : s.writeNum c sel 0x4200 2 v = .ok (s.setReg 0x4200 2 v) := rfl

end rules

/-- INJECT_ARM is taken when injection is enabled and the kind fits the structure's code. -/
theorem State.armInjection_accepts {s : State} (he : s.inEffect 0x4230 1 ≠ 0) (hk : kindFits (s.reg 0x4230 2) (s.reg 0x4230 3) = true) :
    s.armInjection = .ok { s with ras := { s.ras with injectState := 1 } } := by
  simp [armInjection, he, hk]

/-- INJECT_BUCKET is taken when words of the structure can be injected. -/
theorem State.writeInjectBucket_accepts {s : State} {b : Nat} (h : injectable b = true) :
    s.writeInjectBucket b = .ok (s.setReg 0x4230 2 b) := if_pos h

/-- Settles O13: every object's own rule accepts the value, and its effect is what the statement writes out. -/
theorem faultWrites : Obligations.FaultWrites := by
  intro s c hc
  refine ⟨fun v hv hm => ?_, fun hm => ?_, fun hm => ?_, fun hm he hk => ?_, fun b hb hi hm => ?_, fun v hv hm => ?_⟩
  · refine exec_numberWrite ⟨0x7030, 3, .u32, .wo, 0, 0, 0xFFFFFFFF⟩ (exec_alertAck c v s) hc hc hm (by decide) rfl
      ⟨Nat.zero_le _, Nat.le_pred_of_lt hv⟩ fun u _ => ?_
    rw [State.writeTables_of_none rfl, State.writeNum_alertAck, State.ackAlert]
  · refine exec_numberWrite ⟨0x7000, 2, .bool, .wo, 0, 1, 1⟩ (exec_faultSummaryClear c 1 s) hc hc hm (by decide) rfl
      ⟨le_rfl, le_rfl⟩ fun u _ => ?_
    rw [State.writeTables_of_none rfl, State.writeNum_summaryClear, State.clearSummary]
  · refine exec_numberWrite ⟨0x7002, 4, .bool, .wo, 0, 1, 1⟩ (exec_fatalLogClear c 1 s) hc hc hm (by decide) rfl
      ⟨le_rfl, le_rfl⟩ fun u _ => ?_
    rw [State.writeTables_of_none rfl, State.writeNum_fatalLogClear, State.clearFatalLog]
  · refine exec_numberWrite ⟨0x4230, 4, .bool, .wo, 0, 1, 1⟩ (exec_injectArm c 1 s) hc hc hm (by decide) rfl
      ⟨le_rfl, le_rfl⟩ ?_
    rintro u rfl
    rw [State.writeTables_of_none rfl, State.writeNum_injectArm]
    exact State.armInjection_accepts he hk
  · refine exec_numberWrite ⟨0x4230, 2, .u16, .rw, 0, 0, 0x176⟩ (exec_injectBucket c b s) hc hc hm (by decide) rfl
      ⟨Nat.zero_le _, hb⟩ fun u _ => ?_
    rw [State.writeTables_of_none rfl, State.writeNum_injectBucket, State.writeInjectBucket_accepts hi]
  · refine exec_numberWrite ⟨0x4200, 2, .bool, .rw, 1, 0, 1⟩ (exec_scrubEnable c v s) hc hc hm (by decide) rfl
      ⟨Nat.zero_le _, hv⟩ fun u _ => ?_
    rw [State.writeTables_of_none rfl, State.writeNum_scrubEnable]

/-! ### Scrub, buckets and notifications (R283 to R289, R293, R300, R301) -/

namespace State
variable {s : State} {n : Nat}

/-- The next read of a pass whose word no owner holds takes that word. -/
theorem scrubNext_of_free (he : s.reg 0x4200 2 ≠ 0) (hw : (s.scrubOf n).word < scrubReads n)
    (hh : s.scrubHeld n (s.scrubOf n).word = false) :
    s.scrubNext n = ((s.modScrub n fun c => { c with word := c.word + 1 }).scrubWord n (s.scrubOf n).word).endPass n := by
  have hfree : (s.modScrub n fun c => { c with word := c.word + 1 }).scrubHeld n (s.scrubOf n).word = false := hh
  have hreads : scrubReads n ≠ 0 := by omega
  simp only [scrubNext, he, hreads, hw, hfree, decide_false, Bool.or_self, Bool.false_eq_true, if_false, if_true]

/-- The first structure whose pass is late is reported. -/
theorem scrubMissed_of_late
    (h : scrubStores.find? (fun b => !(s.scrubOf b).late && decide ((s.scrubOf b).began + s.scrubPeriod ≤ s.now)) = some n) :
    s.scrubMissed = (((s.modScrub n fun c => { c with late := true }).deadlineMiss 3).bump32 0x4200 5).raise 0x700A .degraded
      (.location n (s.scrubOf n).word 0 0) none .scrub := by
  simp only [scrubMissed, h]

theorem bucketLeak_of_due (h : s.leakDue n (s.regAt 0x4211 3 n) = true) :
    s.bucketLeak n =
      let t := s.leakStep n
      { t with ras := { t.ras with buckets :=
        ((t.ras.buckets.map fun (p : Nat × Bucket) =>
          (p.1, if bucketClass p.1 == some n then { p.2 with level := p.2.level - 1 } else p.2)).filter
            fun p => decide (p.2 ≠ {})) } } := by
  simp only [bucketLeak, h, Bool.not_true, Bool.false_eq_true, if_false]

/-- A port that was never notified is notified of the record that waits for it. -/
theorem hostNotify_of_first (hd : s.mgmt.dead = false) (hp : Table.get 0 s.ras.hostPending n ≠ 0) (hr : s.portRole n = 1)
    (hu : (s.port n).st = .up) (h0 : Table.get 0 s.ras.hostNotified n = 0) :
    s.hostNotify n = ({ s with ras := { s.ras with
        hostPending := Table.set 0 s.ras.hostPending n 0
        hostNotified := Table.set 0 s.ras.hostNotified n (s.now + 1) } } : State).emit (.msix n (s.regAt 0x7020 3 n)) := by
  simp [hostNotify, hd, hp, hr, hu, h0]

/-! ### Restores and watchdogs (R277, R314, R378) -/

theorem firmwareRestored_of_waiting (h : n ∈ s.ras.fwRestore) :
    s.firmwareRestored n = ({ s with ras := { s.ras with fwRestore := s.ras.fwRestore.filter (· != n) } } : State).setDamage
      (362 + n / fwWords) (n % fwWords) 0 := by
  simp [firmwareRestored, h]

theorem watchdogs_of_alive {cores : BitVec 4} (h : cores &&& ~~~s.mgmt.deadCores ≠ 0) :
    s.watchdogs cores = ({ s with mgmt := { s.mgmt with
      deadCores := s.mgmt.deadCores ||| cores
      dead := s.mgmt.dead || (s.mgmt.deadCores ||| cores) == 0xF#4 } } : State).raise 0x1006 .deviceFatal := if_neg h

/-! ### Dump rings (R320 to R325) -/

theorem snapshot_of_come (h : s.counter.lastInstant < s.canalTime / s.dumpBase * s.dumpBase) :
    s.snapshot = s.takeInstant (s.canalTime / s.dumpBase * s.dumpBase) := if_neg (Nat.not_le.2 h)

theorem missDeadline_of_late {d : DumpRecord} (hr : (s.ring n).record = some d) (hd : d.instant + s.dumpBase ≤ s.canalTime) :
    s.missDeadline n = ((s.modRing n fun x => { (x.skip 1) with record := none }).deadlineMiss 6).raise 0x8202 .contained (.count n 0) := by
  simp only [missDeadline, hr, Nat.not_lt.2 hd, if_false]

theorem headDoorbell_of_own {port : Nat} {v : BitVec 32} (h : drPort (s.ring n).cfg = port) :
    s.headDoorbell port n v = s.moveHead n v.toNat := if_pos h

end State

/-- Settles O30: each occasion is met by its hypotheses, so that the step does what the statement writes out. -/
theorem faultSteps : Obligations.FaultSteps := by
  refine ⟨fun s n port ha => ⟨fun hn he hw hh => ?_, fun h => ?_, fun hn hd => ?_, fun hp hd hpend hr hu h0 => ?_, ⟨?_, ?_, ?_⟩,
    fun h => ?_, fun hn h hheld => ?_, fun cores h => ?_, ?_⟩, fun s ring ha hr => ⟨fun h => ?_, fun d hrec hd => ?_, fun port v hp hown => ?_⟩⟩
  · exact exec_completes (exec_scrubRead n s) (decide_eq_true hn) ha (State.scrubNext_of_free (s := { s with pending := [], out := [] }) he hw hh)
  · exact exec_completes (exec_scrubPeriodMiss s) rfl ha (State.scrubMissed_of_late (s := { s with pending := [], out := [] }) h)
  · exact exec_completes (exec_bucketLeak n s) (decide_eq_true hn) ha (State.bucketLeak_of_due (s := { s with pending := [], out := [] }) hd)
  · exact exec_completes (exec_hostNotify port s) (decide_eq_true hp) ha
      (State.hostNotify_of_first (s := { s with pending := [], out := [] }) hd hpend hr hu h0)
  · exact exec_completes (exec_transportNotify .i3c s) rfl ha rfl
  · exact exec_completes (exec_transportNotify .fieldBusA s) rfl ha rfl
  · exact exec_completes (exec_transportNotify .fieldBusB s) rfl ha rfl
  · exact exec_completes (exec_firmwareTableRestore n s) rfl ha (State.firmwareRestored_of_waiting (s := { s with pending := [], out := [] }) h)
  · refine exec_completes (exec_regulatorWordRestore n s) (decide_eq_true hn) ha ?_
    simp [h, hheld]
  · exact exec_completes (exec_watchdogExpiry cores s) rfl ha (State.watchdogs_of_alive (s := { s with pending := [], out := [] }) h)
  · exact exec_completes (exec_regionDrainDone s) rfl ha rfl
  · exact exec_completes (exec_snapshotInstant s) rfl ha (State.snapshot_of_come (s := { s with pending := [], out := [] }) h)
  · exact exec_completes (exec_dumpRecordDeadline ring s) (decide_eq_true hr) ha
      (State.missDeadline_of_late (s := { s with pending := [], out := [] }) hrec hd)
  · exact exec_completes (exec_dumpHeadDoorbell port ring v s) (by simp [Instr.wellFormed, portOk, hp, hr]) ha
      (State.headDoorbell_of_own (s := { s with pending := [], out := [] }) hown)

end Sys2Proof.Machine
end

section
/-! SUPPORT. Links and canal: the commands of management, canal, links and start-up, the writes of port, target and link objects, and the steps of links, of canal time and of membership. -/

namespace Sys2Proof.Machine

/-! ### The commands of management, canal, links and start-up (R366, R368, R371, R406, R419, R422) -/

namespace State
variable {s : State} {t : Nat}

/-- CANAL_SET of a shared object to a value in its range goes to every other member, for an instant 200 µs ahead (R371). -/
theorem canalSet_sends {index sub v : Nat} (hp : s.canal.pending = none) (hs : sharedObjects.contains (index, sub) = true)
    (hd : ∃ d, objDef index sub = some d ∧ d.lo ≤ v ∧ v ≤ d.hi) :
    s.canalSet t index sub v =
      (s.canal.active.filter (· != s.deviceNumber)).foldl
        (fun x d => x.sendMgmt d mkCanalSet [index, sub, v, s.canalTime + 800000])
        { s with canal := { s.canal with set := some {
            ticket := t, index := index, sub := sub, value := v, instant := s.canalTime + 800000
            unconfirmed := s.canal.active.filter (· != s.deviceNumber), started := s.now } } } := by
  obtain ⟨d, hobj, hlo, hhi⟩ := hd
  simp only [canalSet, hs, hp, hobj, hlo, hhi, decide_true, Bool.and_true, Bool.not_true, Option.isSome_none, Bool.false_eq_true, if_false]

theorem canalLeave_of_settled (hp : s.canal.pending = none) :
    s.canalLeave t =
      (let s' := ({ s with canal := { s.canal with left := true } } : State).tellNeighbours mkDeparture [s.deviceNumber, 4]
       if s'.canal.member == .active then
         (if s'.canal.leader == s.deviceNumber then s'.announce (s'.canal.active.filter (· != s.deviceNumber)) else s')
       else { s' with canal := { s'.canal with member := .departed } }).endCmd t 0 := by
  simp only [canalLeave, hp, Option.isSome_none, Bool.false_eq_true, if_false]

theorem canalJoin_of_settled (hp : s.canal.pending = none) :
    s.canalJoin t = ({ s with canal := { s.canal with
      left := false, member := if s.canal.member == .active then .active else .joining } } : State).endCmd t 0 := by
  simp only [canalJoin, hp, Option.isSome_none, Bool.false_eq_true, if_false]

theorem retrain_of_link {l : Nat} (hl : l < 128) :
    s.retrain t l =
      (if (s.linkAt l).st == .disabled then s else (s.goDown l).modLink l fun k => { k with retryAt := s.now }).endCmd t 0 :=
  if_neg (by omega)

theorem startupDone_of_open (h : s.power.windowOpen = true) : s.startupDone t = s.closeWindow.endCmd t 0 := if_pos h

theorem startupDone_of_closed (h : s.power.windowOpen = false) : s.startupDone t = s.endCmd t 0x0015 :=
  if_neg (by simp [h])

end State

/-- The parameters of CANAL_SET as its client writes them: the index, the subindex with a byte of zero, and the value. -/
def canalSetParams (index sub : Nat) (v : BitVec 64) : List Byte := leBytes index 2 ++ leBytes sub 2 ++ leBytes v.toNat 8

theorem param_canalSetParams {index sub : Nat} (v : BitVec 64) (hi : index < 2 ^ 16) (hs : sub < 2 ^ 8) :
    param (canalSetParams index sub v) 0 2 = index ∧ param (canalSetParams index sub v) 2 1 = sub ∧
      param (canalSetParams index sub v) 4 8 = v.toNat :=
  ⟨(param_leBytes index 2).trans (Nat.mod_eq_of_lt (by omega)), (param_leBytes sub 1).trans (Nat.mod_eq_of_lt (by omega)),
    (param_leBytes v.toNat 8).trans (Nat.mod_eq_of_lt v.isLt)⟩

section startCanalCommand
variable (u s : State) (c : Client) (g : Nat)

theorem startCommand_nop : u.startCommand (heldCommand s c 0x1001 g []) = u.endCmd s.mgmt.nextTicket 0 := Eq.refl _

theorem startCommand_canalSet {index sub : Nat} (v : BitVec 64) (hi : index < 2 ^ 16) (hs : sub < 2 ^ 8) :
    u.startCommand (heldCommand s c 0x1201 g (canalSetParams index sub v)) = u.canalSet s.mgmt.nextTicket index sub v.toNat := by
  obtain ⟨hindex, hsub, hvalue⟩ := param_canalSetParams v hi hs
  calc u.startCommand (heldCommand s c 0x1201 g (canalSetParams index sub v))
    _ = u.canalSet s.mgmt.nextTicket (param (canalSetParams index sub v) 0 2) (param (canalSetParams index sub v) 2 1)
          (param (canalSetParams index sub v) 4 8) := Eq.refl _
    _ = u.canalSet s.mgmt.nextTicket index sub v.toNat := by rw [hindex, hsub, hvalue]

theorem startCommand_canalLeave : u.startCommand (heldCommand s c 0x1202 g []) = u.canalLeave s.mgmt.nextTicket := Eq.refl _

theorem startCommand_canalJoin : u.startCommand (heldCommand s c 0x1203 g []) = u.canalJoin s.mgmt.nextTicket := Eq.refl _

theorem startCommand_linkRetrain {l : Nat} (hl : l < 128) :
    u.startCommand (heldCommand s c 0x5201 g (leBytes l 1)) = u.retrain s.mgmt.nextTicket l := by
  have hp : param (leBytes l 1) 0 1 = l := (param_leBytes l 1).trans (Nat.mod_eq_of_lt (by omega))
  exact congrArg (u.retrain s.mgmt.nextTicket) hp

theorem startCommand_startupDone : u.startCommand (heldCommand s c 0x6002 g []) = u.startupDone s.mgmt.nextTicket := Eq.refl _

theorem startCommand_warmReset : u.startCommand (heldCommand s c 0x6001 g []) = u.warmReset s.mgmt.nextTicket := Eq.refl _

end startCanalCommand

/-- Settles O10: a submission leaves the canal, the links and the start-up window as they are, so that a command finds what its rule names. -/
theorem managementCommands : Obligations.ManagementCommands := by
  intro s c g hc
  refine ⟨fun ht => ?_, fun index sub v hi hs ht hp hsh hd => ?_, fun ht hp => ?_, fun ht hp => ?_, fun l hl ht => ?_,
    fun ht => ⟨fun hw => ?_, fun hw => ?_⟩, fun ht => ?_⟩
  · exact exec_command_ending (exec_nop c g s) hc hc rfl (by decide) ht fun _ _ _ => startCommand_nop ..
  · have he := exec_canalSet c g index sub v s
    rw [fieldBytes_of_lt (by omega : index < 256 ^ 2), fieldBytes_of_lt (by omega : sub < 256 ^ 2)] at he
    have hwf : (Instr.canalSet c g index sub v).wellFormed = true := by simp [Instr.wellFormed, fits, hc, hi, hs, -Nat.reducePow]
    exact exec_command_running he hwf hc rfl (by decide) ht fun _ _ _ =>
      (startCommand_canalSet _ _ _ _ v hi hs).trans (State.canalSet_sends hp hsh hd)
  · exact exec_command_ending (exec_canalLeave c g s) hc hc rfl (by decide) ht fun _ _ _ =>
      (startCommand_canalLeave ..).trans (State.canalLeave_of_settled hp)
  · exact exec_command_ending (exec_canalJoin c g s) hc hc rfl (by decide) ht fun _ _ _ =>
      (startCommand_canalJoin ..).trans (State.canalJoin_of_settled hp)
  · have hb : fieldBytes l 1 = leBytes l 1 := fieldBytes_of_lt (by omega)
    exact exec_command_ending (hb ▸ exec_linkRetrain c g l s) hc hc rfl (by decide) ht fun _ _ _ =>
      (startCommand_linkRetrain _ _ _ _ hl).trans (State.retrain_of_link hl)
  · exact exec_command_ending (exec_startupDone c g s) hc hc rfl (by decide) ht fun _ _ _ =>
      (startCommand_startupDone ..).trans (State.startupDone_of_open hw)
  · exact exec_command_ending (exec_startupDone c g s) hc hc rfl (by decide) ht fun _ _ _ =>
      (startCommand_startupDone ..).trans (State.startupDone_of_closed hw)
  · exact exec_command_running (exec_warmReset c g s) hc hc rfl (by decide) ht fun _ _ _ => startCommand_warmReset ..

/-! ### Writes of port, target and link objects (R331, R332, R341, R383, R432) -/

namespace State
variable {s : State} {p : Nat}

theorem writePortControl_of_enabled (he : pcEnable (s.port p).cfg = true) (hr : (s.port p).st ≠ .resetting) :
    s.writePortControl p 2 = .ok (s.portDown p 0 0x9002 .note false true) := by
  simp [writePortControl, he, hr]

theorem writePortControl_of_resetting (he : pcEnable (s.port p).cfg = true) (hr : (s.port p).st = .resetting) :
    s.writePortControl p 2 = .ok (s.modPort p fun x => { x with disabling := true }) := by
  simp [writePortControl, he, hr]

theorem writePortConfig_accepts {w : BitVec 32} (hd : pcEnable (s.port p).cfg = false) (hw : pcWidth (setFld w 0 18 0) ≠ 3)
    (hm : pcMaxSpeed (setFld w 0 18 0) ≠ 3) (hok : pcEnable (setFld w 0 18 0) = true → s.portConfigOk p (setFld w 0 18 0) = true) :
    s.writePortConfig p w = .ok (s.modPort p fun x => { x with
      cfg := setFld w 0 18 0, st := if pcEnable (setFld w 0 18 0) then .down else .disabled }) := by
  have hok' : (pcEnable (setFld w 0 18 0) && !s.portConfigOk p (setFld w 0 18 0)) = false := by
    cases he : pcEnable (setFld w 0 18 0)
    · rfl
    · rw [hok he]; rfl
  simp only [writePortConfig, hd, hw, hm, hok', decide_false, Bool.or_false, Bool.false_eq_true, if_false]

theorem writeQuadRole_accepts {q v : Nat} (hv : v ≤ 2) (hu : s.quadUser q = none) :
    s.writeQuadRole q v = .ok { s with link := { s.link with quads := Table.set 0 s.link.quads q v } } := by
  simp only [writeQuadRole, hu, Option.isSome_none, Bool.false_eq_true, if_false, Nat.not_lt.2 hv]

theorem writeTarget_accepts {t : Nat} {w : Word128} (hu : ptValid (Table.get 0 s.link.targets t) = true → s.targetUsed t = false)
    (hr : ptReserved w = false) (hok : ptValid w = true → s.targetOk t w = true) :
    s.writeTarget t w = .ok { s with link := { s.link with targets := Table.set 0 s.link.targets t w } } := by
  have hu' : ¬ (ptValid (Table.get 0 s.link.targets t) && s.targetUsed t) = true := by
    rw [Bool.and_eq_true]
    exact fun ⟨h1, h2⟩ => Bool.false_ne_true ((hu h1).symm.trans h2)
  have hok' : ¬ (ptReserved w || (ptValid w && !s.targetOk t w)) = true := by
    rw [hr, Bool.false_or, Bool.and_eq_true, Bool.not_eq_true']
    exact fun ⟨h1, h2⟩ => Bool.false_ne_true (h2.symm.trans (hok h1))
  exact (if_neg hu').trans (if_neg hok')

section rules
variable (s : State) (c : Client) (sel : Selector) (v : Nat)

theorem writeNum_portControl : s.writeNum c sel 0x5001 7 v = s.writePortControl (sel 0x5001 1) v := rfl

theorem writeNum_portConfig : s.writeNum c sel 0x5001 2 v = s.writePortConfig (sel 0x5001 1) (BitVec.ofNat 32 v) := rfl

theorem writeNum_quadRole : s.writeNum c sel 0x5000 2 v = s.writeQuadRole (sel 0x5000 1) v := rfl

theorem writeNum_targetDesc : s.writeNum c sel 0x5101 2 v = s.writeTarget (sel 0x5101 1) (BitVec.ofNat 128 v) := rfl

theorem writeNum_linkEnable : s.writeNum c sel 0x5200 8 v = s.writeLinkEnable (sel 0x5200 1) v := rfl

end rules

end State

/-- A write of PORT_CONTROL DISABLE that nothing bars completes with the effect that the port's state gives it. -/
theorem exec_portControlDisable_completes {s : State} {c : Client} {p : Nat} {f : State → State} (hc : c.ok = true) (hp : p < 128)
    (hm : s.mayWrite c 0x5001 7 (some (0x5001, p)) = true)
    (hf : State.writePortControl { s.touchClient c with pending := [], out := [] } p 2 =
      .ok (f { s.touchClient c with pending := [], out := [] })) :
    exec (.portControlDisable c p 2) s = .next (s.after (.portControlDisable c p 2) (State.wrote c 0x5001 7 (leBytes 2 1) f)) := by
  refine exec_numberWrite ⟨0x5001, 7, .u8, .wo, 0, 2, 2⟩ (exec_portControlDisable c p 2 s) hc hc hm (by decide)
    (windowShows_of_lt rfl hp) ⟨le_rfl, le_rfl⟩ ?_
  rintro u rfl
  rw [State.writeTables_of_none rfl, State.writeNum_portControl, State.picked_window, hf]

/-- A write of LINK_ENABLE that nothing bars completes as its rule says (R432). -/
theorem exec_linkEnable_completes {s : State} {c : Client} {l v : Nat} {f : State → State} (hc : c.ok = true) (hl : l < 128) (hv : v ≤ 1)
    (hm : s.mayWrite c 0x5200 8 (some (0x5200, l)) = true) (hf : ∀ u : State, u.writeLinkEnable l v = .ok (f u)) :
    exec (.linkEnable c l v) s = .next (s.after (.linkEnable c l v) (State.wrote c 0x5200 8 (leBytes v 1) f)) := by
  refine exec_numberWrite ⟨0x5200, 8, .bool, .rw, 1, 0, 1⟩ (exec_linkEnable c l v s) hc hc hm (by decide)
    (windowShows_of_lt rfl hl) ⟨Nat.zero_le _, hv⟩ fun u _ => ?_
  rw [State.writeTables_of_none rfl, State.writeNum_linkEnable, State.picked_window, hf]

/-- Settles O15: every object's own rule accepts the value, and its effect is what the statement writes out. -/
theorem linkWrites : Obligations.LinkWrites := by
  intro s c hc
  refine ⟨fun p hp hm => ⟨fun he hr => ?_, fun he hr => ?_⟩, fun p w hp hm hd hw hs hok => ?_, fun q v hq hv hm hu => ?_,
    fun t w ht hm hu hr hok => ?_, fun l hl hm => ⟨?_, ?_⟩, fun index sub data t hi hs hl hm h1 h2 hw => ?_⟩
  · exact exec_portControlDisable_completes hc hp hm (State.writePortControl_of_enabled he hr)
  · exact exec_portControlDisable_completes hc hp hm (State.writePortControl_of_resetting he hr)
  · have hf := exec_portConfig c p w s
    rw [← fieldBytes_of_lt (show w.toNat < 256 ^ 4 from w.isLt)] at hf
    refine exec_numberWrite ⟨0x5001, 2, .u32, .rwd, 0, 0, 0xFFFFFFFF⟩ hf hc hc hm (by decide) (windowShows_of_lt rfl hp)
      ⟨Nat.zero_le _, Nat.le_pred_of_lt w.isLt⟩ ?_
    rintro u rfl
    rw [State.writeTables_of_none rfl, State.writeNum_portConfig, State.picked_window, BitVec.ofNat_toNat, BitVec.setWidth_eq]
    exact State.writePortConfig_accepts hd hw hs hok
  · refine exec_numberWrite ⟨0x5000, 2, .u8, .rwd, 0, 0, 2⟩ (exec_quadRole c q v s) hc hc hm (by decide) (windowShows_of_lt rfl hq)
      ⟨Nat.zero_le _, hv⟩ ?_
    rintro u rfl
    rw [State.writeTables_of_none rfl, State.writeNum_quadRole, State.picked_window]
    exact State.writeQuadRole_accepts hv hu
  · have hf := exec_targetDesc c t w s
    rw [← fieldBytes_of_lt (show w.toNat < 256 ^ 16 from w.isLt)] at hf
    refine exec_numberWrite ⟨0x5101, 2, .u128, .rw, 0, 0, 2 ^ 128 - 1⟩ hf hc hc hm (by decide) (windowShows_of_lt rfl ht)
      ⟨Nat.zero_le _, Nat.le_pred_of_lt w.isLt⟩ ?_
    rintro u rfl
    rw [State.writeTables_of_none rfl, State.writeNum_targetDesc, State.picked_window, BitVec.ofNat_toNat, BitVec.setWidth_eq]
    exact State.writeTarget_accepts hu hr hok
  · exact exec_linkEnable_completes hc hl (by decide) hm fun _ => rfl
  · exact exec_linkEnable_completes hc hl le_rfl hm fun _ => rfl
  · have hwf : (Instr.objectWrite c index sub data).wellFormed = true := by simp [Instr.wellFormed, fits, hc, hi, hs, -Nat.reducePow]
    exact exec_completes (exec_objectWrite c index sub data s) hwf (State.mayWrite_awake hm)
      (namedWrite_ok rfl hc (State.mayWrite_blank.trans hm) hi hs (hl.trans (frameLimit_ge _)) h1 h2 hw)

/-! ### Wiboni links (R347 to R350, R354, R355) -/

namespace State
variable {s : State} {l : Nat}

/-- A link that is ACTIVE or ACTIVE_SLOW carries traffic. -/
theorem carries_of_active (hu : (s.linkAt l).st = .active ∨ (s.linkAt l).st = .activeSlow) :
    ((s.linkAt l).st == .active || (s.linkAt l).st == .activeSlow) = true := by
  simpa using hu

theorem linkRetry_of_due (hst : (s.linkAt l).st = .down ∨ (s.linkAt l).st = .miswired) (hu : s.linkUsable l = true)
    (hr : (s.linkAt l).retryAt ≤ s.now) (hm : s.testMode ≠ 2) : s.linkRetry l = s.modLink l fun k => { k with st := .training } := by
  have hd : ((s.linkAt l).st == .down || (s.linkAt l).st == .miswired) = true := by simpa using hst
  simp [linkRetry, hd, hu, Nat.not_lt.2 hr, hm]

theorem trainingFails_of_training (hst : (s.linkAt l).st = .training ∨ (s.linkAt l).st = .identify ∨ (s.linkAt l).st = .measure) :
    s.trainingFails l = s.goDown l := by
  have ht : ((s.linkAt l).st == .training || (s.linkAt l).st == .identify || (s.linkAt l).st == .measure) = true := by simpa [or_assoc] using hst
  exact if_pos ht

/-- IDENTIFY records the peer, and the cabling and flight size decide what follows (R347, step 4). -/
theorem identified_of_identifying {r : IdentifyRecord} (hst : (s.linkAt l).st = .training ∨ (s.linkAt l).st = .identify) :
    s.identified l r =
      let s := s.modLink l fun k => { k with peerDevice := r.device, peerLink := r.link }
      if s.expectedPeer l r && r.flightSize == s.flightSize then s.modLink l fun k => { k with st := .measure }
      else (s.linkLeaves l .miswired (s.now + 1000000000)).raise 0x9012 .degraded (.count l 0) := by
  have hi : ((s.linkAt l).st == .training || (s.linkAt l).st == .identify) = true := by simpa using hst
  exact if_neg (by simp [hi])

/-- A link that enters service begins anew: SEQ 0, full credits, nothing unacknowledged (R347, step 6). -/
def beginLink (s : State) (l : Nat) (st : LinkState) (delay : Nat) : State :=
  s.modLink l fun k => { k with
    st := st, delayPs := delay % 2 ^ 32, expect := 0, nextSeq := 0, retry := [], credits := [], partialBytes := []
    nakSent := false, ackedAt := s.now, lastValid := s.now, replayCount := 0, rxCount := 0, tail := [], srchOut := [] }

theorem measured_fast {delay leg : Nat} (hst : (s.linkAt l).st = .measure) (hleg : leg ≤ 55000) :
    s.measured l delay leg = ((s.beginLink l .active delay).flushAll.settleUpstream).settlePaths := by
  simp [measured, beginLink, hst, Nat.not_lt.2 hleg]

theorem measured_slow {delay leg : Nat} (hst : (s.linkAt l).st = .measure) (hleg : 55000 < leg) :
    s.measured l delay leg =
      ((((s.beginLink l .activeSlow delay).raise 0x9013 .degraded (.count l 0)).flushAll).settleUpstream).settlePaths := by
  simp [measured, beginLink, hst, hleg]

section carries
variable (hu : (s.linkAt l).st = .active ∨ (s.linkAt l).st = .activeSlow)
include hu

theorem flitArrives_of_carries {f : Flit} {fec : Nat} (hm : s.testMode ≠ 2) : s.flitArrives l f fec = s.receiveFlit l f fec := by
  simp [flitArrives, carries_of_active hu, hm]

theorem ackLate_of_late (hr : (s.linkAt l).retry ≠ []) (hd : (s.linkAt l).ackedAt + 1000 ≤ s.now) : s.ackLate l = s.replay l := by
  simp [ackLate, carries_of_active hu, hr, Nat.not_lt.2 hd]

theorem silent_of_late (hd : (s.linkAt l).lastValid + 200 ≤ s.now) : s.silent l = s.goDown l := by
  simp [silent, carries_of_active hu, Nat.not_lt.2 hd]

end carries

/-- A flit that fails its CRC is counted and discarded (R349). -/
theorem receiveFlit_of_bad {f : Flit} {fec : Nat} (hf : flGood f = false) :
    s.receiveFlit l f fec = (s.modLink l fun k => { k with
      crcFails := sat32 (k.crcFails + 1), fecCorrected := (k.fecCorrected + fec) % 2 ^ 64 }).discardFlit l := by
  simp [receiveFlit, hf]

/-- A good flit of a known type is taken in: its ACK, credits and NAK, then its data when it is in sequence (R349, R350). -/
theorem receiveFlit_of_good {f : Flit} {fec : Nat} (hf : flGood f = true) (ht : flType f ≤ 3) :
    s.receiveFlit l f fec =
      let s := s.modLink l fun k => { k with
        crcFails := if fec = 0 then k.crcFails else sat32 (k.crcFails + 1), fecCorrected := (k.fecCorrected + fec) % 2 ^ 64 }
      let s := ((s.modLink l fun k => { k with lastValid := s.now }).takeAck l (flAck f)).takeCredits l (flCreditVc f) (flCredits f)
      let s := if flNak f then s.replay l else s
      let s := if flType f ≠ 1 then s
        else if flSeq f = (s.linkAt l).expect then s.takeData l f
        else if (flSeq f + 4096 - (s.linkAt l).expect) % 4096 < 2048 then s.discardFlit l
        else s
      s.drainTxq l := by
  have hc : ∀ n : Nat, (if (fec != 0 || !flGood f) = true then sat32 (n + 1) else n) = if fec = 0 then n else sat32 (n + 1) := by
    intro n
    by_cases h0 : fec = 0 <;> simp [h0, hf]
  unfold receiveFlit
  dsimp only
  rw [if_neg (by simp [hf]), if_neg (Nat.not_lt.2 ht)]
  simp only [hc]

theorem tailExpires_of_due (h1 : (s.linkAt l).st ≠ .active) (h2 : (s.linkAt l).st ≠ .activeSlow) (hd : (s.linkAt l).downAt + 64000 ≤ s.now) :
    s.tailExpires l = s.modLink l fun k => { k with tail := [] } := by
  simp [tailExpires, h1, h2, Nat.not_lt.2 hd]

/-- Messages without a path are not re-sent. -/
theorem flushResend_of_no_path (h : ∀ m ∈ (s.linkAt l).resend, ∀ d parity, m.dest = some (d, parity) → s.pathTo d parity = none) :
    s.flushResend l = s := by
  refine List.foldlRecOn (motive := (· = s)) _ _ rfl fun u hu m hm => ?_
  subst hu
  split
  · rfl
  · next d parity hd => rw [h m hm d parity hd]

/-- Messages that still have no path 64 µs after their link went DOWN fail together, with their count (R355). -/
theorem resendExpires_of_no_path (hd : (s.linkAt l).downAt + 64000 ≤ s.now) (hr : (s.linkAt l).resend ≠ [])
    (h : ∀ m ∈ (s.linkAt l).resend, ∀ d parity, m.dest = some (d, parity) → s.pathTo d parity = none) :
    s.resendExpires l =
      ((s.linkAt l).resend.foldl (fun s m => s.failForwarded m) (s.modLink l fun k => { k with resend := [] })).raise 0x9016 .contained
        (.count (s.linkAt l).resend.length 0) := by
  simp [resendExpires, flushResend_of_no_path h, hr, Nat.not_lt.2 hd]

theorem sendVector_of_due (h : s.link.nextVectorSend ≤ s.now ∨ s.ownVector ≠ s.link.sentVector) :
    s.sendVector =
      ({ s with link := { s.link with nextVectorSend := s.now + 10000, sentVector := s.ownVector } } : State).tellNeighbours mkVector
        [s.deviceNumber, s.ownVector.toNat] := by
  refine if_neg ?_
  rw [Bool.and_eq_true, decide_eq_true_eq, beq_iff_eq]
  exact fun ⟨h1, h2⟩ => h.elim (Nat.not_le.2 h1) (· h2)

end State

/-- Settles O32: each event finds its link in the state, and at the time, at which it acts. -/
theorem linkSteps : Obligations.LinkSteps := by
  intro s l ha hl
  have hok : portOk l = true := decide_eq_true hl
  refine ⟨fun hst hu hr hm => ?_, fun hst => ?_, fun r hd hp hst => ?_, fun delay leg hst => ⟨fun hleg => ?_, fun hleg => ?_⟩,
    fun hu => ⟨fun f fec hfec hm => ?_, fun hr hd => ?_, fun hd => ?_, ?_⟩,
    fun h1 h2 hd => ?_, fun hd hr h => ?_, fun h => ?_, fun d v hd => ?_⟩
  · exact exec_completes (exec_linkRetryTimer l s) hok ha (State.linkRetry_of_due hst hu hr hm)
  · exact exec_completes (exec_linkTrainingFailure l s) hok ha (State.trainingFails_of_training hst)
  · have hwf : (Instr.identify l r).wellFormed = true := by simp [Instr.wellFormed, deviceOk, portOk, hl, hd, hp]
    exact exec_completes (exec_identify l r s) hwf ha (State.identified_of_identifying hst)
  · exact exec_completes (exec_measureDone l delay leg s) hok ha (State.measured_fast hst hleg)
  · exact exec_completes (exec_measureDone l delay leg s) hok ha (State.measured_slow hst hleg)
  · have hwf : (Instr.flitReceive l f fec).wellFormed = true := by simp [Instr.wellFormed, hok, hfec]
    have completes := fun {g : State → State} => exec_completes (g := g) (exec_flitReceive l f fec s) hwf ha
    have arrives := State.flitArrives_of_carries (s := { s with pending := [], out := [] }) (f := f) (fec := fec) hu hm
    exact ⟨fun hf => completes (arrives.trans (State.receiveFlit_of_bad hf)),
      fun hf ht => completes (arrives.trans (State.receiveFlit_of_good hf ht))⟩
  · exact exec_completes (exec_ackTimeout l s) hok ha (State.ackLate_of_late hu hr hd)
  · exact exec_completes (exec_linkSilence l s) hok ha (State.silent_of_late hu hd)
  · exact exec_completes (exec_linkDown l s) hok ha (if_pos (State.carries_of_active hu))
  · exact exec_completes (exec_tailRecordExpiry l s) hok ha (State.tailExpires_of_due h1 h2 hd)
  · exact exec_completes (exec_resendWindowExpiry l s) hok ha (State.resendExpires_of_no_path hd hr h)
  · exact exec_completes (exec_linkStateVectorSend s) rfl ha (State.sendVector_of_due h)
  · exact exec_completes (exec_linkStateVector d v s) (decide_eq_true hd) ha rfl

/-! ### Canal time (R359 to R363, R433) -/

namespace State
variable {s : State} {l : Nat}

theorem sendTime_of_due (h : s.canal.nextTimeSend ≤ s.now) :
    s.sendTime =
      let up := (List.range 128).filter fun l => (s.linkAt l).st == .active || (s.linkAt l).st == .activeSlow
      let s := up.foldl (fun s l => s.emit (.timeFlit l (s.canalTime * 256) (s.linkAt l).lastTimeRx s.canal.errorPs)) s
      { s with canal := { s.canal with nextTimeSend := s.now + 10000 } } :=
  if_neg (Nat.not_lt.2 h)

/-- A TIME flit on a link leaves its stamp (R360). -/
def stampTime (s : State) (l : Nat) : State := s.modLink l fun k => { k with lastTimeRx := s.canalTime * 256, lastValid := s.now }

/-- A sample of the upstream's time sets the error estimate and the slew, and counts the samples in a row within 500 ps (R360, R362). -/
def sampleTime (s : State) (err : Nat) (off : Int) : State :=
  { s with canal := { s.canal with
      errorPs := min (err + off.natAbs * 250 / 256) (2 ^ 32 - 1), slew := -off
      samples := if off.natAbs < 512 then s.canal.samples + 1 else 0 } }

section timeFlit
variable {t1 t2 t3 t4 err : Nat} (hu : (s.linkAt l).st = .active ∨ (s.linkAt l).st = .activeSlow)
include hu

theorem timeFlit_of_not_upstream (h : s.canal.upstream ≠ some l) : s.timeFlit l t1 t2 t3 t4 err = s.stampTime l := by
  simp [timeFlit, stampTime, carries_of_active hu, h]

theorem timeFlit_of_not_acquiring (h : s.canal.upstream = some l) (ht : s.canal.timeState ≠ .acquiring) :
    s.timeFlit l t1 t2 t3 t4 err = ((s.stampTime l).sampleTime err (offsetOf t1 t2 t3 t4)).settleTrust := by
  simp [timeFlit, stampTime, sampleTime, carries_of_active hu, h, ht]

/-- An offset of at most 1 µs is slewed while ACQUIRING, and the sixteenth sample in a row locks (R362). -/
theorem timeFlit_of_acquiring (h : s.canal.upstream = some l) (ht : s.canal.timeState = .acquiring)
    (hoff : (offsetOf t1 t2 t3 t4).natAbs ≤ 1024000) :
    s.timeFlit l t1 t2 t3 t4 err =
      let s := (s.stampTime l).sampleTime err (offsetOf t1 t2 t3 t4)
      ({ s with canal := { s.canal with
          stepArmed := false, timeState := if 16 ≤ s.canal.samples then .locked else .acquiring } } : State).settleTrust := by
  simp [timeFlit, stampTime, sampleTime, carries_of_active hu, h, ht, Nat.not_lt.2 hoff]

end timeFlit

theorem lockTimeout_of_late (ht : s.canal.timeState = .acquiring) (hm : s.canal.lockMissed = false)
    (hd : s.canal.acquiringAt + s.reg 0x1200 6 * 1000000 ≤ s.now) :
    s.lockTimeout = (({ s with canal := { s.canal with lockMissed := true } } : State).deadlineMiss 8).raise 0xA001 .degraded := by
  simp [lockTimeout, ht, hm, Nat.not_lt.2 hd]

/-! ### Edges of PPS_IN (R359, R433) -/

theorem ppsEdge_of_first (h : s.canal.pps.lastEdge = none) : s.ppsEdge = s.takeEdge true := by
  simp [ppsEdge, h]

section edge
variable {t : Nat} (h : s.canal.pps.lastEdge = some t)
include h

theorem ppsEdge_of_stale (ht : t + 2000000000 < s.now) : s.ppsEdge = s.takeEdge true := by
  simp [ppsEdge, h, ht]

theorem ppsEdge_of_second (h1 : t + 999900000 ≤ s.now) (h2 : s.now ≤ t + 1000100000) : s.ppsEdge = s.takeEdge false := by
  have ht : ¬ t + 2000000000 < s.now := by omega
  simp [ppsEdge, h, ht, h1, h2]

/-- An edge outside the window of one second is counted and rejected. -/
theorem ppsEdge_of_outside (ho : s.now < t + 999900000 ∨ (t + 1000100000 < s.now ∧ s.now ≤ t + 2000000000)) :
    s.ppsEdge = ({ s with
      canal := { s.canal with pps := { s.canal.pps with lastAny := some s.now, stuck := false } }
      power := { s.power with ppsRejected := sat32 (s.power.ppsRejected + 1) } } : State).raise 0xB009 .note := by
  have ht : ¬ t + 2000000000 < s.now := by omega
  have hw : ¬ (t + 999900000 ≤ s.now ∧ s.now ≤ t + 1000100000) := by omega
  simp [ppsEdge, h, ht, hw]

end edge

/-- PPS_IN loses its qualification (R433). -/
def unqualifyPps (s : State) : State :=
  ({ s with canal := { s.canal with pps := { lastAny := s.canal.pps.lastAny, stuck := true } } } : State).raise 0xB00A .degraded

section stuck
variable (hs : s.canal.pps.stuck = false) (ht : s.canal.pps.lastAny.getD s.power.windowAt + 2000000000 < s.now)
include hs ht

theorem ppsStuck_of_late :
    s.ppsStuck = if s.canal.pps.qualified && s.unqualifyPps.isMaster then s.unqualifyPps.raise 0xA004 .note else s.unqualifyPps :=
  if_neg (by simp [hs, Nat.not_le.2 ht])

theorem ppsStuck_of_unqualified (hq : s.canal.pps.qualified = false) : s.ppsStuck = s.unqualifyPps := by
  rw [ppsStuck_of_late hs ht, hq, Bool.false_and, if_neg Bool.false_ne_true]

theorem ppsStuck_of_qualified (hq : s.canal.pps.qualified = true) :
    s.ppsStuck = if s.unqualifyPps.isMaster then s.unqualifyPps.raise 0xA004 .note else s.unqualifyPps := by
  rw [ppsStuck_of_late hs ht, hq, Bool.true_and]

end stuck

end State

/-- Settles O33: each occasion is met by its hypotheses, so that the step does what the statement writes out. -/
theorem timeSteps : Obligations.TimeSteps := by
  intro s ha
  refine ⟨fun hd => ?_, fun l t1 t2 t3 t4 err hl h1 h2 h3 h4 hu => ?_, fun ht hm hd => ?_, fun h => ?_,
    fun t h => ⟨fun ht => ?_, fun hlo hhi => ?_, fun ho => ?_⟩, fun hs ht => ⟨fun hq => ?_, fun hq => ?_⟩⟩
  · exact exec_completes (exec_timeFlitSend s) rfl ha (State.sendTime_of_due hd)
  · have hwf : (Instr.timeFlit l t1 t2 t3 t4 err).wellFormed = true := by
      simp [Instr.wellFormed, portOk, fits, hl, h1, h2, h3, h4, -Nat.reducePow]
    have completes := fun {g : State → State} => exec_completes (g := g) (exec_timeFlit l t1 t2 t3 t4 err s) hwf ha
    exact ⟨fun h => completes (State.timeFlit_of_not_upstream hu h),
      fun h ht => completes (State.timeFlit_of_not_acquiring hu h ht),
      fun h ht ho => completes (State.timeFlit_of_acquiring hu h ht ho)⟩
  · exact exec_completes (exec_timeLockTimeout s) rfl ha (State.lockTimeout_of_late ht hm hd)
  · exact exec_completes (exec_ppsEdge s) rfl ha (State.ppsEdge_of_first h)
  · exact exec_completes (exec_ppsEdge s) rfl ha (State.ppsEdge_of_stale h ht)
  · exact exec_completes (exec_ppsEdge s) rfl ha (State.ppsEdge_of_second h hlo hhi)
  · exact exec_completes (exec_ppsEdge s) rfl ha (State.ppsEdge_of_outside h ho)
  · exact exec_completes (exec_ppsStuck s) rfl ha (State.ppsStuck_of_unqualified hs ht hq)
  · exact exec_completes (exec_ppsStuck s) rfl ha (State.ppsStuck_of_qualified hs ht hq)

/-! ### Canal membership (R364 to R372) -/

namespace State
variable {s : State} {d : Nat}

theorem publish_of_due (hn : s.canal.nextPublish ≤ s.now) (hr : s.power.device = .running) (hm : s.testMode = 0) : s.publish = s.publishNow := by
  simp [publish, Nat.not_lt.2 hn, hr, hm]

theorem heard_of_peer {r : MemberRecord} (h : r.device ≠ s.deviceNumber) : s.heard r = s.heardPeer r := if_neg h

/-- The leader of two members of which the other was never heard lets it depart. -/
theorem memberSilent_of_pair (ha : s.canal.active = [s.deviceNumber, d]) (hne : s.deviceNumber ≠ d) (hm : s.canal.member = .active)
    (hp : s.canal.peers = []) (hl : s.canal.leader = s.deviceNumber) : s.memberSilent d = s.want d 0 := by
  simp [memberSilent, ha, hne.symm, hm, hp, hl]

theorem epochAnnounced_of_newer {e l t : Nat} {ms : List Nat} (he : s.canal.epoch < e) (hp : s.canal.pending = none) (hl : l ≠ s.deviceNumber) :
    s.epochAnnounced e l ms t =
      { s with canal := { s.canal with pending := some { epoch := e, leader := l, members := sortDevices ms, instant := t } } } :=
  if_neg (by simp [Nat.not_le.2 he, hp, hl])

theorem canalSetApply_of_none (h : s.canal.set = none) : s.canalSetApply = s := by
  simp only [canalSetApply, h]

theorem epochApply_of_come {p : PendingEpoch} (hs : s.canal.set = none) (hp : s.canal.pending = some p) (ht : p.instant ≤ s.canalTime) :
    s.epochApply = s.applyEpoch p := by
  simp only [epochApply, canalSetApply_of_none hs, hp, Nat.not_lt.2 ht, if_false]

/-- The quarantine events that a report logs again: a device and its reason. -/
def reportable (s : State) : List (Nat × Nat) :=
  s.canal.quarantined.map (fun d => (d, Table.get 0 s.canal.reasons d)) ++
    (s.canal.duplicates.filter fun (p : Nat × PeerView) => s.viewFresh p.2).map fun (p : Nat × PeerView) => (p.1, 1)

/-- One quarantine is reported again (R367). -/
theorem reportQuarantine_of_one {r : Nat} (hr : s.reportable = [(d, r)]) (hm : s.canal.member ≠ .quarantined)
    (hn : s.canal.nextQuarReport ≤ s.now) :
    s.reportQuarantine =
      let s := s.logEvent { code := quarantineEvent r, cls := .degraded, detail := .peer d 0 r 0 0, ownInterval := true }
      { s with canal := { s.canal with nextQuarReport := s.now + s.reg 0x1201 8 * 1000000 } } := by
  have hm' : (s.canal.member == MemberState.quarantined) = false := by simpa using hm
  unfold reportable at hr
  simp [reportQuarantine, hr, hm', Nat.not_lt.2 hn]

theorem reportable_of_quarantined (hq : s.canal.quarantined = [d]) (hd : s.canal.duplicates = []) :
    s.reportable = [(d, Table.get 0 s.canal.reasons d)] := by
  simp [reportable, hq, hd]

theorem reportable_of_duplicate {v : PeerView} (hq : s.canal.quarantined = []) (hd : s.canal.duplicates = [(d, v)])
    (hv : s.now < v.heard + 3000000) : s.reportable = [(d, 1)] := by
  simp [reportable, viewFresh, hq, hd, hv]

/-- The members that have not confirmed CANAL_SET within 1 ms are noted and suspect, and the command ends (R371, R372). -/
theorem canalSetTimeout_of_late {j : CanalSetJob} (hj : s.canal.set = some j) (hd : d ∈ j.unconfirmed) (ht : j.started + 1000000 ≤ s.now) :
    s.canalSetTimeout d =
      let s := j.unconfirmed.foldl (fun s d => s.raise 0xA018 .degraded (.peer d 0 0 0 0)) s
      ({ s with canal := { s.canal with
          set := none, suspects := sortDevices (s.canal.suspects ++ j.unconfirmed) } } : State).endCmd j.ticket 0x1212 := by
  simp [canalSetTimeout, hj, hd, Nat.not_lt.2 ht]

end State

/-- Settles O34: each occasion is met by its hypotheses, so that the step does what the statement writes out. -/
theorem membershipSteps : Obligations.MembershipSteps := by
  intro s d ha hd
  refine ⟨fun hn hr hm => ?_, fun r h1 h2 h3 hne => ?_, fun hact hne hm hp hl => ?_, fun e l ms t he he' hp hne hl hms => ?_,
    fun p hs hp ht => ?_, fun hq hdup hm hn => ?_, fun v hq hdup hv hm hn => ?_, fun j hj hmem ht => ?_⟩
  · exact exec_completes (exec_membershipPublish s) rfl ha (State.publish_of_due hn hr hm)
  · have hwf : (Instr.membershipRecord r).wellFormed = true := by simp [Instr.wellFormed, deviceOk, h1, h2, h3]
    exact exec_completes (exec_membershipRecord r s) hwf ha (State.heard_of_peer hne)
  · exact exec_completes (exec_memberSilence d s) (decide_eq_true hd) ha
      (State.memberSilent_of_pair hact hne hm hp hl)
  · have hwf : (Instr.epochAnnounce e l ms t).wellFormed = true := by simp only [Instr.wellFormed, fits, deviceOk, he', hl, hms]; rfl
    exact exec_completes (exec_epochAnnounce e l ms t s) hwf ha
      (State.epochAnnounced_of_newer he hp hne)
  · exact exec_completes (exec_epochApply s) rfl ha (State.epochApply_of_come hs hp ht)
  · exact exec_completes (exec_quarantineReport s) rfl ha
      (State.reportQuarantine_of_one (State.reportable_of_quarantined hq hdup) hm hn)
  · exact exec_completes (exec_quarantineReport s) rfl ha
      (State.reportQuarantine_of_one (State.reportable_of_duplicate hq hdup hv) hm hn)
  · exact exec_completes (exec_canalSetConfirmTimeout d s) (decide_eq_true hd) ha
      (State.canalSetTimeout_of_late hj hmem ht)

end Sys2Proof.Machine
end

section
/-! SUPPORT. The object dictionary: which commands stop, the frame of the queries, the submission and acceptance of commands, and the rows of frames, mailboxes, MCTP and field buses. -/

namespace Sys2Proof.Machine

/-! ### The front of the queue, and the one stop -/

theorem step_cons {s : State} {c : Instr} {cs : List Instr} (h : s.pending = c :: cs) : step s = exec c { s with pending := cs } := by
  simp [step, h]

/-- Settles O37: the step of a state whose queue is not empty is its front's execution. -/
theorem stepTakesFront : Obligations.StepTakesFront :=
  fun _ _ _ => step_cons rfl

theorem run_answers {s : State} {i : Instr} {f : State → State} (h : i.wellFormed = true) : ∃ t, run i s f = .next t := by
  rw [run, if_pos h]
  split
  · exact ⟨_, rfl⟩
  · exact ⟨_, rfl⟩

/-- Settles O41: every meaning is the run of an effect, and a run stops where the command is ill formed. -/
theorem onlyIllFormedCommandsStop : Obligations.OnlyIllFormedCommandsStop := by
  intro i s
  obtain ⟨f, hf⟩ := exec_eq_run i s
  rw [hf]
  exact ⟨run_answers, run_fault⟩

/-! ### Queries -/

/-- From `u` to `v` nothing changes but the count of free values taken. -/
def State.OnlyDraws (u v : State) : Prop := ∃ n, v = { u with free := n }

namespace State
variable {u v w : State}

theorem onlyDraws_refl (u : State) : OnlyDraws u u := ⟨u.free, rfl⟩

theorem OnlyDraws.trans (h : OnlyDraws u v) (h' : OnlyDraws v w) : OnlyDraws u w := by
  obtain ⟨n, rfl⟩ := h
  obtain ⟨m, rfl⟩ := h'
  exact ⟨m, rfl⟩

theorem onlyDraws_drawFree (u : State) : OnlyDraws u u.drawFree.2 := ⟨u.free + 1, rfl⟩

/-- A loop draws at most free values when each of its rounds does. -/
theorem onlyDraws_foldl {α β : Type} {f : State × β → α → State × β} (hf : ∀ p x, OnlyDraws p.1 (f p x).1) (l : List α) :
    ∀ p : State × β, OnlyDraws p.1 (l.foldl f p).1 := by
  induction l with
  | nil => exact fun p => onlyDraws_refl p.1
  | cons x l ih => exact fun p => (hf p x).trans (ih (f p x))

theorem onlyDraws_freeBytes (u : State) (n : Nat) : OnlyDraws u (u.freeBytes n).1 :=
  onlyDraws_foldl (fun p _ => onlyDraws_drawFree p.1) _ (u, [])

theorem onlyDraws_mboxIdentify (u : State) : OnlyDraws u u.mboxIdentify.1 := u.onlyDraws_freeBytes 6

theorem onlyDraws_mboxMemory (u : State) : OnlyDraws u u.mboxMemory.1 := u.onlyDraws_freeBytes 27

theorem onlyDraws_mboxLog (u : State) : OnlyDraws u u.mboxLog.1 :=
  onlyDraws_foldl (fun p _ => p.1.onlyDraws_freeBytes 2) mboxOpcodes (u, [])

/-- An MCTP control command leaves the state, or does its part and sends the response. -/
theorem mctp_cases (u : State) (f : State → State × List Byte) : u.mctp f = u ∨ ∃ o, u.mctp f = (f u).1.emit o := by
  unfold mctp
  split
  · exact .inr ⟨_, rfl⟩
  · exact .inl rfl

/-- A field bus's packet leaves the state, or is answered. -/
theorem busPacket_cases (u : State) (bus : Bool) (target dest : Word128) (b : List Byte) :
    u.busPacket bus target dest b = u ∨ ∃ o, u.busPacket bus target dest b = u.emit o := by
  unfold busPacket
  split
  · exact .inr ⟨_, rfl⟩
  · exact .inl rfl

end State

section query
variable {s t : State} {i : Instr} (hs : s.Inv) (h : exec i s = .next t)
include hs h

/-- A command whose effect leaves the state, or draws free values and sends one answer, changes nothing else. -/
theorem exec_answer_frame {f : State → State} (he : exec i s = run i s f)
    (hf : ∀ u, f u = u ∨ ∃ v o, State.OnlyDraws u v ∧ f u = v.emit o) : t = { s with out := t.out, free := t.free } := by
  have ⟨_, _, hr⟩ := hs
  rw [he] at h
  obtain hf | ⟨_, o, ⟨n, rfl⟩, hf⟩ := hf { s with pending := [], out := [] }
  · obtain rfl | rfl := run_quiet hs i f hf rfl rfl rfl hr rfl h <;> rfl
  · obtain rfl | rfl := run_quiet hs i f hf rfl rfl rfl hr rfl h <;> rfl

theorem mailboxQuery_frame {p : Nat} {f : State → State × Nat × List Byte} (he : exec i s = run i s fun u => u.mailbox p f)
    (hf : ∀ u, State.OnlyDraws u (f u).1) : t = { s with out := t.out, free := t.free } :=
  exec_answer_frame hs h he fun u => (u.mailbox_cases p f).imp_right fun ⟨o, ho⟩ => ⟨_, o, hf u, ho⟩

theorem mctpQuery_frame {f : State → State × List Byte} (he : exec i s = run i s fun u => u.mctp f)
    (hf : ∀ u, State.OnlyDraws u (f u).1) : t = { s with out := t.out, free := t.free } :=
  exec_answer_frame hs h he fun u => (u.mctp_cases f).imp_right fun ⟨o, ho⟩ => ⟨_, o, hf u, ho⟩

theorem busPacket_frame {bus : Bool} {target dest : Word128} {b : List Byte}
    (he : exec i s = run i s fun u => u.busPacket bus target dest b) : t = { s with out := t.out, free := t.free } :=
  exec_answer_frame hs h he fun u => (u.busPacket_cases bus target dest b).imp_right fun ⟨o, ho⟩ => ⟨u, o, u.onlyDraws_refl, ho⟩

end query

/-- Settles O58: a query is not heard, or draws the free values of its answer and sends it. -/
theorem queriesOnlyAnswer : Obligations.QueriesOnlyAnswer := by
  intro s t p bus a b payload i hs hi h
  simp only [List.mem_cons, List.not_mem_nil, or_false] at hi
  obtain rfl | rfl | rfl | rfl | rfl | rfl | rfl | rfl | rfl | rfl | rfl | rfl | rfl | rfl | rfl | rfl | rfl := hi
  · exact mailboxQuery_frame hs h (exec_identifyDevice p s) State.onlyDraws_mboxIdentify
  · exact mailboxQuery_frame hs h (exec_backgroundOperationStatus p s) State.onlyDraws_refl
  · exact mailboxQuery_frame hs h (exec_getEventRecords p s) State.onlyDraws_refl
  · exact mailboxQuery_frame hs h (exec_clearEventRecords p s) State.onlyDraws_refl
  · exact mailboxQuery_frame hs h (exec_getEventInterruptPolicy p s) State.onlyDraws_refl
  · exact mailboxQuery_frame hs h (exec_getFwInfo p s) State.onlyDraws_refl
  · exact mailboxQuery_frame hs h (exec_transferFw p s) State.onlyDraws_refl
  · exact mailboxQuery_frame hs h (exec_activateFw p s) State.onlyDraws_refl
  · exact mailboxQuery_frame hs h (exec_getSupportedLogs p s) State.onlyDraws_refl
  · exact mailboxQuery_frame hs h (exec_getLog p s) State.onlyDraws_mboxLog
  · exact mailboxQuery_frame hs h (exec_identifyMemoryDevice p s) State.onlyDraws_mboxMemory
  · exact mctpQuery_frame hs h (exec_getEndpointId s) State.onlyDraws_refl
  · exact mctpQuery_frame hs h (exec_getMctpVersionSupport s) fun u => u.onlyDraws_freeBytes 4
  · exact mctpQuery_frame hs h (exec_getMessageTypeSupport s) State.onlyDraws_refl
  · exact mctpQuery_frame hs h (exec_getVendorDefinedMessageSupport s) fun u => u.onlyDraws_freeBytes 2
  · exact busPacket_frame hs h (exec_neighbourDiscovery bus a b s)
  · exact busPacket_frame hs h (exec_icmpv6Echo bus a b payload s)

/-! ### Mailboxes, MCTP and field buses (R398 to R400) -/

theorem State.hears_blank (s : State) (tr : Transport) : State.hears { s with pending := [], out := [] } tr = s.hears tr := rfl

section answers
variable {s : State} {i : Instr}

/-- A mailbox command of a port that is heard does its part, and its output leaves. -/
theorem exec_mailbox_answers {p : Nat} {f : State → State × Nat × List Byte} (he : exec i s = run i s fun u => u.mailbox p f)
    (hw : i.wellFormed = true) (ha : s.awake) (hh : s.hears (.mailbox p) = true) :
    exec i s = .next (s.after i fun u => (f u).1.emit (.mailbox p (f u).2.1 (f u).2.2)) :=
  exec_completes he hw ha (if_pos hh)

/-- An MCTP control command that is heard does its part, and its response leaves. -/
theorem exec_mctp_answers {f : State → State × List Byte} (he : exec i s = run i s fun u => u.mctp f)
    (hw : i.wellFormed = true) (ha : s.awake) (hh : s.hears .i3c = true) :
    exec i s = .next (s.after i fun u => (f u).1.emit (.mctp (f u).2)) :=
  exec_completes he hw ha (if_pos hh)

/-- A packet to the address of a field bus that is heard is answered. -/
theorem exec_busPacket_answers {bus : Bool} {dest : Word128} {b : List Byte}
    (he : exec i s = run i s fun u => u.busPacket bus (busAddress bus) dest b) (hw : i.wellFormed = true) (ha : s.awake)
    (hh : s.hears (busOf bus) = true) :
    exec i s = .next (s.after i (·.emit (.ipv6 bus dest b))) :=
  exec_completes he hw ha (if_pos (by rw [State.hears_blank, hh, beq_self_eq_true]; rfl))

end answers

section objectFrame
variable {s : State} {p : Nat} {b : List Byte}

theorem State.objectFrame_of_short (hb : b.length < 16) : s.objectFrame p b = s.mailbox p fun u => (u, mboxLength, []) := by
  simp [State.objectFrame, hb]

theorem State.objectFrame_of_whole (hb : 16 ≤ b.length)
    (hf : Frame.whole { transport := .mailbox p, header := BitVec.ofNat 128 (ofLe (b.take 16)), data := b.drop 16 } = true) :
    s.objectFrame p b = s.frameArrives { transport := .mailbox p, header := BitVec.ofNat 128 (ofLe (b.take 16)), data := b.drop 16 } := by
  simp [State.objectFrame, Nat.not_lt.2 hb, hf]

end objectFrame

/-- Settles O17: a mailbox that is heard runs each command and sends its output. -/
theorem mailboxCommands : Obligations.MailboxCommands := by
  intro s p hp ha hh
  have hok : portOk p = true := decide_eq_true hp
  refine ⟨fun b hb => ?_, fun b hb hf => ?_, ?_, ?_, ?_, ?_, ?_, fun v => ?_, ?_, ?_, ?_, ?_, ?_, ?_⟩
  · exact exec_completes (exec_objectFrame p b s) hok ha ((State.objectFrame_of_short hb).trans (if_pos hh))
  · exact exec_completes (exec_objectFrame p b s) hok ha (State.objectFrame_of_whole hb hf)
  · exact exec_mailbox_answers (exec_identifyDevice p s) hok ha hh
  · exact exec_mailbox_answers (exec_backgroundOperationStatus p s) hok ha hh
  · exact exec_mailbox_answers (exec_getEventRecords p s) hok ha hh
  · exact exec_mailbox_answers (exec_clearEventRecords p s) hok ha hh
  · exact exec_mailbox_answers (exec_getEventInterruptPolicy p s) hok ha hh
  · exact exec_mailbox_answers (exec_setEventInterruptPolicy p v s) hok ha hh
  · exact exec_mailbox_answers (exec_getFwInfo p s) hok ha hh
  · exact exec_mailbox_answers (exec_transferFw p s) hok ha hh
  · exact exec_mailbox_answers (exec_activateFw p s) hok ha hh
  · exact exec_mailbox_answers (exec_getSupportedLogs p s) hok ha hh
  · exact exec_mailbox_answers (exec_getLog p s) hok ha hh
  · exact exec_mailbox_answers (exec_identifyMemoryDevice p s) hok ha hh

theorem State.setEid_of_endpoint {s : State} {e : BitVec 8} (h0 : e ≠ 0) (h1 : e ≠ 0xFF) :
    s.setEid e = ({ s with mgmt := { s.mgmt with eid := e } }, [0, 0, e, 0]) := by
  have hne : ¬ (decide (e = 0) || decide (e = 0xFF)) = true := by
    rw [Bool.or_eq_true, decide_eq_true_eq, decide_eq_true_eq]
    exact not_or.2 ⟨h0, h1⟩
  exact if_neg hne

/-- Settles O18: a transport that is heard answers, and an address, a bus that was UP and a bus that is enabled are set. -/
theorem managementTransports : Obligations.ManagementTransports := by
  intro s ha
  refine ⟨fun hh => ⟨fun e h0 h1 => ?_, ?_, ?_, ?_, ?_⟩, fun a => ?_, fun bus src hh => ?_, fun bus src b hh => ?_, fun bus hu => ?_,
    fun bus hen => ?_⟩
  · have hm := exec_mctp_answers (exec_setEndpointId e s) rfl ha hh
    simpa only [State.setEid_of_endpoint h0 h1] using hm
  · exact exec_mctp_answers (exec_getEndpointId s) rfl ha hh
  · exact exec_mctp_answers (exec_getMctpVersionSupport s) rfl ha hh
  · exact exec_mctp_answers (exec_getMessageTypeSupport s) rfl ha hh
  · exact exec_mctp_answers (exec_getVendorDefinedMessageSupport s) rfl ha hh
  · exact exec_completes (exec_dynamicAddressAssignment a s) rfl ha rfl
  · exact exec_busPacket_answers (exec_neighbourDiscovery bus (busAddress bus) src s) rfl ha hh
  · exact exec_busPacket_answers (exec_icmpv6Echo bus (busAddress bus) src b s) rfl ha hh
  · exact exec_completes (exec_fieldBusDown bus s) rfl ha (if_pos hu)
  · exact exec_completes (exec_fieldBusUp bus s) rfl ha (if_pos hen)

/-! ### Submission and acceptance (R402, R403) -/

/-- The response to a submission: its ticket, or that no place is left for it. -/
def submissionReply : Option Nat → Reply
  | some ticket => { kind := 0xA, arg := ticket }
  | none => .abort abortNoResource

/-- A record of a fitting length that nothing bars from CMD_SUBMIT is submitted. -/
theorem writeFrame_submission {s : State} {f : Frame} {sel : Selector} (hi : fhIndex f.header = 0x1F00) (hs : fhSub f.header = 1)
    (hb : s.writeBarred f.transport sel ⟨0x1F00, 1, .domain, .wo, 0, 16, 1024⟩ = none) (hlo : 16 ≤ f.data.length)
    (hhi : f.data.length ≤ 1024) :
    s.writeFrame f sel =
      ((s.submitCommand (clientKey f.client) (busBit f.transport) f.data).1,
        some (submissionReply (s.submitCommand (clientKey f.client) (busBit f.transport) f.data).2)) := by
  unfold State.writeFrame
  simp only [hi, hs, State.submitRecord, hb, Nat.not_lt.2 hlo, Nat.not_lt.2 hhi, if_false]
  rw [if_pos (by decide)]
  obtain ⟨t, ticket⟩ := s.submitCommand (clientKey f.client) (busBit f.transport) f.data
  cases ticket with
  | none => rfl
  | some n => rfl

/-- A named write of a record to CMD_SUBMIT submits it and answers with its ticket. -/
theorem namedWrite_submission {s : State} {c : Client} {record : List Byte} (hc : c.ok = true) (hlo : 16 ≤ record.length)
    (hhi : record.length ≤ 1024) (hl : record.length ≤ frameLimit c.transport) (hm : s.mayWrite c 0x1F00 1 none = true) :
    s.namedWrite c 0x1F00 1 record none =
      ((s.touchClient c).submitCommand (clientKey c) (busBit c.transport) record).1.reply c.transport
        (writeHeader c 0x1F00 1 record.length)
        (submissionReply ((s.touchClient c).submitCommand (clientKey c) (busBit c.transport) record).2) := by
  have hd : objDef 0x1F00 1 = some ⟨0x1F00, 1, .domain, .wo, 0, 16, 1024⟩ := rfl
  simp only [State.mayWrite, hd, Bool.and_eq_true, bne_iff_ne, ne_eq, Bool.not_eq_true', Option.isNone_iff_eq_none] at hm
  obtain ⟨⟨⟨⟨-, hear⟩, busy⟩, hn⟩, hb⟩ := hm
  obtain ⟨-, -, -, -, -, hidx, hsub, -, -⟩ := writeHeader_fields (c := c) (index := 0x1F00) (sub := 1) (len := record.length)
    (Client.number_lt hc) (by decide) (by decide) (limit_lt hl)
  have hcl := namedFrame_client (pick := none) hc (by decide : 0x1F00 < 2 ^ 16) (by decide : 1 < 2 ^ 8) hl
  rw [← namedFrame_header (pick := none)] at hidx hsub
  rw [namedWrite_serves rfl hc hn hear busy (by decide) (by decide) hl, writeFrame_submission hidx hsub hb hlo hhi, hcl]
  rfl

theorem State.acceptNext_starts {s : State} {c : Cmd} (hf : s.mgmt.cmds.find? s.mayStart = some c)
    (hw : s.power.windowOpen = true → runsInWindow c.opcode = true) :
    s.acceptNext = ({ s with mgmt := { s.mgmt with
      cmds := mapIf (·.ticket == c.ticket) (fun d => { d with running := true, accepted := s.now, acceptedCanal := s.canalTime })
        s.mgmt.cmds } } : State).startCommand c := by
  have hgo : ¬ (!s.mayStart c) = true := by simp [List.find?_some hf]
  have hopen : ¬ (s.power.windowOpen && !runsInWindow c.opcode) = true := by
    rw [Bool.and_eq_true, Bool.not_eq_true']
    exact fun ⟨ho, hr⟩ => Bool.false_ne_true (hr.symm.trans (hw ho))
  simp only [State.acceptNext, hf]
  exact (if_neg hgo).trans (if_neg hopen)

/-- Settles O11: the record is handled as its frame, and the oldest command whose turn has come passes the checks of its acceptance. -/
theorem commandEntry : Obligations.CommandEntry := by
  intro s ha
  refine ⟨fun c record hc hlo hhi hl hm => ?_, fun c hf hw => ?_⟩
  · refine exec_completes (exec_cmdSubmit c record s) hc ha ?_
    rw [namedWrite_submission hc hlo hhi hl (State.mayWrite_blank.trans hm)]
    obtain ⟨t, ticket⟩ := (State.touchClient { s with pending := [], out := [] } c).submitCommand (clientKey c) (busBit c.transport) record
    cases ticket with
    | none => rfl
    | some n => rfl
  · exact exec_completes (exec_commandAccept s) rfl ha (State.acceptNext_starts (s := { s with pending := [], out := [] }) hf hw)

/-! ### One frame (R385 to R396) -/

namespace State
variable {s t : State} {f : Frame} {sel : Selector}

theorem handleWrite_segWrite (hk : fhKind f.header = 4) :
    s.handleWrite f sel = ((s.segWriteFrame f sel).1, some (s.segWriteFrame f sel).2) := by
  simp [handleWrite, hk]

theorem handleWrite_segCancel (hk : fhKind f.header = 5) :
    s.handleWrite f sel = ((s.segCancelFrame f sel).1, some (s.segCancelFrame f sel).2) := by
  simp [handleWrite, hk]

/-- Time stands still while a frame is handled. -/
theorem found_now (s : State) (c : Client) : (s.found c).now = s.now := by
  obtain ⟨clients, lost, ras, h⟩ := touchClient_eq (s := { s with pending := [], out := [] }) (c := c)
  rw [found, h]

theorem selFor_of_unpicked (h : f.pick = none) : s.selFor f = s.selOf f.client := by
  simp only [selFor, h]

section serve
variable (hf : f.formOk = true) (hp : f.pick = none)
include hf hp

theorem serveFrame_read {r : Reply} (hk : fhKind f.header = 1)
    (hr : (s.found f.client).readFrame f ((s.found f.client).selOf f.client) = (t, r)) :
    serveFrame { s with pending := [], out := [] } f = t.reply f.transport f.header r := by
  have hform : ¬ (!f.formOk) = true := by simp [hf]
  rw [found] at hr
  rw [serveFrame, if_neg hform, if_pos hk, selFor_of_unpicked hp, hr]

theorem serveFrame_segRead {r : State × Reply} (hk : fhKind f.header = 3)
    (hr : (s.found f.client).segReadFrame f ((s.found f.client).selOf f.client) = r) :
    serveFrame { s with pending := [], out := [] } f = r.1.reply f.transport f.header r.2 := by
  have hform : ¬ (!f.formOk) = true := by simp [hf]
  rw [found] at hr
  rw [serveFrame, if_neg hform, if_neg (by omega), if_pos hk, selFor_of_unpicked hp, hr]

/-- A frame that writes and has no sequence number is handled, and nothing of it is recorded. -/
theorem serveFrame_write {r : Reply} (h1 : fhKind f.header ≠ 1) (h3 : fhKind f.header ≠ 3) (hq : fhSeq f.header = 0)
    (hr : (s.found f.client).handleWrite f ((s.found f.client).selOf f.client) = (t, some r)) :
    serveFrame { s with pending := [], out := [] } f = t.reply f.transport f.header r := by
  have hform : ¬ (!f.formOk) = true := by simp [hf]
  rw [found] at hr
  rw [serveFrame, if_neg hform, if_neg h1, if_neg h3, if_pos hq, selFor_of_unpicked hp]
  simp [performWrite, hq, hr]

/-- A WRITE frame whose object accepts the data (R392). -/
theorem serveFrame_accepted (hk : fhKind f.header = 2) (hq : fhSeq f.header = 0)
    (h1 : ¬ (fhIndex f.header = 0x1F00 ∧ fhSub f.header = 1)) (h2 : ¬ (fhIndex f.header = 0x2020 ∧ fhSub f.header = 2))
    (hw : (s.found f.client).checkedWrite f.client ((s.found f.client).selOf f.client) (fhIndex f.header) (fhSub f.header) f.data = .ok t) :
    serveFrame { s with pending := [], out := [] } f = t.reply f.transport f.header { kind := 0xA } :=
  serveFrame_write hf hp (by omega) (by omega) hq ((handleWrite_write hk).trans (writeFrame_ok rfl rfl rfl h1 h2 hw))

theorem serveFrame_segWrite {r : Reply} (hk : fhKind f.header = 4) (hq : fhSeq f.header = 0)
    (hr : (s.found f.client).segWriteFrame f ((s.found f.client).selOf f.client) = (t, r)) :
    serveFrame { s with pending := [], out := [] } f = t.reply f.transport f.header r :=
  serveFrame_write hf hp (by omega) (by omega) hq (by rw [handleWrite_segWrite hk, hr])

theorem serveFrame_segCancel {r : Reply} (hk : fhKind f.header = 5) (hq : fhSeq f.header = 0)
    (hr : (s.found f.client).segCancelFrame f ((s.found f.client).selOf f.client) = (t, r)) :
    serveFrame { s with pending := [], out := [] } f = t.reply f.transport f.header r :=
  serveFrame_write hf hp (by omega) (by omega) hq (by rw [handleWrite_segCancel hk, hr])

end serve

/-- A value that fits one frame is read whole (R392). -/
theorem readFrame_value {b : List Byte} (hr : s.checkedRead f.client sel (fhIndex f.header) (fhSub f.header) = (t, .ok b))
    (hl : b.length ≤ frameLimit f.transport) : s.readFrame f sel = (t, { kind := 9, data := b }) := by
  simp only [readFrame, hr, Nat.not_lt.2 hl, if_false]

section segments
variable {x : Transfer}

theorem segReadFrame_of_open (hb : s.segmentBarred f sel false = none)
    (hx : s.transferOf f.client (fhIndex f.header) (fhSub f.header) = some x) : s.segReadFrame f sel = s.answerSegment f x := by
  simp only [segReadFrame, hb, hx]

/-- The first segment of a write that does not end it opens a transfer with its data (R388). -/
theorem segWriteFrame_opens (hb : s.segmentBarred f sel true = none)
    (hx : s.transferOf f.client (fhIndex f.header) (fhSub f.header) = none) (hr : s.transferRoom f.client = true)
    (ha : fhArg f.header = 0) (hl : fhFlags f.header = 0) (hd : f.data.length ≤ 1024) :
    s.segWriteFrame f sel =
      (s.putTransfer f.client
        { index := fhIndex f.header, sub := fhSub f.header, write := true, bytes := f.data, lastOffset := 0, touched := s.now },
        { kind := 0xC }) := by
  simp [segWriteFrame, appendSegment, hb, hx, hr, ha, hl, Nat.not_lt.2 hd]

theorem segCancelFrame_of_open (hb : s.segmentBarred f sel (fhIndex f.header == 0x1F00) = none)
    (hx : s.transferOf f.client (fhIndex f.header) (fhSub f.header) = some x) :
    s.segCancelFrame f sel = (s.closeTransfer f.client (fhIndex f.header) (fhSub f.header), { kind := 0xD }) := by
  simp only [segCancelFrame, hb, hx]

theorem segmentLate_of_due {c : Client} {i j : Nat} (hx : s.transferOf c i j = some x)
    (ht : x.touched + s.reg 0x1100 3 * 1000000 ≤ s.now) : s.segmentLate c i j = (s.closeTransfer c i j).raise 0x1002 .note := by
  simp only [segmentLate, hx, Nat.not_lt.2 ht, if_false]

theorem segmentOver_of_due {c : Client} {i j sent : Nat} (hx : s.transferOf c i j = some x) (hs : x.lastSent = some sent)
    (ht : sent + 1000000000 ≤ s.now) : s.segmentOver c i j = s.closeTransfer c i j := by
  simp only [segmentOver, hx, Option.bind_some, hs, Nat.not_lt.2 ht, if_false]

end segments

theorem mayServe_formOk (h : s.mayServe f = true) : f.formOk = true := by
  simp only [mayServe, Bool.and_eq_true] at h
  obtain ⟨⟨-, form⟩, -⟩ := h
  exact form

theorem mayServe_awake (h : s.mayServe f = true) : s.awake := by
  simp only [mayServe, Bool.and_eq_true, bne_iff_ne, ne_eq] at h
  obtain ⟨⟨⟨⟨awake, -⟩, -⟩, -⟩, -⟩ := h
  exact awake

/-- A frame that may be served is handled as it arrives. -/
theorem frameArrives_of_mayServe (h : s.mayServe f = true) : s.frameArrives f = s.serveFrame f := by
  simp only [mayServe, Bool.and_eq_true, Bool.not_eq_true'] at h
  obtain ⟨⟨⟨⟨-, hear⟩, whole⟩, -⟩, busy⟩ := h
  simp [frameArrives, hear, whole, busy]

end State

/-- The command of a frame that may be served completes as the frame is handled. -/
theorem exec_frame_completes {s : State} {i : Instr} {f : Frame} {g : State → State}
    (he : exec i s = run i s fun u => u.frameArrives f) (hw : i.wellFormed = true) (hm : s.mayServe f = true)
    (hg : State.serveFrame { s with pending := [], out := [] } f = g { s with pending := [], out := [] }) :
    exec i s = .next (s.after i g) :=
  exec_completes he hw (State.mayServe_awake hm) ((State.frameArrives_of_mayServe (s := { s with pending := [], out := [] }) hm).trans hg)

/-- Settles O16: each frame is served by its kind, whose checks it passes, and each timer finds what it names. -/
theorem frameRows : Obligations.FrameRows := by
  intro s tr h data t htr
  refine ⟨fun b hm hk hl hr => ?_, fun hm hk hq h1 h2 hw => ?_, fun x hm hk hb hx => ?_, fun hm hk hq hf ha hl hb hx hr => ?_,
    fun x hm hk hq hb hx => ?_, fun c i j x hc hi hj ha hx => ?_, fun c q hc hq ha => ?_⟩
  · exact exec_frame_completes (exec_frameRead tr h s) htr hm
      (State.serveFrame_read (State.mayServe_formOk hm) rfl hk (State.readFrame_value hr hl))
  · exact exec_frame_completes (exec_frameWrite tr h data s) htr hm
      (State.serveFrame_accepted (State.mayServe_formOk hm) rfl hk hq h1 h2 hw)
  · exact exec_frame_completes (exec_segRead tr h s) htr hm
      (State.serveFrame_segRead (State.mayServe_formOk hm) rfl hk (State.segReadFrame_of_open hb hx))
  · refine exec_frame_completes (exec_segWrite tr h data s) htr hm (State.serveFrame_segWrite (State.mayServe_formOk hm) rfl hk hq ?_)
    rw [← s.found_now ⟨tr, fhClient h⟩]
    exact State.segWriteFrame_opens hb hx hr ha hf hl
  · exact exec_frame_completes (exec_segCancel tr h s) htr hm
      (State.serveFrame_segCancel (State.mayServe_formOk hm) rfl hk hq (State.segCancelFrame_of_open hb hx))
  · have hwf : (c.ok && fits 16 i && fits 8 j) = true := by simp [fits, hc, hi, hj, -Nat.reducePow]
    refine ⟨fun ht => ?_, fun sent hs ht => ?_⟩
    · exact exec_completes (exec_segTimeout c i j s) hwf ha (State.segmentLate_of_due (s := { s with pending := [], out := [] }) hx ht)
    · exact exec_completes (exec_segReadClose c i j s) hwf ha
        (State.segmentOver_of_due (s := { s with pending := [], out := [] }) hx hs ht)
  · have hwf : (c.ok && fits 16 q) = true := by simp [fits, hc, hq, -Nat.reducePow]
    exact exec_completes (exec_objDedupExpiry c q s) hwf ha rfl

end Sys2Proof.Machine
end

section
/-! SUPPORT. Start-up, reset and power: what a command leaves of the queue, the history and the straps, the pins, and the timed steps of start-up, warm reset and power failure. -/

namespace Sys2Proof.Machine

/-! ### The queue and what has left the device -/

/-- Settles O42: a command answers the state as it was, or commits an effect, which keeps the queue and appends what it sent. -/
theorem queueAndHistoryStand : Obligations.QueueAndHistoryStand := by
  intro i s t h
  rcases exec_cases i s with he | he | ⟨f, he⟩
  · exact absurd (he.symm.trans h) (by simp)
  · obtain rfl : s = t := by simpa using he.symm.trans h
    exact ⟨rfl, [], by simp⟩
  · obtain rfl : s.after i f = t := by simpa using he.symm.trans h
    exact ⟨commit_pending .., _, commit_out ..⟩

/-! ### A device held in reset (R413, R415) -/

/-- Settles O46: every meaning is a run, and a run in reset leaves the state unless the command is one of the pins'. -/
theorem heldInResetIsDeaf : Obligations.HeldInResetIsDeaf := by
  intro i s hs hw hi
  obtain ⟨f, hf⟩ := exec_eq_run i s
  rw [hf, run_deaf hw hs hi]

/-- A pin's command completes, in reset or out of it, with an effect that its meaning's own effect comes to on this state. -/
theorem exec_pin_completes {s : State} {i : Instr} {f g : State → State} (he : exec i s = run i s f) (hw : i.wellFormed = true)
    (hi : inReset i = true) (hf : f { s with pending := [], out := [] } = g { s with pending := [], out := [] }) :
    exec i s = .next (s.after i g) := by
  rw [he, run_inReset hw hi, State.after, State.after, hf]

/-! ### What the pins do (R413, R416, R433, R434, R441) -/

namespace State
variable {s : State}

theorem resetLow_of_long {lowNs : Nat} (h : 1000 ≤ lowNs) : s.resetLow lowNs = s.hold 1 := by
  rw [resetLow, if_neg (by omega), if_neg (by omega)]

/-- The release of RESET_N latches the straps and sends the AVSBus command, when the device is held and no trip is asserted. -/
theorem pinsRelease_of_held {straps : BitVec 32} {c : ColdPending} (hs : s.power.device = .starting) (hc : s.power.cold = none)
    (ht : s.power.thermtrip = false) :
    s.pinsRelease straps c =
      ({ s with power := { s.power with straps := straps, pwrok := true, releasedAt := s.now, cold := some c } } : State).sendAvs := by
  simp [pinsRelease, hs, hc, ht]

theorem retryAvs_of_due (ha : s.power.avsAcked = false) (ht : s.power.avsSent + 10000 ≤ s.now) : s.retryAvs = s.sendAvs := by
  simp [retryAvs, ha, Nat.not_lt.2 ht]

theorem avsAcknowledged_of_cold {c : ColdPending} (hc : s.power.cold = some c) (hh : c.halted = false) :
    s.avsAcknowledged = ({ s with power := { s.power with avsAcked := true } } : State).finishCold c := by
  simp [avsAcknowledged, hc, hh]

/-- The first sensor that reads below 0 °C raises VCORE, which a device out of reset commands at once. -/
theorem sensorReads_of_first_cold {n : Nat} {celsius : Int} (hn : celsius < 0) (hr : s.power.avsRaised = false)
    (h0 : s.power.sensors = []) (ha : s.awake) :
    s.sensorReads n celsius =
      ({ s with power := { s.power with sensors := Table.set 25 s.power.sensors n celsius, avsRaised := true } } : State).sendAvs := by
  have hset : Table.set 25 ([] : Table Int) n celsius = [(n, celsius)] := by
    have hne : celsius ≠ 25 := by omega
    simp [Table.set, hne]
  simp [sensorReads, h0, hset, hn, hr, ha]

/-- A qualified low on PFAIL_N without chatter. -/
theorem pfailAssert_of_low {lowNs edges : Nat} (hl : 200 ≤ lowNs) (he : edges ≤ 4) (hs : s.power.pfailStuck = false) :
    s.pfailAssert lowNs edges = ({ s with power := { s.power with pfailLow := true } } : State).powerFails := by
  simp [pfailAssert, hl, Nat.not_lt.2 he, hs]

end State

/-- Settles O35: each pin is heard in every state of the device, and what it shows decides what it does. -/
theorem pinSteps : Obligations.PinSteps := by
  intro s
  refine ⟨fun lowNs hl => ?_, fun straps hs hc ht => ?_, ?_, ?_, fun ha ht => ?_, fun c hc hh => ?_,
    fun n celsius hn hlow hr h0 ha => ?_, fun lowNs edges hl he hst => ?_, ?_⟩
  · exact exec_pin_completes (exec_resetNAssert lowNs s) rfl rfl (State.resetLow_of_long hl)
  · exact exec_pin_completes (exec_resetNRelease straps [] [] [] true s) rfl rfl (State.pinsRelease_of_held hs hc ht)
  · exact exec_pin_completes (exec_pwrokLow s) rfl rfl rfl
  · exact exec_pin_completes (exec_thermalTrip s) rfl rfl rfl
  · exact exec_pin_completes (exec_avsRetry s) rfl rfl (State.retryAvs_of_due ha ht)
  · exact exec_pin_completes (exec_avsAck s) rfl rfl (State.avsAcknowledged_of_cold (s := { s with pending := [], out := [] }) hc hh)
  · exact exec_pin_completes (exec_coldSensorChange n celsius s) (decide_eq_true hn) rfl
      (State.sensorReads_of_first_cold (s := { s with pending := [], out := [] }) hlow hr h0 ha)
  · exact exec_pin_completes (exec_pfailNAssert lowNs edges s) rfl rfl (State.pfailAssert_of_low hl he hst)
  · exact exec_pin_completes (exec_pfailNHigh s) rfl rfl rfl

/-! ### The straps (R413) -/

namespace State

theorem noteRestarts_power (s : State) : s.noteRestarts.power = s.power := by
  obtain ⟨regs, ras, h, -⟩ := s.noteRestarts_eq
  rw [h]

/-- A command of a cold reset leaves the straps as its effect latched them. -/
theorem after_straps_of_cold {s : State} {i : Instr} {f : State → State} (h : resetsCold i = true) :
    (s.after i f).power.straps = (f { s with pending := [], out := [] }).power.straps := by
  rw [after, h, ← noteRestarts_power (f _)]
  rfl

theorem readObject_strapWord (s : State) (tr : Transport) (x : Selector) :
    (s.readObject tr x 0x1010 1).2 = .num s.power.straps.toNat := rfl

end State

/-- A step whose command is none of a cold reset's leaves the straps. -/
theorem step_straps_of_warm {s t : State} (hwarm : ∀ c ∈ s.pending.head?, resetsCold c = false) (h : step s = .next t) :
    t.power.straps = s.power.straps := by
  rcases step_cases h with ⟨l, rfl⟩ | rfl | ⟨l, u, cold, rfl, hcold⟩
  · rfl
  · obtain ⟨time, slew, ht⟩ := s.passTime_eq
    rw [ht]
  · cases cold with
    | false => exact State.latched_straps_of_warm { s with pending := l } _
    | true =>
      obtain ⟨c, hm, hc⟩ := hcold rfl
      exact absurd ((hwarm c hm).symm.trans hc) (by simp)

/-- Settles O45: the release of RESET_N latches what it sampled, a commit of any other command keeps the straps, and the read of 1010:01 shows them. -/
theorem strapsHold : Obligations.StrapsHold := by
  refine ⟨fun s t straps hs hc ht h => ?_, fun s t => step_straps_of_warm, State.readObject_strapWord⟩
  rw [exec_resetNRelease, run_inReset rfl rfl] at h
  obtain rfl := Host.Outcome.next.inj h
  rw [State.after_straps_of_cold rfl, State.pinsRelease_of_held (s := { s with pending := [], out := [] }) hs hc ht]
  rfl

/-! ### The timed steps of start-up, warm reset and power failure (R419, R422, R428, R434) -/

namespace State
variable {s : State}

theorem awake_of_device {d : DeviceState} (hs : s.power.device = d) (hd : d ≠ .starting) : s.awake := fun h => hd (hs.symm.trans h)

theorem startupTimeout_of_due (hs : s.power.device = .window) (h0 : s.reg 0x6000 4 ≠ 0)
    (ht : s.power.windowAt + s.reg 0x6000 4 * 1000000 ≤ s.now) : s.startupTimeout = (s.raise 0xB00B .note).closeWindow := by
  simp [startupTimeout, hs, h0, Nat.not_lt.2 ht]

theorem warmDrainEnd_of_due {bad : List Nat} {romOk : Bool} (hs : s.power.device = .warmResetting) (hd : s.power.warmDrained = false)
    (ht : s.power.warmAt + 100000 ≤ s.now) : s.warmDrainEnd bad romOk = s.endWarmDrain bad romOk := by
  simp [warmDrainEnd, hs, hd, Nat.not_lt.2 ht]

theorem warmRestored_of_drained (hs : s.power.device = .warmResetting) (hd : s.power.warmDrained = true) :
    s.warmRestored = s.endWarmRestore := by
  simp [warmRestored, hs, hd]

theorem drainDeadline_of_due (hs : s.power.device = .pfDraining) (ht : s.power.pfAt + s.inEffect 0x6010 2 * 1000 ≤ s.now) :
    s.drainDeadline = s.missDrain := by
  simp [drainDeadline, hs, Nat.not_lt.2 ht]

theorem pfailStays_of_stuck (hl : s.power.pfailLow = true) (hst : s.power.pfailStuck = false)
    (ht : s.power.windowAt + 10000000 ≤ s.now) (hf : s.isFatal = false) (hs : s.power.device = .running) :
    s.pfailStays = ({ s with power := { s.power with pfailStuck := true } } : State).raise 0xB008 .degraded := by
  simp [pfailStays, hl, hst, Nat.not_lt.2 ht, hf, hs]

end State

/-- Settles O36: each step finds the device in the state that it ends, and its time come. -/
theorem powerSteps : Obligations.PowerSteps := by
  intro s
  refine ⟨fun hs h0 ht => ?_, fun bad romOk hs hd ht hbad => ?_, fun hs hd => ?_, fun hs ht => ?_, fun hl hst ht hf hs => ?_⟩
  · exact exec_completes (exec_startupTimeout s) rfl (State.awake_of_device hs (by simp)) (State.startupTimeout_of_due hs h0 ht)
  · exact exec_completes (exec_warmDrainEnd bad romOk s) hbad (State.awake_of_device hs (by simp)) (State.warmDrainEnd_of_due hs hd ht)
  · exact exec_completes (exec_warmRestoreDone s) rfl (State.awake_of_device hs (by simp)) (State.warmRestored_of_drained hs hd)
  · exact exec_completes (exec_pfDrainDeadline s) rfl (State.awake_of_device hs (by simp)) (State.drainDeadline_of_due hs ht)
  · exact exec_completes (exec_pfailNStuck s) rfl (State.awake_of_device hs (by simp)) (State.pfailStays_of_stuck hl hst ht hf hs)

end Sys2Proof.Machine
end
